-- ==== Sys2Proof/Word.lean ====
section
/-! DEFINITION. The word types of the feed link and the names of the part's numbered things. -/

namespace Sys2Proof

/-- One byte of the feed link (11.1). -/
abbrev Byte := BitVec 8

/-- A two-byte field: tags, pass numbers, sequence numbers, credit counts (11.1, 11.2). -/
abbrev Half := BitVec 16

/-- A four-byte slot, a digest, a CRC (R40, R192). -/
abbrev Word := BitVec 32

/-- The 2,048 bytes of one sector, in order (00_scope 5.1). -/
abbrev Sector := List Byte

/-- Jobs J0 to J3 (00_scope 5.4). -/
abbrev JobId := Fin 4

/-- Drive ports P0 to P15; tray Dn belongs to port Pn (00_scope 5.4). -/
abbrev PortId := Fin 16

/-- Input bins I0 to I3 (00_scope 5.4). -/
abbrev BinId := Fin 4

/-- Shelf slots S0 to S3 (00_scope 5.4). -/
abbrev SlotId := Fin 4

/-- Grade profiles 0 to 7 (R15). -/
abbrev ProfileId := Fin 8

/-- Templates 0 to 7 (R153). -/
abbrev TemplateId := Fin 8

end Sys2Proof
end

