-- ==== Sys2Proof/Config.lean ====
section
/-! DEFINITION. What the part fixes, and the values the spec leaves open (free values). -/

namespace Sys2Proof.Config

/-- Segments of the ring pool (00_scope 3, R2). -/
def ringPool : Nat := 32768

/-- Sectors of a segment (00_scope 5.1). -/
def segment : Nat := 16

/-- Sectors of a full verify block (00_scope 5.1). -/
def block : Nat := 256

/-- Bytes of a sector (00_scope 5.1). -/
def sectorBytes : Nat := 2048

/-- The greatest image length in sectors (R13). -/
def maxImage : Nat := 33554432

/-- Entries of a digest table (02, 2.8). -/
def digestEntries : Nat := 131072

/-- Bytes of a template raster (R154). -/
def rasterBytes : Nat := 131072

/-- Disc reports the report queue holds (R127). -/
def reportRoom : Nat := 32

/-- Commands whose answers may be unsent at once (R185). -/
def answerRoom : Nat := 8

/-- The greatest payload of a good frame in bytes (R181). -/
def maxPayload : Nat := 32800

/-- A byte of image memory that nothing has written: DESIGN CHOICE (log 6), unsafe. -/
def dramByte : Byte := 0

/-- A sector slot of a ring that nothing has written: DESIGN CHOICE (log 6), unsafe. -/
def dramSector : Sector := List.replicate sectorBytes dramByte

/-- A digest entry that nothing has written: DESIGN CHOICE (log 6), unsafe. -/
def dramDigest : Word := 0

/-- FREE VALUE (log 7): row `gy` of built-in glyph `g`, bit 15 the dot gx = 0. R156 names the shapes of
glyphs 0 to 14 and gives no dots. -/
opaque builtinGlyphRow (g gy : Nat) : BitVec 16

/-- FREE VALUE (log 8): what a 4-byte READ slot holds for a value of 2^32 or more. R193 gives every field
a 4-byte slot, and R95's S exceeds one. -/
opaque wideSlot (value : Nat) : Word

/-- FREE VALUE (log 40): the index byte of an INVALID result whose index is above 255. 11.3 gives the index one byte, and
R13 can refuse at an extent beyond the 255th. -/
opaque wideIndex (index : Nat) : Byte

end Sys2Proof.Config
end

