-- ==== Sys2Proof/Machine/Bytes.lean ====
section
/-! DEFINITION. Byte order, slots and the CRC of R40. -/

namespace Sys2Proof.Machine

/-- Byte `i` of a payload; a byte beyond its end reads as 0 (the length check of R186 refuses such a payload). -/
def byteAt (p : List Byte) (i : Nat) : Byte := p.getD i 0

/-- Two bytes, least significant first (11). -/
def half (p : List Byte) (i : Nat) : Half := byteAt p (i + 1) ++ byteAt p i

/-- Four bytes, least significant first (11). -/
def word (p : List Byte) (i : Nat) : Word := byteAt p (i + 3) ++ byteAt p (i + 2) ++ byteAt p (i + 1) ++ byteAt p i

/-- The bytes of a half, least significant first (11). -/
def halfBytes (w : Half) : List Byte := [w.extractLsb' 0 8, w.extractLsb' 8 8]

/-- The bytes of a word, least significant first (11). -/
def wordBytes (w : Word) : List Byte :=
  [w.extractLsb' 0 8, w.extractLsb' 8 8, w.extractLsb' 16 8, w.extractLsb' 24 8]

/-- A number as a word; of 2^32 or more, a free value (R193 leaves it open, log 8). -/
def slotWord (n : Nat) : Word := if n < 4294967296 then BitVec.ofNat 32 n else Config.wideSlot n

/-- A 4-byte slot holding a number (R193). -/
def slot (n : Nat) : List Byte := wordBytes (slotWord n)

/-- A 4-byte slot holding a byte in its lowest byte (R192). -/
def slotByte (b : Byte) : List Byte := [b, 0, 0, 0]

/-- A 4-byte slot holding a half in its two lowest bytes (R192). -/
def slotHalf (h : Half) : List Byte := halfBytes h ++ [0, 0]

/-- A number as one byte. -/
def byteOf (n : Nat) : Byte := BitVec.ofNat 8 n

/-- A number as a half. -/
def halfOf (n : Nat) : Half := BitVec.ofNat 16 n

/-! ## The CRC-32 of R40 -/

/-- The generator 04C11DB7 hex, the x^32 term left out (R40). -/
def crcPolynomial : Word := 0x04C11DB7

/-- The register before the first bit: all ones (R40). -/
def crcPreset : Word := 0xFFFFFFFF

/-- One bit of the message through the register, most significant bit of the register first (R40). -/
def crcBit (r : Word) (b : Bool) : Word := if r.msb != b then (r <<< 1) ^^^ crcPolynomial else r <<< 1

/-- One byte, its most significant bit first (R40). -/
def crcByte (r : Word) (b : Byte) : Word :=
  [7, 6, 5, 4, 3, 2, 1, 0].foldl (fun r i => crcBit r (b.getLsbD i)) r

/-- A run of bytes through the register (R40). -/
def crcRun (r : Word) (bs : List Byte) : Word := bs.foldl crcByte r

/-- The value a register gives: its complement (R40). -/
def crcValue (r : Word) : Word := ~~~r

/-- The CRC of a message (R40). -/
def crc (bs : List Byte) : Word := crcValue (crcRun crcPreset bs)

end Sys2Proof.Machine
end

