-- ==== Sys2Proof/Syntax.lean ====
section
/-! DEFINITION. The rows of spec/opcode_table.json as one inductive, with their operands. -/

namespace Sys2Proof

/-- What a command frame brings beside its fields: the tag of its header and its payload length (R186). -/
structure CmdHdr where
  tag : Half
  len : Nat
  deriving DecidableEq, Repr

/-- An image map extent as carried (11.2). -/
structure ExtentEntry where
  kind : Byte
  fill : Byte
  length : Word
  deriving DecidableEq, Repr

/-- A grade profile entry as carried (11.2). -/
structure ProfileEntry where
  mode : Byte
  stride : Byte
  weight : Byte
  peakWarn : Half
  peakFail : Half
  meanWarn : Half
  meanFail : Half
  dest : Byte
  printMarginal : Byte
  deriving DecidableEq, Repr

/-- A merge field entry as carried (11.2). -/
structure FieldEntry where
  kind : Byte
  scale : Byte
  width : Byte
  count : Byte
  x : Half
  y : Half
  glyphs : Vector Byte 16
  deriving DecidableEq, Repr

/-- The eleven entries of LOAD TIMING in the order of R18. -/
structure TimingEntry where
  probe : Half
  tray : Half
  check : Half
  write : Half
  sync : Half
  close : Half
  read : Half
  wake : Half
  retry : Byte
  pause : Half
  standby : Byte
  deriving DecidableEq, Repr

/-- A glyph: 24 rows of 16 dots, the most significant bit of a row being gx = 0 (R156, R192). -/
abbrev Glyph := Vector (BitVec 16) 24

/-- The fields of READ after its code (R192, R193). -/
structure ReadArgs where
  kind : Byte
  number : Half
  first : Word
  count : Word
  clear : Byte
  deriving DecidableEq, Repr

/-- A drive's outcome for one packet command (R70). TIMEOUT is no answer of the drive. -/
inductive Answer where
  | good
  | recovered (corrected : Nat)
  | mediaError (lba : Option Nat)
  | notReady
  | noDisc
  | notBlank
  | tooSmall
  | aborted
  | hardware
  deriving DecidableEq, Repr

/-- What identify reports when GOOD (R70). -/
structure IdentifyInfo where
  optical : Bool
  disc : Bool
  trayOpen : Bool
  deriving DecidableEq, Repr

/-- The gripper's two sensors (R131). -/
inductive GripSensor where
  | present
  | double
  deriving DecidableEq, Repr

/-- The bins with a full sensor: O0, O1 and X (R131). -/
inductive OutBin where
  | o0
  | o1
  | x
  deriving DecidableEq, Repr

/-- The places with a present sensor (R131). -/
inductive SensedPlace where
  | shelf (k : SlotId)
  | platter
  deriving DecidableEq, Repr

/-- The operations and events of the part: one constructor per row of spec/opcode_table.json. -/
inductive Instr where
  -- reset
  | powerOn
  | resetPin
  | resetRelease
  -- job commands
  | jobOpen (h : CmdHdr) (job : Byte) (ring : Half)
  | setJob (h : CmdHdr) (job : Byte) (prefill lag target : Half) (bin profile template : Byte)
  | jobRun (h : CmdHdr) (job : Byte)
  | jobDrain (h : CmdHdr) (job : Byte)
  | jobHalt (h : CmdHdr) (job : Byte)
  | jobClose (h : CmdHdr) (job : Byte)
  -- table commands
  | loadMap (h : CmdHdr) (job : Byte) (extents : List ExtentEntry)
  | loadProfile (h : CmdHdr) (profile : Byte) (entry : ProfileEntry)
  | assignPort (h : CmdHdr) (port job : Byte)
  | loadTiming (h : CmdHdr) (entry : TimingEntry)
  | setSerial (h : CmdHdr) (job : Byte) (base : Word) (step : Half) (width pad : Byte)
  | digestReset (h : CmdHdr) (job : Byte)
  -- pass commands
  | passStart (h : CmdHdr) (job : Byte)
  | passAbort (h : CmdHdr) (job : Byte)
  -- port commands
  | portReset (h : CmdHdr) (port : Byte)
  | portService (h : CmdHdr) (port : Byte)
  -- transport commands
  | transportHome (h : CmdHdr)
  | transportPause (h : CmdHdr)
  | transportResume (h : CmdHdr)
  | hostMove (h : CmdHdr) (source dest : Byte)
  -- label commands
  | loadTemplate (h : CmdHdr) (template : Byte) (offset : Word) (chunk : List Byte)
  | setTemplate (h : CmdHdr) (template : Byte) (inner outer : Half) (fields : List FieldEntry)
  | loadGlyphs (h : CmdHdr) (glyphs : Vector Glyph 16)
  | ribbonLoad (h : CmdHdr) (count : Half)
  | printerResume (h : CmdHdr)
  -- management commands
  | ackNotice (h : CmdHdr) (cls cause : Byte) (obj : Half)
  | faultClear (h : CmdHdr) (job : Byte)
  | read (h : CmdHdr) (args : ReadArgs)
  | partReset (h : CmdHdr)
  | unknownCommand (h : CmdHdr)
  | commandDropped
  -- other frames and the receiver
  | otherKindFrame (kind : Byte)
  | imageFrame (job : Byte) (payload : List Byte)
  | badFrame
  | huntGoodFrame
  | frameDuringReset
  | laneSignalLoss (lane : Fin 4)
  -- the transmitter
  | answerSent
  | resetPerformed
  | creditSent
  | noticeSent
  | reportSent
  -- the composer
  | fillSector (job : JobId)
  -- drives
  | linkUp (port : PortId)
  | linkDown (port : PortId)
  | identifyAnswer (port : PortId) (answer : Answer) (info : IdentifyInfo)
  | trayAnswer (port : PortId) (answer : Answer)
  | sleepAnswer (port : PortId) (answer : Answer)
  | wakeAnswer (port : PortId) (answer : Answer)
  | mediaCheckAnswer (port : PortId) (answer : Answer)
  | writeAnswer (port : PortId) (answer : Answer)
  | syncAnswer (port : PortId) (answer : Answer)
  | finaliseAnswer (port : PortId) (answer : Answer)
  | readSector (port : PortId) (data : Sector)
  | readAnswer (port : PortId) (answer : Answer)
  | endedCommandAnswer (port : PortId) (answer : Answer)
  | endingTimeout (port : PortId)
  | commandTimeout (port : PortId)
  | notReadyReissue (port : PortId)
  | dataPhasePause (port : PortId)
  | dataPhaseResume (port : PortId)
  | pauseLimitExpiry (port : PortId)
  | standbyIntervalReached (port : PortId)
  -- the arm
  | armArrived
  | armStalled
  | travelTimeout
  | homingTimeout
  | gripDone
  | gripTimeout
  | releaseDone
  | releaseTimeout
  -- sensors
  | gripperSensorChange (sensor : GripSensor) (level : Bool)
  | inputBinSensorChange (bin : BinId) (empty : Bool)
  | fullSensorChange (bin : OutBin) (full : Bool)
  | placeSensorChange (place : SensedPlace) (present : Bool)
  -- the printer
  | printerReady
  | printRowSent
  | printerDone
  | printerFaultReport
  | printTimerExpiry
  | writeSectorTransferred (port : PortId)
  deriving DecidableEq, Repr

end Sys2Proof
end

