-- ==== Sys2Proof/Decode.lean ====
section
/-! DEFINITION. What a word spells (nothing: no row of the table has bits), and what a COMMAND payload spells (R192),
with the encoder beside it. -/

namespace Sys2Proof

open Machine

/-- No row of spec/opcode_table.json gives bits, so no word spells a row (98_reader). -/
def decodeTableWord (_nbits _w : Nat) : Option Instr := none

/-- A counted list of entries of `size` bytes at offset `at_`, the count two bytes before two reserved ones (R192). -/
def decodeList (entry : List Byte → Nat → α) (size : Nat) (p : List Byte) (at_ : Nat) : List α :=
  (List.range (half p at_).toNat).map fun i => entry p (at_ + 4 + size * i)

/-- An image map extent (11.2). -/
def decodeExtent (p : List Byte) (o : Nat) : ExtentEntry := ⟨byteAt p o, byteAt p (o + 1), word p (o + 4)⟩

/-- A grade profile entry (11.2). -/
def decodeProfile (p : List Byte) (o : Nat) : ProfileEntry where
  mode := byteAt p o
  stride := byteAt p (o + 1)
  weight := byteAt p (o + 2)
  peakWarn := half p (o + 4)
  peakFail := half p (o + 6)
  meanWarn := half p (o + 8)
  meanFail := half p (o + 10)
  dest := byteAt p (o + 12)
  printMarginal := byteAt p (o + 13)

/-- A merge field entry (11.2). -/
def decodeField (p : List Byte) (o : Nat) : FieldEntry where
  kind := byteAt p o
  scale := byteAt p (o + 1)
  width := byteAt p (o + 2)
  count := byteAt p (o + 3)
  x := half p (o + 4)
  y := half p (o + 6)
  glyphs := Vector.ofFn fun i => byteAt p (o + 8 + i.val)

/-- The eleven entries of LOAD TIMING, one slot each (R18, R192). -/
def decodeTiming (p : List Byte) : TimingEntry where
  probe := half p 4
  tray := half p 8
  check := half p 12
  write := half p 16
  sync := half p 20
  close := half p 24
  read := half p 28
  wake := half p 32
  retry := byteAt p 36
  pause := half p 40
  standby := byteAt p 44

/-- A glyph of 48 bytes: a row's first byte holds gx 0 to 7, its most significant bit the lowest (R192). -/
def decodeGlyph (p : List Byte) (o : Nat) : Glyph :=
  Vector.ofFn fun gy => byteAt p (o + 2 * gy.val) ++ byteAt p (o + 2 * gy.val + 1)

/-- The command a COMMAND payload spells, with the tag of its header; an unknown code, or a payload too short to hold
one, is UNKNOWN_COMMAND (R191, R192). That READ's two selector slots are taken as four bytes for every object kind, and its
object number as two, is the model's choice (log 10). -/
def decodeCommand (tag : Half) (p : List Byte) : Instr :=
  let h : CmdHdr := ⟨tag, p.length⟩
  if p.length < 2 then .unknownCommand h else
  match (half p 0).toNat with
  | 1 => .jobOpen h (byteAt p 4) (half p 8)
  | 2 => .setJob h (byteAt p 4) (half p 8) (half p 12) (half p 16) (byteAt p 20) (byteAt p 24) (byteAt p 28)
  | 3 => .jobRun h (byteAt p 4)
  | 4 => .jobDrain h (byteAt p 4)
  | 5 => .jobHalt h (byteAt p 4)
  | 6 => .jobClose h (byteAt p 4)
  | 7 => .loadMap h (byteAt p 4) (decodeList decodeExtent 8 p 8)
  | 8 => .loadProfile h (byteAt p 4) (decodeProfile p 8)
  | 9 => .assignPort h (byteAt p 4) (byteAt p 8)
  | 10 => .loadTiming h (decodeTiming p)
  | 11 => .setSerial h (byteAt p 4) (word p 8) (half p 12) (byteAt p 16) (byteAt p 20)
  | 12 => .digestReset h (byteAt p 4)
  | 13 => .passStart h (byteAt p 4)
  | 14 => .passAbort h (byteAt p 4)
  | 15 => .portReset h (byteAt p 4)
  | 16 => .portService h (byteAt p 4)
  | 17 => .transportHome h
  | 18 => .transportPause h
  | 19 => .transportResume h
  | 20 => .hostMove h (byteAt p 4) (byteAt p 8)
  | 21 => .loadTemplate h (byteAt p 4) (word p 8) (decodeList byteAt 1 p 12)
  | 22 => .setTemplate h (byteAt p 4) (half p 8) (half p 12) (decodeList decodeField 24 p 16)
  | 23 => .loadGlyphs h (Vector.ofFn fun g => decodeGlyph p (4 + 48 * g.val))
  | 24 => .ribbonLoad h (half p 4)
  | 25 => .printerResume h
  | 26 => .ackNotice h (byteAt p 4) (byteAt p 8) (half p 12)
  | 27 => .faultClear h (byteAt p 4)
  | 28 => .read h ⟨byteAt p 4, half p 8, word p 12, word p 16, byteAt p 20⟩
  | 29 => .partReset h
  | _ => .unknownCommand h

/-! ## The encoder -/

/-- A counted list: its count, two reserved bytes, its entries (R192). -/
def encodeList (entry : α → List Byte) (xs : List α) : List Byte := slotHalf (halfOf xs.length) ++ xs.flatMap entry

/-- An image map extent (11.2). -/
def encodeExtent (e : ExtentEntry) : List Byte := [e.kind, e.fill, 0, 0] ++ wordBytes e.length

/-- A grade profile entry (11.2). -/
def encodeProfile (e : ProfileEntry) : List Byte :=
  [e.mode, e.stride, e.weight, 0] ++ halfBytes e.peakWarn ++ halfBytes e.peakFail ++ halfBytes e.meanWarn
    ++ halfBytes e.meanFail ++ [e.dest, e.printMarginal, 0, 0]

/-- A merge field entry (11.2). -/
def encodeField (e : FieldEntry) : List Byte :=
  [e.kind, e.scale, e.width, e.count] ++ halfBytes e.x ++ halfBytes e.y ++ e.glyphs.toList

/-- The eleven entries of LOAD TIMING (R18, R192). -/
def encodeTiming (e : TimingEntry) : List Byte :=
  slotHalf e.probe ++ slotHalf e.tray ++ slotHalf e.check ++ slotHalf e.write ++ slotHalf e.sync ++ slotHalf e.close
    ++ slotHalf e.read ++ slotHalf e.wake ++ slotByte e.retry ++ slotHalf e.pause ++ slotByte e.standby

/-- A glyph (R192). -/
def encodeGlyph (g : Glyph) : List Byte := g.toList.flatMap fun r => [r.extractLsb' 8 8, r.extractLsb' 0 8]

/-- The fields of a command after its code and reserved bytes, with the code; none for a row that is no command with a
code (R192). -/
def commandFields : Instr → Option (Nat × List Byte)
  | .jobOpen _ j r => some (1, slotByte j ++ slotHalf r)
  | .setJob _ j p l t b g m =>
    some (2, slotByte j ++ slotHalf p ++ slotHalf l ++ slotHalf t ++ slotByte b ++ slotByte g ++ slotByte m)
  | .jobRun _ j => some (3, slotByte j)
  | .jobDrain _ j => some (4, slotByte j)
  | .jobHalt _ j => some (5, slotByte j)
  | .jobClose _ j => some (6, slotByte j)
  | .loadMap _ j es => some (7, slotByte j ++ encodeList encodeExtent es)
  | .loadProfile _ n e => some (8, slotByte n ++ encodeProfile e)
  | .assignPort _ p j => some (9, slotByte p ++ slotByte j)
  | .loadTiming _ e => some (10, encodeTiming e)
  | .setSerial _ j b st w pd => some (11, slotByte j ++ wordBytes b ++ slotHalf st ++ slotByte w ++ slotByte pd)
  | .digestReset _ j => some (12, slotByte j)
  | .passStart _ j => some (13, slotByte j)
  | .passAbort _ j => some (14, slotByte j)
  | .portReset _ p => some (15, slotByte p)
  | .portService _ p => some (16, slotByte p)
  | .transportHome _ => some (17, [])
  | .transportPause _ => some (18, [])
  | .transportResume _ => some (19, [])
  | .hostMove _ a b => some (20, slotByte a ++ slotByte b)
  | .loadTemplate _ n o c => some (21, slotByte n ++ wordBytes o ++ encodeList (fun b => [b]) c)
  | .setTemplate _ n i o fs => some (22, slotByte n ++ slotHalf i ++ slotHalf o ++ encodeList encodeField fs)
  | .loadGlyphs _ gs => some (23, gs.toList.flatMap encodeGlyph)
  | .ribbonLoad _ n => some (24, slotHalf n)
  | .printerResume _ => some (25, [])
  | .ackNotice _ c k o => some (26, slotByte c ++ slotByte k ++ slotHalf o)
  | .faultClear _ j => some (27, slotByte j)
  | .read _ a => some (28, slotByte a.kind ++ slotHalf a.number ++ wordBytes a.first ++ wordBytes a.count ++ slotByte a.clear)
  | .partReset _ => some (29, [])
  | _ => none

/-- The COMMAND payload of a command (R192). -/
def encodeCommand (i : Instr) : Option (List Byte) :=
  (commandFields i).map fun (c, fs) => slotHalf (halfOf c) ++ fs

end Sys2Proof
end

