-- ==== Sys2Proof/Machine/State.lean ====
section
/-! DEFINITION. What the part holds, as plain data, and its reset values. Every field names its rule. -/

namespace Sys2Proof.Machine

/-! ## Places and stations -/

/-- The 22 places of the roster (R114). -/
inductive Place where
  | tray (n : PortId)
  | arm
  | platter
  | shelf (k : SlotId)
  deriving DecidableEq, Repr

/-- The 28 stations the arm reaches (R131). -/
inductive Station where
  | bin (i : BinId)
  | tray (n : PortId)
  | platter
  | shelf (k : SlotId)
  | out (b : OutBin)
  deriving DecidableEq, Repr

/-! ## Jobs and loaded tables (chapter 1) -/

/-- Job states (R1). -/
inductive JobState where
  | closed
  | opened
  | running
  | draining
  | halting
  deriving DecidableEq, Repr

/-- Digest states (R1, R44). -/
inductive DigestState where
  | empty
  | building
  | sealed
  deriving DecidableEq, Repr

/-- Serial pad (R1). -/
inductive Pad where
  | zero
  | space
  deriving DecidableEq, Repr

/-- Extent kinds (R13). -/
inductive ExtentKind where
  | stream
  | fill
  deriving DecidableEq, Repr

/-- One extent of a loaded image map (R13). -/
structure Extent where
  kind : ExtentKind
  fill : Byte
  length : Nat
  deriving DecidableEq, Repr

/-- The causes a record, a fault record or a report can carry (R121, chapter 11's code table). -/
inductive FaultCause where
  | doublePick
  | notBlank
  | tooSmall
  | checkError
  | writeError
  | writeTimeout
  | finishError
  | driveFault
  | portReset
  | straggler
  | jobHalt
  | hostAbort
  | streamFault
  | sourceMismatch
  | linkLost
  | waveEmpty
  | unreadable
  | mismatch
  | peak
  | mean
  | printFault
  deriving DecidableEq, Repr

/-- The causes of a pass abort (R47, R62). -/
inductive AbortCause where
  | hostAbort
  | streamFault
  | sourceMismatch
  | linkLost
  | jobHalt
  | waveEmpty
  deriving DecidableEq, Repr

/-- The seven counters of a job, each saturating at 2^32 - 1 (R1, R128). -/
structure Counters where
  picked : Nat
  returned : Nat
  deliveredPass : Nat
  deliveredMarginal : Nat
  deliveredUnverified : Nat
  rejected : Nat
  lost : Nat
  deriving DecidableEq, Repr

/-- A valid fault record (R178). -/
structure FaultRecord where
  cause : FaultCause
  pass : Option Half
  port : Option PortId
  lba : Option Nat
  tag : Option Half
  further : Nat
  deriving DecidableEq, Repr

/-- The last-pass summary (R1, R66); no abort cause stands for ENDED. -/
structure PassSummary where
  number : Half
  cause : Option AbortCause
  waveSize : Nat
  finished : Nat
  cut : Nat
  failed : Nat
  deriving DecidableEq, Repr

/-- A job record (R1). `fault` absent is a fault record that is not valid. -/
structure Job where
  state : JobState
  ring : Nat
  prefill : Nat
  lagLimit : Nat
  target : Nat
  bin : BinId
  profile : ProfileId
  template : Option TemplateId
  serialBase : Nat
  serialStep : Nat
  serialWidth : Nat
  serialPad : Pad
  serialNext : Nat
  digest : DigestState
  passCounter : Half
  counters : Counters
  lastPass : Option PassSummary
  fault : Option FaultRecord
  map : Option (List Extent)
  deriving DecidableEq, Repr

/-- Verify modes (R15). -/
inductive VerifyMode where
  | none
  | full
  | sampled
  deriving DecidableEq, Repr

/-- Where a MARGINAL disc goes (R15). -/
inductive MarginalDest where
  | o1
  | reject
  deriving DecidableEq, Repr

/-- A grade profile (R15). -/
structure Profile where
  loaded : Bool
  mode : VerifyMode
  stride : Nat
  weight : Nat
  peakWarn : Nat
  peakFail : Nat
  meanWarn : Nat
  meanFail : Nat
  dest : MarginalDest
  printMarginal : Bool
  deriving DecidableEq, Repr

/-- The port timing table: units of 100 ms, `standby` in units of 15 s (R18). -/
structure Timing where
  probe : Nat
  tray : Nat
  check : Nat
  write : Nat
  sync : Nat
  close : Nat
  read : Nat
  wake : Nat
  retry : Nat
  pause : Nat
  standby : Nat
  deriving DecidableEq, Repr

/-! ## Passes (chapters 2 and 3) -/

/-- Pass states (R47). -/
inductive PassState where
  | forming
  | running
  | ended
  | aborted
  deriving DecidableEq, Repr

/-- Member statuses (R48). -/
inductive MemberStatus where
  | armed
  | writing
  | finished
  | cut
  | failed
  | returned
  deriving DecidableEq, Repr

/-- A member entry of a wave (R48). -/
structure Member where
  port : PortId
  tag : Half
  written : Nat
  inFlight : Option Nat
  status : MemberStatus
  deriving DecidableEq, Repr

/-- Composition state (R24) with what the composer has reported (R38, R39). Outstanding O, tail T, free space and the
accumulator's block index are functions of it. -/
structure Composition where
  head : Nat
  extent : Option Nat
  frames : Nat
  framesInExtent : Nat
  credits : Half
  accumulator : Option Word
  blocksDone : Nat
  prefillReached : Bool
  blocked : Bool
  deriving DecidableEq, Repr

/-- A pass record (R47). -/
structure Pass where
  number : Half
  state : PassState
  wave : List Member
  closed : Bool
  cause : Option AbortCause
  finished : Nat
  cut : Nat
  failed : Nat
  comp : Composition
  deriving DecidableEq, Repr

/-! ## Drive ports (chapter 4) -/

/-- Port states (R69). -/
inductive PortState where
  | offline
  | probe
  | idle
  | standby
  | opening
  | trayOpen
  | closing
  | checking
  | loaded
  | armed
  | writing
  | finishing
  | verifying
  | done
  | faulted
  deriving DecidableEq, Repr

/-- Tray errands (R68). -/
inductive Errand where
  | none
  | feed
  | unload
  deriving DecidableEq, Repr

/-- Recovery steps (R68, R89). -/
inductive RecoveryStep where
  | none
  | identify
  | trayClose
  deriving DecidableEq, Repr

/-- Packet commands with their parameters (R68, R70). -/
inductive DriveCmd where
  | identify
  | openTray
  | closeTray
  | sleep
  | mediaCheck (capacity : Nat)
  | writeSegment (segment : Nat)
  | synchronise
  | finalise
  | readBlock (lba count : Nat)
  | wake
  deriving DecidableEq, Repr

/-- Command classes in the order of R70. -/
inductive CmdClass where
  | probe
  | tray
  | check
  | write
  | sync
  | close
  | read
  | wake
  deriving DecidableEq, Repr

/-- An outcome: a drive's answer, or TIMEOUT (R70). -/
inductive Outcome where
  | answer (a : Answer)
  | timeout
  deriving DecidableEq, Repr

/-- A port context (R68). Times are instants in ms of `State.now` (log 1). -/
structure Port where
  state : PortState
  link : Bool
  /-- A link reset is in progress (R68, R74). -/
  resetting : Bool
  /-- The command the port issues when its link is up again (R71, R89; log 5). -/
  afterReset : Option DriveCmd
  hold : Bool
  errand : Errand
  step : RecoveryStep
  cmd : Option DriveCmd
  firstIssue : Option Nat
  retries : Nat
  ending : Bool
  /-- When an ended command's class timeout runs out (R72). -/
  endingDue : Option Nat
  transferred : Nat
  paused : Bool
  /-- When the pause limit is reached (R73). -/
  pauseDue : Option Nat
  /-- When the answer timeout runs out (R70). -/
  answerDue : Option Nat
  /-- The answer time remaining, held while paused (R68, R73). -/
  answerHeld : Option Nat
  /-- When the wait after a NOT_READY ends (R71). -/
  reissueAt : Option Nat
  /-- When the port last entered IDLE (R77). -/
  idleSince : Nat
  /-- The idle time held outside IDLE (log 11). -/
  idleHeld : Nat
  lastOutcome : Option (CmdClass × Outcome)
  /-- The next good identify raises ONLINE (R76; log 20). -/
  announce : Bool
  deriving DecidableEq, Repr

/-- A verify context (R95). -/
structure Verify where
  job : JobId
  tag : Half
  sampled : Bool
  stride : Nat
  planned : Nat
  position : Nat
  block : Nat
  blockLen : Nat
  reissues : Nat
  crc : Word
  received : Nat
  lastFailure : Option Nat
  peak : Nat
  sum : Nat
  sectors : Nat
  blocks : Nat
  deriving DecidableEq, Repr

/-! ## Roster (chapter 6) -/

/-- Record states (R116). -/
inductive DiscState where
  | feeding
  | loaded
  | burning
  | verifying
  | graded
  | printing
  | finished
  | scrap
  | returning
  | orphan
  deriving DecidableEq, Repr

/-- Grades (R116). -/
inductive Grade where
  | pass
  | marginal
  | fail
  | unverified
  deriving DecidableEq, Repr

/-- Metrics P, A, N, V (R108, R116). -/
structure Metrics where
  peak : Nat
  mean : Nat
  blocks : Nat
  sectors : Nat
  deriving DecidableEq, Repr

/-- A disc record (R116). Its location is the place of the roster that holds it (log 31). -/
structure Disc where
  tag : Half
  job : Option JobId
  state : DiscState
  dest : Option Station
  port : Option PortId
  pass : Option Half
  grade : Option Grade
  metrics : Option Metrics
  serial : Option Nat
  void : Bool
  cause : Option FaultCause
  lba : Option Nat
  deriving DecidableEq, Repr

/-- Loss causes (R124). -/
inductive LossCause where
  | noDisc
  | discMissing
  | dropped
  deriving DecidableEq, Repr

/-- A disc report (R126): the record at its release, with the bin (absent for a loss), the loss cause and the last place. -/
structure Report where
  disc : Disc
  bin : Option OutBin
  loss : Option LossCause
  place : Option Place
  deriving DecidableEq, Repr

/-! ## Transport (chapter 7) -/

/-- Transport states (R132). -/
inductive TransportState where
  | unhomed
  | homing
  | ready
  | paused
  | fault
  deriving DecidableEq, Repr

/-- Transport fault causes (R132). -/
inductive TransportCause where
  | armStall
  | dropped
  | releaseFail
  deriving DecidableEq, Repr

/-- The kinds of move request with what each holds (R137). -/
inductive ReqKind where
  | feed (port : PortId) (job : JobId)
  | unload (port : PortId) (tag : Half)
  | printLoad
  | printUnload (tag : Half)
  | recover (source : Place) (tag : Half)
  | host (source : Place) (dest : Station) (tag : Half)
  deriving DecidableEq, Repr

/-- A move request (R137). -/
structure Request where
  kind : ReqKind
  arrival : Word
  deriving DecidableEq, Repr

/-- The phases of a move (R144). -/
inductive Phase where
  | toSource
  | grip
  | toDest
  | release
  deriving DecidableEq, Repr

/-- Where a move takes its disc: an input bin or a place (R137). -/
inductive Source where
  | bin (i : BinId)
  | place (p : Place)
  deriving DecidableEq, Repr

/-- A granted request as the move in progress (R132, R143, R144). -/
structure Move where
  req : Request
  source : Source
  dest : Station
  tag : Option Half
  phase : Phase
  reserved : Bool
  /-- When the phase's timeout runs out (R144). -/
  due : Nat
  deriving DecidableEq, Repr

/-- The sensors of the seven bins: input bins EMPTY, full sensors FULL (R131, R132). -/
structure BinSensors where
  empty : Vector Bool 4
  fullO0 : Bool
  fullO1 : Bool
  fullX : Bool
  deriving DecidableEq, Repr

/-- Transport state (R132). -/
structure Transport where
  state : TransportState
  cause : Option TransportCause
  station : Option Station
  pausePending : Bool
  move : Option Move
  queue : List Request
  arrival : Word
  marks : Vector Bool 4
  latched : BinSensors
  held : List PortId
  shelfOrder : List SlotId
  /-- When homing's 20.0 s run out (R133). -/
  homingDue : Option Nat
  deriving DecidableEq, Repr

/-- The live levels of the sensor inputs (R131). -/
structure Sensors where
  bins : BinSensors
  shelf : Vector Bool 4
  platter : Bool
  gripPresent : Bool
  gripDouble : Bool
  deriving DecidableEq, Repr

/-! ## Label engine (chapter 8) -/

/-- Merge field kinds (R155). -/
inductive FieldKind where
  | serial
  | grade
  | text
  | pass
  | tag
  deriving DecidableEq, Repr

/-- A merge field (R155). -/
structure MergeField where
  kind : FieldKind
  x : Nat
  y : Nat
  scale : Nat
  width : Nat
  glyphs : List Byte
  deriving DecidableEq, Repr

/-- A template's radii and field list (R153); its raster is in image memory. -/
structure Template where
  inner : Nat
  outer : Nat
  fields : List MergeField
  deriving DecidableEq, Repr

/-- Printer states (R160). -/
inductive PrinterState where
  | empty
  | loaded
  | waitRibbon
  | printing
  | done
  | fault
  deriving DecidableEq, Repr

/-- A label as fixed at its commit: the template and each field's cells (R158, R162 step 3). -/
structure Label where
  template : TemplateId
  cells : List (List (Option Nat))
  deriving DecidableEq, Repr

/-- Printer state (R160). -/
structure Printer where
  state : PrinterState
  ribbon : Nat
  tag : Option Half
  /-- When the print timer runs out (R160, R161). -/
  timerDue : Option Nat
  rows : Nat
  lastWrap : Option JobId
  label : Option Label
  deriving DecidableEq, Repr

/-! ## Notices (chapter 9) -/

/-- The five cause classes (R169). -/
inductive CauseClass where
  | system
  | pass
  | port
  | transport
  | printer
  deriving DecidableEq, Repr

/-- Kinds of reset (R169). -/
inductive ResetKind where
  | pin
  | command
  deriving DecidableEq, Repr

/-- The (cause, object) pairs of the cause classes (R169). -/
inductive Notice where
  | resetDone (k : ResetKind)
  | jobHalted (j : JobId)
  | jobComplete (j : JobId)
  | passAborted (j : JobId)
  | passEnded (j : JobId)
  | passLaunched (j : JobId)
  | waveReady (j : JobId)
  | portFaulted (p : PortId)
  | portOffline (p : PortId)
  | portOnline (p : PortId)
  | transportFault (st : Option Station)
  | outputFull (b : OutBin)
  | binEmpty (i : BinId)
  | homed
  | binRefilled (i : BinId)
  | outputCleared (b : OutBin)
  | printerFault
  | ribbonOut
  | serialWrap
  deriving DecidableEq, Repr

/-- One cause class: its pending set, highest rank first, and its outstanding pair (R169). -/
structure NoticeClass where
  set : List Notice
  outstanding : Option Notice
  deriving DecidableEq, Repr

/-- The notice unit (R169). `reportOut` says that the head report is outstanding. -/
structure Notices where
  system : NoticeClass
  pass : NoticeClass
  port : NoticeClass
  transport : NoticeClass
  printer : NoticeClass
  reports : List Report
  reportOut : Bool
  reserved : Bool
  deriving DecidableEq, Repr

/-! ## Feed link (chapter 10) -/

/-- Receiver states (10.2). -/
inductive Receiver where
  | hunt
  | synced
  deriving DecidableEq, Repr

/-- Result codes of a RESPONSE (R186). -/
inductive Result where
  | ok (value : Half)
  | busy
  | state
  | invalid (index : Nat)
  | noSpace
  | unknown
  deriving DecidableEq, Repr

/-- The unsent answers of one command: its READBACK data in frames, and its RESPONSE (R187). -/
structure AnswerEntry where
  tag : Half
  result : Result
  readbacks : List (List Byte)
  /-- This is the answer of PART RESET (R189). -/
  reset : Bool
  deriving DecidableEq, Repr

/-- The entries of the outbound queue (R187). -/
inductive OutEntry where
  | answer (a : AnswerEntry)
  | credit (j : JobId)
  | notice (c : CauseClass)
  | report
  deriving DecidableEq, Repr

/-- How far a PART RESET has come (R189). -/
inductive ResetStage where
  | none
  | taken
  | answered
  deriving DecidableEq, Repr

/-- The feed link interface (R190). -/
structure Link where
  receiver : Receiver
  run : Nat
  consecBad : Nat
  good : Nat
  bad : Nat
  stray : Nat
  dropped : Nat
  queue : List OutEntry
  firstSync : Bool
  /-- How far a PART RESET has come (R189). -/
  stage : ResetStage
  deriving DecidableEq, Repr

/-! ## Output lines (log 12) -/

/-- An outbound frame: header fields and payload (11.1). -/
structure OutFrame where
  kind : Byte
  object : Byte
  tag : Half
  payload : List Byte
  deriving DecidableEq, Repr

/-- What the part commands on the arm line (R133, R144). -/
inductive ArmCmd where
  | home
  | goTo (st : Station)
  | grip
  | release
  deriving DecidableEq, Repr

/-- What the part sends on the print line (8.4): the load announce, or one raster row of 128 bytes. -/
inductive PrintItem where
  | announce
  | row (y : Nat) (bytes : List Byte)
  deriving DecidableEq, Repr

/-- What last left the part on each line: the MODEL's own latches (log 12). -/
structure Lines where
  frames : List OutFrame
  arm : Option ArmCmd
  print : Option PrintItem
  drive : Vector (Option (Nat × Sector)) 16
  deriving DecidableEq, Repr

/-! ## The machine -/

/-- Sparse contents keyed by number, strictly rising, no entry equal to the default (see `Memory`). -/
abbrev Cells (α : Type) := List (Nat × α)

/-- Image memory (00_scope 3): ring slots, digest entries, raster bytes. -/
structure ImageMemory where
  rings : Vector (Cells Sector) 4
  digests : Vector (Cells Word) 4
  rasters : Vector (List Host.Cell) 8
  deriving DecidableEq, Repr

/-- Everything the part holds. -/
structure State where
  /-- The rows that wait, first in, first out: the MODEL's own (log 13). -/
  pending : List Instr
  /-- Milliseconds: the MODEL's clock behind the part's timers (log 1). -/
  now : Nat
  /-- RESET_N is low (00_scope 8; log 4). -/
  resetHeld : Bool
  jobs : Vector Job 4
  passes : Vector (Option Pass) 4
  memory : ImageMemory
  profiles : Vector Profile 8
  assign : Vector (Option JobId) 16
  timing : Timing
  templates : Vector Template 8
  glyphs : Vector Glyph 16
  ports : Vector Port 16
  verifies : Vector (Option Verify) 16
  places : Vector (Option Disc) 22
  tagCounter : Half
  unreported : Nat
  transport : Transport
  sensors : Sensors
  printer : Printer
  notices : Notices
  link : Link
  lines : Lines
  deriving DecidableEq, Repr

/-! ## Why a step can stop -/

/-- The spec describes nothing that stops the part: no step faults, so this type has no constructor. -/
inductive Fault where
  deriving DecidableEq, Repr

/-- Why a row has no next state. Safe: a refusal proves nothing about the part. -/
inductive Refusal where
  /-- Raised by `exec` for a row whose meaning is not written yet; no arm raises it now. Safe. -/
  | notModelled (mnemonic : String)
  deriving DecidableEq, Repr

/-! ## Reset values -/

/-- R1, column Power-on. -/
def Job.reset : Job where
  state := .closed
  ring := 0
  prefill := 0
  lagLimit := 0
  target := 0
  bin := 0
  profile := 0
  template := none
  serialBase := 0
  serialStep := 1
  serialWidth := 6
  serialPad := .zero
  serialNext := 0
  digest := .empty
  passCounter := 0
  counters := ⟨0, 0, 0, 0, 0, 0, 0⟩
  lastPass := none
  fault := none
  map := none

/-- R15, last paragraph. -/
def Profile.reset : Profile where
  loaded := false
  mode := .none
  stride := 2
  weight := 0
  peakWarn := 0
  peakFail := 0
  meanWarn := 0
  meanFail := 0
  dest := .o1
  printMarginal := false

/-- R18, column Reset value. -/
def Timing.reset : Timing where
  probe := 50
  tray := 100
  check := 300
  write := 40
  sync := 1200
  close := 3000
  read := 200
  wake := 300
  retry := 3
  pause := 80
  standby := 20

/-- R153. -/
def Template.reset : Template := ⟨0, 511, []⟩

/-- R156: index 15 is blank; the dots of the others are a free value (log 7). -/
def builtinGlyph (g : Fin 16) : Glyph :=
  if g = 15 then Vector.replicate 24 0 else Vector.ofFn fun gy => Config.builtinGlyphRow g.val gy.val

/-- R68, column Reset value; the port then begins a link reset. -/
def Port.reset : Port where
  state := .offline
  link := false
  resetting := true
  afterReset := none
  hold := false
  errand := .none
  step := .none
  cmd := none
  firstIssue := none
  retries := 0
  ending := false
  endingDue := none
  transferred := 0
  paused := false
  pauseDue := none
  answerDue := none
  answerHeld := none
  reissueAt := none
  idleSince := 0
  idleHeld := 0
  lastOutcome := none
  announce := true

/-- STOCKED and NOT_FULL (R132). -/
def BinSensors.reset : BinSensors := ⟨Vector.replicate 4 false, false, false, false⟩

/-- R132. -/
def Transport.reset : Transport where
  state := .unhomed
  cause := none
  station := none
  pausePending := false
  move := none
  queue := []
  arrival := 0
  marks := Vector.replicate 4 false
  latched := BinSensors.reset
  held := []
  shelfOrder := []
  homingDue := none

/-- The sensor inputs at power-on: DESIGN CHOICE (log 4), unsafe; they are levels from outside. -/
def Sensors.reset : Sensors := ⟨BinSensors.reset, Vector.replicate 4 false, false, false, false⟩

/-- R160. -/
def Printer.reset : Printer := ⟨.empty, 0, none, none, 0, none, none⟩

/-- R169. -/
def Notices.reset : Notices :=
  ⟨⟨[], none⟩, ⟨[], none⟩, ⟨[], none⟩, ⟨[], none⟩, ⟨[], none⟩, [], false, false⟩

/-- R190, column Power-on and reset pin. -/
def Link.reset : Link := ⟨.hunt, 0, 0, 0, 0, 0, 0, [], true, .none⟩

/-- Nothing has left the part: DESIGN CHOICE (log 12). -/
def Lines.reset : Lines := ⟨[], none, none, Vector.replicate 16 none⟩

/-- Image memory with nothing written; rasters clear (R153; log 6). -/
def ImageMemory.reset : ImageMemory :=
  ⟨Vector.replicate 4 [], Vector.replicate 4 [], Vector.replicate 8 []⟩

/-- The part right after power-on with RESET_N high, nothing waiting. -/
def State.reset : State where
  pending := []
  now := 0
  resetHeld := false
  jobs := Vector.replicate 4 Job.reset
  passes := Vector.replicate 4 none
  memory := ImageMemory.reset
  profiles := Vector.replicate 8 Profile.reset
  assign := Vector.replicate 16 none
  timing := Timing.reset
  templates := Vector.replicate 8 Template.reset
  glyphs := Vector.ofFn builtinGlyph
  ports := Vector.replicate 16 Port.reset
  verifies := Vector.replicate 16 none
  places := Vector.replicate 22 none
  tagCounter := 0
  unreported := 0
  transport := Transport.reset
  sensors := Sensors.reset
  printer := Printer.reset
  notices := Notices.reset
  link := Link.reset
  lines := Lines.reset

end Sys2Proof.Machine
end

