-- ==== Sys2Proof/Machine/Codes.lean ====
section
/-! DEFINITION. The codes of chapter 11, one function per kind of value. An enumeration with no code there takes its
position in the list that defines it, from 0 (R193). -/

namespace Sys2Proof.Machine

/-- FF hex for NONE and for an absent single-byte field (11, R194). -/
def noneCode : Nat := 255

/-- The station order of R131. -/
def Station.code : Station → Nat
  | .bin i => i.val
  | .tray n => 4 + n.val
  | .platter => 20
  | .shelf k => 21 + k.val
  | .out .o0 => 25
  | .out .o1 => 26
  | .out .x => 27

/-- The place codes: the station order of R131, and 28 for ARM (11.3). -/
def Place.code : Place → Nat
  | .tray n => 4 + n.val
  | .arm => 28
  | .platter => 20
  | .shelf k => 21 + k.val

/-- The station a code names (R131, R191). -/
def stationOf (c : Nat) : Option Station :=
  if h : c < 4 then some (.bin ⟨c, h⟩)
  else if h : c - 4 < 16 then some (.tray ⟨c - 4, h⟩)
  else if c = 20 then some .platter
  else if h : c - 21 < 4 then some (.shelf ⟨c - 21, h⟩)
  else if c = 25 then some (.out .o0)
  else if c = 26 then some (.out .o1)
  else if c = 27 then some (.out .x)
  else none

/-- The place a code names (R193). -/
def placeOf (c : Nat) : Option Place :=
  if c = 28 then some .arm
  else match stationOf c with
    | some (.tray n) => some (.tray n)
    | some .platter => some .platter
    | some (.shelf k) => some (.shelf k)
    | _ => none

/-- A place as a station of the arm; ARM is none (R114, R131). -/
def Place.station : Place → Option Station
  | .tray n => some (.tray n)
  | .arm => none
  | .platter => some .platter
  | .shelf k => some (.shelf k)

/-- The place a station is, where it holds records (R114, R131). -/
def Station.place : Station → Option Place
  | .tray n => some (.tray n)
  | .platter => some .platter
  | .shelf k => some (.shelf k)
  | .bin _ | .out _ => none

/-- Result codes (11.3). -/
def Result.code : Result → Nat
  | .ok _ => 0
  | .busy => 1
  | .state => 2
  | .invalid _ => 3
  | .noSpace => 4
  | .unknown => 5

/-- The fault cause codes (11.3). -/
def FaultCause.code : FaultCause → Nat
  | .doublePick => 1
  | .notBlank => 2
  | .tooSmall => 3
  | .checkError => 4
  | .writeError => 5
  | .writeTimeout => 6
  | .finishError => 7
  | .driveFault => 8
  | .portReset => 9
  | .straggler => 10
  | .jobHalt => 11
  | .hostAbort => 12
  | .streamFault => 13
  | .sourceMismatch => 14
  | .linkLost => 15
  | .waveEmpty => 16
  | .unreadable => 17
  | .mismatch => 18
  | .peak => 19
  | .mean => 20
  | .printFault => 21

/-- An abort cause as the fault cause of the same name (R63, R178). -/
def AbortCause.fault : AbortCause → FaultCause
  | .hostAbort => .hostAbort
  | .streamFault => .streamFault
  | .sourceMismatch => .sourceMismatch
  | .linkLost => .linkLost
  | .jobHalt => .jobHalt
  | .waveEmpty => .waveEmpty

/-- The codes of drive outcomes (11.3). -/
def Outcome.code : Outcome → Nat
  | .answer .good => 0
  | .answer (.recovered _) => 1
  | .answer (.mediaError _) => 2
  | .answer .notReady => 3
  | .answer .noDisc => 4
  | .answer .notBlank => 5
  | .answer .tooSmall => 6
  | .answer .aborted => 7
  | .answer .hardware => 8
  | .timeout => 9

/-- Record states (11.3). -/
def DiscState.code : DiscState → Nat
  | .feeding => 0
  | .loaded => 1
  | .burning => 2
  | .verifying => 3
  | .graded => 4
  | .printing => 5
  | .finished => 6
  | .scrap => 7
  | .returning => 8
  | .orphan => 9

/-- Grades (11.3). -/
def Grade.code : Grade → Nat
  | .pass => 0
  | .marginal => 1
  | .fail => 2
  | .unverified => 3

/-- Loss causes (11.3). -/
def LossCause.code : LossCause → Nat
  | .noDisc => 1
  | .discMissing => 2
  | .dropped => 3

/-- Pads (11.2). -/
def Pad.code : Pad → Nat
  | .zero => 0
  | .space => 1

/-- Extent kinds (11.2). -/
def ExtentKind.code : ExtentKind → Nat
  | .stream => 1
  | .fill => 2

/-- Verify modes (11.2). -/
def VerifyMode.code : VerifyMode → Nat
  | .none => 0
  | .full => 1
  | .sampled => 2

/-- MARGINAL destinations (11.2). -/
def MarginalDest.code : MarginalDest → Nat
  | .o1 => 0
  | .reject => 1

/-- Merge field kinds (11.2). -/
def FieldKind.code : FieldKind → Nat
  | .serial => 1
  | .grade => 2
  | .text => 3
  | .pass => 4
  | .tag => 5

/-- The field kind a code names (11.2). -/
def fieldKindOf (c : Nat) : Option FieldKind :=
  match c with
  | 1 => some .serial
  | 2 => some .grade
  | 3 => some .text
  | 4 => some .pass
  | 5 => some .tag
  | _ => none

/-- Job states, in the order of R1. -/
def JobState.code : JobState → Nat
  | .closed => 0
  | .opened => 1
  | .running => 2
  | .draining => 3
  | .halting => 4

/-- Digest states, in the order of R1. -/
def DigestState.code : DigestState → Nat
  | .empty => 0
  | .building => 1
  | .sealed => 2

/-- Pass states, in the order of R47. -/
def PassState.code : PassState → Nat
  | .forming => 0
  | .running => 1
  | .ended => 2
  | .aborted => 3

/-- Member statuses, in the order of R48. -/
def MemberStatus.code : MemberStatus → Nat
  | .armed => 0
  | .writing => 1
  | .finished => 2
  | .cut => 3
  | .failed => 4
  | .returned => 5

/-- Port states, in the order of R69. -/
def PortState.code : PortState → Nat
  | .offline => 0
  | .probe => 1
  | .idle => 2
  | .standby => 3
  | .opening => 4
  | .trayOpen => 5
  | .closing => 6
  | .checking => 7
  | .loaded => 8
  | .armed => 9
  | .writing => 10
  | .finishing => 11
  | .verifying => 12
  | .done => 13
  | .faulted => 14

/-- Tray errands, in the order of R68. -/
def Errand.code : Errand → Nat
  | .none => 0
  | .feed => 1
  | .unload => 2

/-- Recovery steps, in the order of R68. -/
def RecoveryStep.code : RecoveryStep → Nat
  | .none => 0
  | .identify => 1
  | .trayClose => 2

/-- Command classes, in the order of R70. -/
def CmdClass.code : CmdClass → Nat
  | .probe => 0
  | .tray => 1
  | .check => 2
  | .write => 3
  | .sync => 4
  | .close => 5
  | .read => 6
  | .wake => 7

/-- Transport states, in the order of R132. -/
def TransportState.code : TransportState → Nat
  | .unhomed => 0
  | .homing => 1
  | .ready => 2
  | .paused => 3
  | .fault => 4

/-- Transport fault causes, in the order of R132, its "absent" left to the presence slot of R193 (log 41). -/
def TransportCause.code : TransportCause → Nat
  | .armStall => 0
  | .dropped => 1
  | .releaseFail => 2

/-- A field of two values in the order of its list, the affirmative first: yes and no (R47, R68, R132), marked or not (R132),
loaded or not loaded (section 1.4.3). -/
def yesCode (yes : Bool) : Nat := if yes then 0 else 1

/-- The states of a port's link, in the order of R68. -/
def linkCode (up : Bool) : Nat := if up then 0 else 1

/-- The states of a sensor, in the order of R131: EMPTY, FULL or set first. -/
def sensorCode (active : Bool) : Nat := if active then 0 else 1

/-- Whether a fault record is valid, in the order of R178. -/
def validCode (valid : Bool) : Nat := if valid then 0 else 1

/-- Move phases, in the order of R144. -/
def Phase.code : Phase → Nat
  | .toSource => 0
  | .grip => 1
  | .toDest => 2
  | .release => 3

/-- Printer states, in the order of R160. -/
def PrinterState.code : PrinterState → Nat
  | .empty => 0
  | .loaded => 1
  | .waitRibbon => 2
  | .printing => 3
  | .done => 4
  | .fault => 5

/-- The request kinds, in the order of R137. -/
def ReqKind.code : ReqKind → Nat
  | .feed _ _ => 0
  | .unload _ _ => 1
  | .printLoad => 2
  | .printUnload _ => 3
  | .recover _ _ => 4
  | .host _ _ _ => 5

/-- Receiver states, in the order of 10.2. -/
def Receiver.code : Receiver → Nat
  | .hunt => 0
  | .synced => 1

/-- Notice class codes (11.3); DISC is 5. -/
def CauseClass.code : CauseClass → Nat
  | .system => 0
  | .pass => 1
  | .port => 2
  | .transport => 3
  | .printer => 4

/-- The cause classes in the order of their codes (11.3). -/
def causeClasses : List CauseClass := [.system, .pass, .port, .transport, .printer]

/-- The cause class of a pair (R169). -/
def Notice.cls : Notice → CauseClass
  | .resetDone _ | .jobHalted _ | .jobComplete _ => .system
  | .passAborted _ | .passEnded _ | .passLaunched _ | .waveReady _ => .pass
  | .portFaulted _ | .portOffline _ | .portOnline _ => .port
  | .transportFault _ | .outputFull _ | .outputCleared _ | .binEmpty _ | .binRefilled _ | .homed => .transport
  | .printerFault | .ribbonOut | .serialWrap => .printer

/-- Cause codes: from 1 within each class in the order of R171 (11.3). -/
def Notice.cause : Notice → Nat
  | .resetDone _ => 1
  | .jobHalted _ => 2
  | .jobComplete _ => 3
  | .passAborted _ => 1
  | .passEnded _ => 2
  | .passLaunched _ => 3
  | .waveReady _ => 4
  | .portFaulted _ => 1
  | .portOffline _ => 2
  | .portOnline _ => 3
  | .transportFault _ => 1
  | .outputFull _ => 2
  | .binEmpty _ => 3
  | .homed => 4
  | .binRefilled _ => 5
  | .outputCleared _ => 6
  | .printerFault => 1
  | .ribbonOut => 2
  | .serialWrap => 3

/-- The object of a pair, none where it carries none (R169). -/
def Notice.object : Notice → Option Nat
  | .resetDone .pin => some 0
  | .resetDone .command => some 1
  | .jobHalted j | .jobComplete j | .passAborted j | .passEnded j | .passLaunched j | .waveReady j => some j.val
  | .portFaulted p | .portOffline p | .portOnline p => some p.val
  | .transportFault st => st.map Station.code
  | .outputFull b | .outputCleared b => some (Station.out b).code
  | .binEmpty i | .binRefilled i => some i.val
  | .homed | .printerFault | .ribbonOut | .serialWrap => none

/-- Object codes: FF hex for none (11.3). -/
def Notice.objectCode (n : Notice) : Nat := n.object.getD noneCode

/-- The rank of a pair, the lowest first: by cause, then none, then by object (R171). -/
def Notice.rank (n : Notice) : Nat :=
  64 * n.cause + match n.object with
    | none => 0
    | some o => o + 1

end Sys2Proof.Machine
end

