-- ==== Sys2Proof/Machine/Ops.lean ====
section
/-! DEFINITION. The named operations over the state: numbered things, image memory, the roster's places, time. -/

namespace Sys2Proof.Machine

/-! ## Numbered things -/

/-- Element `i`. -/
def nth (v : Vector α n) (i : Fin n) : α := v[i.val]

/-- `v` with element `i` replaced. -/
def upd (v : Vector α n) (i : Fin n) (x : α) : Vector α n := v.set i.val x i.isLt

/-- The numbers 0 to n - 1 in order. -/
def numbers (n : Nat) : List (Fin n) := (List.range n).filterMap fun i => if h : i < n then some ⟨i, h⟩ else none

/-- The object a code names, none above the last (R22). -/
def numbered (n : Nat) (code : Byte) : Option (Fin n) := if h : code.toNat < n then some ⟨code.toNat, h⟩ else none

def State.job (s : State) (j : JobId) : Job := nth s.jobs j
def State.pass (s : State) (j : JobId) : Option Pass := nth s.passes j
def State.port (s : State) (p : PortId) : Port := nth s.ports p
def State.verify (s : State) (p : PortId) : Option Verify := nth s.verifies p
def State.assigned (s : State) (p : PortId) : Option JobId := nth s.assign p
def State.profile (s : State) (n : ProfileId) : Profile := nth s.profiles n
def State.template (s : State) (n : TemplateId) : Template := nth s.templates n

def State.modJob (s : State) (j : JobId) (f : Job → Job) : State := { s with jobs := upd s.jobs j (f (s.job j)) }
def State.setPass (s : State) (j : JobId) (x : Option Pass) : State := { s with passes := upd s.passes j x }
def State.modPass (s : State) (j : JobId) (f : Pass → Pass) : State := s.setPass j ((s.pass j).map f)
def State.modPort (s : State) (p : PortId) (f : Port → Port) : State := { s with ports := upd s.ports p (f (s.port p)) }
def State.setVerify (s : State) (p : PortId) (x : Option Verify) : State := { s with verifies := upd s.verifies p x }
def State.modTransport (s : State) (f : Transport → Transport) : State := { s with transport := f s.transport }
def State.modPrinter (s : State) (f : Printer → Printer) : State := { s with printer := f s.printer }
def State.modLink (s : State) (f : Link → Link) : State := { s with link := f s.link }
def State.modNotices (s : State) (f : Notices → Notices) : State := { s with notices := f s.notices }
def State.modLines (s : State) (f : Lines → Lines) : State := { s with lines := f s.lines }
def State.modSensors (s : State) (f : Sensors → Sensors) : State := { s with sensors := f s.sensors }

/-! ## Counters -/

/-- A counter that holds at its maximum (00_scope 5.3). -/
def satInc (max n : Nat) : Nat := if n < max then n + 1 else max

/-- A 32-bit counter's maximum. -/
def max32 : Nat := 4294967295

/-! ## Sparse contents -/

/-- What slot `a` holds; an unlisted slot reads as `d`. -/
def Cells.read (d : α) : Cells α → Nat → α
  | [], _ => d
  | (k, v) :: m, a => if k = a then v else Cells.read d m a

/-- The entries of a run of values from slot `a` on, those equal to the default left out. -/
def cellsFrom [DecidableEq α] (d : α) (a : Nat) : List α → Cells α
  | [] => []
  | v :: vs => if v = d then cellsFrom d (a + 1) vs else (a, v) :: cellsFrom d (a + 1) vs

/-- A run of values written from slot `a` on, the canonical form kept. -/
def Cells.write [DecidableEq α] (d : α) (m : Cells α) (a : Nat) (vs : List α) : Cells α :=
  m.filter (fun c => decide (c.1 < a)) ++ cellsFrom d a vs ++ m.filter (fun c => decide (a + vs.length ≤ c.1))

/-- The canonical form: slots strictly rising, no entry equal to the default. -/
def Cells.wf [DecidableEq α] (d : α) (m : Cells α) : Bool :=
  decide (m.Pairwise fun x y => x.1 < y.1) && m.all fun c => decide (c.2 ≠ d)

/-- Every part of image memory is in canonical form. -/
def ImageMemory.wf (m : ImageMemory) : Bool :=
  m.rings.toList.all (Cells.wf Config.dramSector) && m.digests.toList.all (Cells.wf Config.dramDigest)
    && m.rasters.toList.all (Cells.wf Config.dramByte)

/-- Sector slot `a` of a job's ring (R26). -/
def ImageMemory.sector (m : ImageMemory) (j : JobId) (a : Nat) : Sector := (nth m.rings j).read Config.dramSector a

/-- Digest entry `b` of a job (02, 2.8). -/
def ImageMemory.digest (m : ImageMemory) (j : JobId) (b : Nat) : Word := (nth m.digests j).read Config.dramDigest b

/-- Byte `o` of a template's raster (R154). -/
def ImageMemory.raster (m : ImageMemory) (t : TemplateId) (o : Nat) : Byte := Cells.read Config.dramByte (nth m.rasters t) o

def ImageMemory.setSector (m : ImageMemory) (j : JobId) (a : Nat) (x : Sector) : ImageMemory :=
  { m with rings := upd m.rings j ((nth m.rings j).write Config.dramSector a [x]) }

def ImageMemory.setDigest (m : ImageMemory) (j : JobId) (b : Nat) (x : Word) : ImageMemory :=
  { m with digests := upd m.digests j ((nth m.digests j).write Config.dramDigest b [x]) }

def ImageMemory.setRaster (m : ImageMemory) (t : TemplateId) (o : Nat) (xs : List Byte) : ImageMemory :=
  { m with rasters := upd m.rasters t (Cells.write Config.dramByte (nth m.rasters t) o xs) }

/-- A ring just taken from the pool holds nothing of the job (R2, log 6). -/
def ImageMemory.clearRing (m : ImageMemory) (j : JobId) : ImageMemory := { m with rings := upd m.rings j [] }

/-! ## Jobs -/

/-- R14: the image length L; 0 without a map. -/
def mapLength (m : List Extent) : Nat := (m.map Extent.length).sum

def Job.length (j : Job) : Nat := (j.map.map mapLength).getD 0

/-- R14: the block count B. -/
def blockCount (len : Nat) : Nat := (len + 255) / 256

/-- R14: the length of the last verify block. -/
def lastBlockLength (len : Nat) : Nat := len - 256 * (blockCount len - 1)

/-- R14: the segment count. -/
def segmentCount (len : Nat) : Nat := (len + 15) / 16

/-- R14: the frame count of an extent; a FILL extent has none. -/
def Extent.frames (e : Extent) : Nat := if e.kind = .stream then (e.length + 15) / 16 else 0

/-- The free segments of the ring pool (R2). -/
def State.freeSegments (s : State) : Nat :=
  Config.ringPool - (s.jobs.toList.map fun j => if j.state = .closed then 0 else j.ring).sum

/-- The good deliveries measured against the target (R4, R5, R12). -/
def Counters.delivered (c : Counters) : Nat := c.deliveredPass + c.deliveredMarginal + c.deliveredUnverified

/-- A job in production: RUNNING, DRAINING or HALTING (R15). -/
def JobState.inProduction : JobState → Bool
  | .running | .draining | .halting => true
  | .closed | .opened => false

/-! ## The roster's places -/

/-- D0 to D15, ARM, PR, S0 to S3 (R130). -/
def Place.idx : Place → Fin 22
  | .tray n => ⟨n.val, by omega⟩
  | .arm => 16
  | .platter => 17
  | .shelf k => ⟨18 + k.val, by omega⟩

/-- Every place in the order of R130. -/
def allPlaces : List Place := (numbers 16).map .tray ++ [.arm, .platter] ++ (numbers 4).map .shelf

def State.disc (s : State) (p : Place) : Option Disc := nth s.places p.idx
def State.setDisc (s : State) (p : Place) (d : Option Disc) : State := { s with places := upd s.places p.idx d }
def State.modDisc (s : State) (p : Place) (f : Disc → Disc) : State := s.setDisc p ((s.disc p).map f)

/-- Every record of the roster (R114). -/
def State.discs (s : State) : List Disc := s.places.toList.filterMap id

/-- The records of a job (R12). -/
def State.discsOf (s : State) (j : JobId) : List Disc := s.discs.filter fun d => decide (d.job = some j)

/-- The place of the record with a tag. -/
def State.placeOfTag (s : State) (t : Half) : Option Place :=
  allPlaces.find? fun p => decide ((s.disc p).map Disc.tag = some t)

/-! ## Waves -/

/-- R48: a member of status ARMED or WRITING is in the wave. -/
def Member.live (m : Member) : Bool := decide (m.status = .armed ∨ m.status = .writing)

/-- FORMING or RUNNING. -/
def Pass.live (p : Pass) : Bool := decide (p.state = .forming ∨ p.state = .running)

/-- The live member entry of a port in a pass (R48). -/
def Pass.member (p : Pass) (n : PortId) : Option Member := p.wave.find? fun m => decide (m.port = n) && m.live

/-- The job in whose wave a port is (R48). -/
def State.waveOf (s : State) (n : PortId) : Option JobId :=
  (numbers 4).find? fun j => ((s.pass j).bind fun p => p.member n).isSome

/-- Rewrite the live entries of a port in a wave. -/
def Pass.mapMember (p : Pass) (n : PortId) (f : Member → Member) : Pass :=
  { p with wave := p.wave.map fun m => if m.port = n && m.live then f m else m }

/-! ## Move requests (R137) -/

def ReqKind.isFeedFor (n : PortId) : ReqKind → Bool
  | .feed p _ => decide (p = n)
  | _ => false

def ReqKind.isUnloadFor (n : PortId) : ReqKind → Bool
  | .unload p _ => decide (p = n)
  | _ => false

/-- A FEED or UNLOAD request of a port. -/
def ReqKind.ofPort (n : PortId) (k : ReqKind) : Bool := k.isFeedFor n || k.isUnloadFor n

def ReqKind.isFeed : ReqKind → Bool
  | .feed _ _ => true
  | _ => false

def ReqKind.isHost : ReqKind → Bool
  | .host _ _ _ => true
  | _ => false

def ReqKind.isFeedOf (j : JobId) : ReqKind → Bool
  | .feed _ k => decide (k = j)
  | _ => false

/-- A request of a port waits in the queue. -/
def State.queued (s : State) (f : ReqKind → Bool) : Bool := s.transport.queue.any fun r => f r.kind

/-- A request has been granted and its move runs. -/
def State.granted (s : State) (f : ReqKind → Bool) : Bool := s.transport.move.any fun m => f m.req.kind

/-- A granted FEED move whose grip has not yet been taken (R7). -/
def Move.beforeGrip (m : Move) : Bool := decide (m.phase = .toSource ∨ m.phase = .grip)

/-- Remove the requests of the queue that meet a condition. -/
def State.removeRequests (s : State) (f : ReqKind → Bool) : State :=
  s.modTransport fun t => { t with queue := t.queue.filter fun r => !f r.kind }

/-- Create a request: it takes the arrival counter's value (R137). -/
def State.createRequest (s : State) (k : ReqKind) : State :=
  s.modTransport fun t => { t with queue := t.queue ++ [⟨k, t.arrival⟩], arrival := t.arrival + 1 }

/-- How far an arrival order lies behind the arrival counter, modulo 2^32 (R143). -/
def Transport.age (t : Transport) (r : Request) : Nat := (t.arrival - r.arrival).toNat

/-- A request returned to the queue takes its place again by its arrival order (R137). -/
def Transport.requeue (t : Transport) (r : Request) : List Request :=
  t.queue.filter (fun q => decide (t.age r < t.age q)) ++ [r] ++ t.queue.filter (fun q => decide (t.age q ≤ t.age r))

/-! ## Time (log 1) -/

/-- A time in units of 100 ms as milliseconds (00_scope 5.2). -/
def tenths (n : Nat) : Nat := 100 * n

/-- A timer's expiry brings the clock up to its due time (log 1). -/
def State.until (s : State) (due : Option Nat) : State := { s with now := max s.now (due.getD 0) }

end Sys2Proof.Machine
end

