-- ==== Sys2Proof/Machine/Flags.lean ====
section
/-! DEFINITION. Causes, notices, reports and fault records: raising, withdrawing, asking the link for frames (chapter 9,
R30, R187). -/

namespace Sys2Proof.Machine

/-! ## Pending sets -/

def Notices.get (n : Notices) : CauseClass → NoticeClass
  | .system => n.system
  | .pass => n.pass
  | .port => n.port
  | .transport => n.transport
  | .printer => n.printer

def Notices.put (n : Notices) (c : CauseClass) (x : NoticeClass) : Notices :=
  match c with
  | .system => { n with system := x }
  | .pass => { n with pass := x }
  | .port => { n with port := x }
  | .transport => { n with transport := x }
  | .printer => { n with printer := x }

/-- A pair takes its place by rank (R171). -/
def insertRanked (x : Notice) : List Notice → List Notice
  | [] => [x]
  | y :: ys => if x.rank < y.rank then x :: y :: ys else y :: insertRanked x ys

/-- A raise adds a pair that its set does not hold (R170). -/
def NoticeClass.raise (c : NoticeClass) (x : Notice) : NoticeClass :=
  if x ∈ c.set then c else { c with set := insertRanked x c.set }

/-- A withdrawal removes a pair that is pending and not outstanding (R170). -/
def NoticeClass.withdraw (c : NoticeClass) (x : Notice) : NoticeClass :=
  if c.outstanding = some x then c else { c with set := c.set.filter (decide <| · ≠ x) }

/-- An acknowledgement removes the outstanding pair (R174). -/
def NoticeClass.acknowledge (c : NoticeClass) : NoticeClass :=
  match c.outstanding with
  | none => c
  | some x => ⟨c.set.filter (decide <| · ≠ x), none⟩

/-- The departure of a notice makes the highest pair outstanding (R172). -/
def NoticeClass.send (c : NoticeClass) : NoticeClass := { c with outstanding := c.set.head? }

def State.raise (s : State) (x : Notice) : State :=
  s.modNotices fun n => n.put x.cls ((n.get x.cls).raise x)

def State.withdraw (s : State) (x : Notice) : State :=
  s.modNotices fun n => n.put x.cls ((n.get x.cls).withdraw x)

/-- A pair is pending, the outstanding pair included. -/
def State.pendingPair (s : State) (x : Notice) : Bool := decide (x ∈ (s.notices.get x.cls).set)

/-- At the entry to SYNCED every outstanding pair and the outstanding report are cleared (R176). -/
def Notices.clearOutstanding (n : Notices) : Notices :=
  { n with
    system := { n.system with outstanding := none }
    pass := { n.pass with outstanding := none }
    port := { n.port with outstanding := none }
    transport := { n.transport with outstanding := none }
    printer := { n.printer with outstanding := none }
    reportOut := false }

/-! ## The outbound queue (R187) -/

def OutEntry.isAnswer : OutEntry → Bool
  | .answer _ => true
  | _ => false

/-- The commands whose answers are unsent (R185). -/
def Link.unsent (l : Link) : Nat := (l.queue.filter OutEntry.isAnswer).length

/-- An entry takes the last place unless the queue holds the like (R30, R172, R175). -/
def Link.request (l : Link) (e : OutEntry) : Link := if e ∈ l.queue then l else { l with queue := l.queue ++ [e] }

/-- A cause class is ready to send (R172). -/
def State.classReady (s : State) (c : CauseClass) : Bool :=
  let n := s.notices.get c
  !n.set.isEmpty && n.outstanding.isNone && decide (s.link.receiver = .synced)

/-- The DISC class is ready to send (R175). -/
def State.reportReady (s : State) : Bool :=
  !s.notices.reports.isEmpty && !s.notices.reportOut && decide (s.link.receiver = .synced)

/-- A job's credit count; 0 before PASS START creates one (R24). -/
def State.creditOf (s : State) (j : JobId) : Half := ((s.pass j).map fun p => p.comp.credits).getD 0

/-- C changed between two states (R30). -/
def creditChanged (s0 s : State) (j : JobId) : Bool :=
  (s.pass j).isSome && decide (s.creditOf j ≠ s0.creditOf j)

/-- Ask for a CREDIT frame (R30). -/
def State.requestCredit (s : State) (j : JobId) : State := s.modLink fun l => l.request (.credit j)

/-- CREDIT entries by job number, then NOTICE entries by class, then the REPORT entry (R187); `s0` is the state before
the event. -/
def State.requests (s0 s : State) : State :=
  let s := (numbers 4).foldl (fun s j => if creditChanged s0 s j then s.requestCredit j else s) s
  let s := causeClasses.foldl (fun s c => if s.classReady c then s.modLink fun l => l.request (.notice c) else s) s
  if s.reportReady then s.modLink fun l => l.request .report else s

/-- What the blocks ask of the link at the end of an event; nothing once PART RESET's RESPONSE has left, when the queue is
empty until the reset (R190). -/
def State.outbound (s0 s : State) : State := if s.link.stage = .answered then s else State.requests s0 s

/-! ## The report queue (R127) -/

/-- Append a report through the reservation or a free entry; otherwise count it as unreported (R124, R127). -/
def State.appendReport (s : State) (useReservation : Bool) (r : Report) : State :=
  let n := s.notices
  if useReservation && n.reserved then s.modNotices fun n => { n with reports := n.reports ++ [r], reserved := false }
  else if n.reports.length + (if n.reserved then 1 else 0) < Config.reportRoom then
    s.modNotices fun n => { n with reports := n.reports ++ [r] }
  else { s with unreported := satInc 65535 s.unreported }

/-- The move's reservation is given up (R127). -/
def State.giveUpReservation (s : State) : State := s.modNotices fun n => { n with reserved := false }

/-! ## Fault records (R178) -/

/-- A fault fills a record that is not valid, or counts as a further fault (R178). -/
def FaultRecord.take (old : Option FaultRecord) (x : FaultRecord) : Option FaultRecord :=
  match old with
  | none => some { x with further := 0 }
  | some r => some { r with further := satInc 255 r.further }

def State.faultOf (s : State) (j : JobId) (cause : FaultCause) (pass : Option Half) (port : Option PortId)
    (lba : Option Nat) (tag : Option Half) : State :=
  s.modJob j fun x => { x with fault := FaultRecord.take x.fault ⟨cause, pass, port, lba, tag, 0⟩ }

end Sys2Proof.Machine
end

