-- ==== Sys2Proof/Machine/Ports.lean ====
section
/-! DEFINITION. What a port does with its commands, its link and its state, whatever asked for it (chapter 4). -/

namespace Sys2Proof.Machine

/-! ## Command classes and timeouts -/

/-- R70. -/
def DriveCmd.cls : DriveCmd → CmdClass
  | .identify => .probe
  | .openTray | .closeTray | .sleep => .tray
  | .mediaCheck _ => .check
  | .writeSegment _ => .write
  | .synchronise => .sync
  | .finalise => .close
  | .readBlock _ _ => .read
  | .wake => .wake

/-- The table's entry for a class, in ms (R18, R70). -/
def Timing.timeout (t : Timing) (c : CmdClass) : Nat :=
  tenths <| match c with
    | .probe => t.probe
    | .tray => t.tray
    | .check => t.check
    | .write => t.write
    | .sync => t.sync
    | .close => t.close
    | .read => t.read
    | .wake => t.wake

/-- The wait before a NOT_READY reissue: 100 ms for a WRITE, 500 ms otherwise (R71). -/
def CmdClass.notReadyWait : CmdClass → Nat
  | .write => 100
  | _ => 500

/-! ## The command in flight -/

/-- No command in flight, and none waits for the link. -/
def Port.clearCmd (p : Port) : Port :=
  { p with
    cmd := none
    afterReset := none
    firstIssue := none
    ending := false
    endingDue := none
    transferred := 0
    paused := false
    pauseDue := none
    answerDue := none
    answerHeld := none
    reissueAt := none }

/-- Issue a command with a retry count; while the link is being reset it waits for the link (R71, R74, log 5). -/
def Port.issue (now : Nat) (t : Timing) (c : DriveCmd) (retries : Nat) (p : Port) : Port :=
  if p.resetting then { p.clearCmd with afterReset := some c, retries := retries }
  else { p.clearCmd with
    cmd := some c, retries := retries, firstIssue := some now, answerDue := some (now + t.timeout c.cls) }

/-- The reissue after a NOT_READY: the same command from its first sector, uncounted, its first issue kept (R71, R85). -/
def Port.reissue (now : Nat) (t : Timing) (p : Port) : Port :=
  { p with reissueAt := none, transferred := 0, answerDue := p.cmd.map fun c => now + t.timeout c.cls }

/-- A link reset discards everything outstanding on the link (R74). -/
def Port.linkReset (p : Port) : Port := { p.clearCmd with link := false, resetting := true }

/-- The link is up again: the port carries on with the command that waited (R74, log 5). -/
def Port.linkBack (now : Nat) (t : Timing) (p : Port) : Port :=
  let p := { p with link := true, resetting := false }
  match p.afterReset with
  | none => p
  | some c => p.issue now t c p.retries

/-- A command is in flight or waits for the link. -/
def Port.busy (p : Port) : Bool := p.cmd.isSome || p.afterReset.isSome

/-- The drive owes an answer of a class to a command that has not been ended (R70). -/
def Port.awaits (p : Port) (c : CmdClass) : Bool :=
  decide (p.cmd.map DriveCmd.cls = some c) && !p.ending && p.reissueAt.isNone

/-- R72: end the command in flight; one waiting out a NOT_READY interval is dropped. -/
def Port.endCommand (now : Nat) (t : Timing) (p : Port) : Port :=
  match p.cmd with
  | none => p.clearCmd
  | some c =>
    if p.ending then p
    else if p.reissueAt.isSome then p.clearCmd
    else { p with
      ending := true, endingDue := some (now + t.timeout c.cls)
      paused := false, pauseDue := none, answerDue := none, answerHeld := none }

/-- NOT_READY: the command stays in flight and waits (R71). -/
def Port.waitReady (now : Nat) (c : CmdClass) (p : Port) : Port :=
  { p with
    reissueAt := some (now + c.notReadyWait), answerDue := none, transferred := 0
    paused := false, pauseDue := none, answerHeld := none }

/-! ## Port states -/

/-- A change of state; the idle time reached in IDLE is held outside it (R77, log 11). -/
def Port.goto (now : Nat) (st : PortState) (p : Port) : Port :=
  { p with state := st, idleHeld := if p.state = .idle then now - p.idleSince else p.idleHeld }

/-- The idle time in ms (R68, R77, log 11). -/
def Port.idleTime (now : Nat) (p : Port) : Nat := if p.state = .idle then now - p.idleSince else p.idleHeld

/-- IDLE with errand NONE and idle time 0 (R75, R79, R81). -/
def Port.goIdle (now : Nat) (p : Port) : Port :=
  { p.clearCmd with state := .idle, errand := .none, step := .none, idleSince := now, idleHeld := 0 }

/-- Issue a first command of its kind for port `p`: the retry count starts at 0 (R71). -/
def State.issue (s : State) (p : PortId) (c : DriveCmd) : State := s.modPort p (Port.issue s.now s.timing c 0)

def State.gotoPort (s : State) (p : PortId) (st : PortState) : State := s.modPort p (Port.goto s.now st)

def State.goIdle (s : State) (p : PortId) : State := s.modPort p (Port.goIdle s.now)

/-- DONE: no errand, no recovery; the transport controller then makes the UNLOAD request (R81, R139). -/
def State.goDone (s : State) (p : PortId) : State :=
  s.modPort p fun q => { q.goto s.now .done with errand := .none, step := .none }

/-- Take an outcome into the context (R70). -/
def State.takeOutcome (s : State) (p : PortId) (c : CmdClass) (o : Outcome) : State :=
  s.modPort p fun q => { q with lastOutcome := some (c, o) }

/-- R90: entry to FAULTED. -/
def State.goFaulted (s : State) (p : PortId) : State :=
  if (s.port p).state = .faulted then s
  else
    ((s.modPort p fun q =>
        { q.clearCmd.goto s.now .faulted with errand := .none, step := .none, announce := true }).removeRequests
      (ReqKind.ofPort p)).raise (.portFaulted p)

/-- R74, R92: entry to OFFLINE from another state. That the tray errand is NONE after a link down in OPENING, OPEN or
CLOSING is the model's choice (log 53). -/
def State.goOffline (s : State) (p : PortId) : State :=
  let t := (s.modPort p fun q =>
      { q.clearCmd.goto s.now .offline with errand := .none, step := .none, announce := true }).removeRequests
    (ReqKind.isFeedFor p)
  if (s.port p).state = .offline then t else t.raise (.portOffline p)

/-- PROBE: identify is issued (R75). -/
def State.goProbe (s : State) (p : PortId) : State :=
  (s.modPort p fun q => { q.goto s.now .probe with errand := .none, step := .none }).issue p .identify

/-- CHECKING at recovery step IDENTIFY (R89). -/
def State.goRecovery (s : State) (p : PortId) : State :=
  (s.modPort p fun q => { q.goto s.now .checking with errand := .none, step := .identify }).issue p .identify

/-- The tray is opened for an errand (R79, R81). -/
def State.goOpening (s : State) (p : PortId) (e : Errand) : State :=
  (s.modPort p fun q => { q.goto s.now .opening with errand := e }).issue p .openTray

/-- The tray is closed (R79, R80, R81). -/
def State.goClosing (s : State) (p : PortId) : State := (s.gotoPort p .closing).issue p .closeTray

/-- CHECKING with the media check issued for the image of the job of the disc at the tray (R80, R83). -/
def State.goChecking (s : State) (p : PortId) : State :=
  let len := (((s.disc (.tray p)).bind Disc.job).map fun j => (s.job j).length).getD 0
  (s.modPort p fun q => { q.goto s.now .checking with errand := .none, step := .none }).issue p (.mediaCheck len)

/-- R80, R81: the arm's work at an open tray is done; a FAULTED port stays as it is (R90). -/
def State.trayServed (s : State) (p : PortId) : State :=
  if (s.port p).state = .trayOpen then s.goClosing p else s

/-! ## Discs at a port -/

/-- R121: the first failure writes cause and LBA; a later one leaves them. -/
def Disc.scrap (d : Disc) (c : FaultCause) (lba : Option Nat) : Disc :=
  if d.cause.isSome then { d with state := .scrap } else { d with state := .scrap, cause := some c, lba := lba }

/-- A wave has at most 16 entries, and the three counts of a pass hold at 16 (R47, 00_scope 5.3, log 17). -/
def maxCount : Nat := 16

/-- R55, R56, R58, R63: a live member takes a status that leaves the wave, and the count it belongs to. That its in-flight
segment becomes absent at an abort too, where R63 is silent, is the model's choice (log 57). -/
def Pass.leave (x : Pass) (p : PortId) (st : MemberStatus) : Pass :=
  let y := x.mapMember p fun m => { m with status := st, inFlight := none }
  match st with
  | .finished => { y with finished := satInc maxCount y.finished }
  | .cut => { y with cut := satInc maxCount y.cut }
  | .failed => { y with failed := satInc maxCount y.failed }
  | .armed | .writing | .returned => y

def State.memberLeaves (s : State) (p : PortId) (st : MemberStatus) : State :=
  match s.waveOf p with
  | none => s
  | some j => s.modPass j fun x => x.leave p st

/-- The live member entry of a port (R48). -/
def State.member (s : State) (p : PortId) : Option Member := (s.waveOf p).bind fun j => (s.pass j).bind (Pass.member · p)

/-- R93: hand a disc's failure to its job's fault record. -/
def State.handFault (s : State) (p : PortId) (c : FaultCause) (lba : Option Nat) : State :=
  match s.disc (.tray p) with
  | none => s
  | some d =>
    match d.job with
    | none => s
    | some j => s.faultOf j c d.pass (some p) lba (some d.tag)

/-- R93: a disc that fails while its port is ARMED, WRITING, FINISHING or VERIFYING: the member leaves as FAILED, the
record becomes SCRAP, the fault record takes the failure, the verify engine discards its context (R110). -/
def State.failBurn (s : State) (p : PortId) (c : FaultCause) (lba : Option Nat) : State :=
  ((((s.memberLeaves p .failed).modDisc (.tray p) fun d => d.scrap c lba).handFault p c lba).setVerify p none)

/-- The fault LBA of a burn that fails for the port's own reason: W in ARMED and WRITING, none otherwise (R93). -/
def State.burnLba (s : State) (p : PortId) : Option Nat := (s.member p).map Member.written

/-- ARMED, WRITING, FINISHING or VERIFYING (R93). -/
def PortState.burning : PortState → Bool
  | .armed | .writing | .finishing | .verifying => true
  | _ => false

end Sys2Proof.Machine
end

