-- ==== Sys2Proof/Machine/Roster.lean ====
section
/-! DEFINITION. The disc roster's own moves: creation, arrival, delivery, return, loss, and what a release does to the
record's job (chapter 6, R5, R6). -/

namespace Sys2Proof.Machine

/-! ## Leaving RUNNING -/

/-- R6, R8: a LOADED port of the job gives up its blank. -/
def State.giveUpBlank (s : State) (p : PortId) : State :=
  (s.modDisc (.tray p) fun d => { d with state := .returning }).goDone p

/-- R6, R8: every port assigned to the job in LOADED gives up its blank. -/
def State.giveUpBlanks (s : State) (j : JobId) : State :=
  (numbers 16).foldl
    (fun s p => if s.assigned p = some j ∧ (s.port p).state = .loaded then s.giveUpBlank p else s) s

/-- R6: entry to DRAINING; the removal of the job's FEED requests and the abort of an empty FORMING wave follow at the
same event (log 2). -/
def State.enterDraining (s : State) (j : JobId) : State :=
  ((s.modJob j fun x => { x with state := .draining }).giveUpBlanks j).withdraw (.waveReady j)

/-! ## Creation (R115, R117, R118) -/

/-- R115: the first value from the tag counter on that no record holds. -/
def State.freshTag (s : State) : Half :=
  let held := s.discs.map Disc.tag
  (((List.range 23).map fun k => s.tagCounter + BitVec.ofNat 16 k).find? fun t => decide (t ∉ held)).getD s.tagCounter

/-- A record with the tag, job and state of its creation and nothing else (R116). -/
def Disc.new (tag : Half) (job : Option JobId) (state : DiscState) : Disc where
  tag := tag
  job := job
  state := state
  dest := none
  port := none
  pass := none
  grade := none
  metrics := none
  serial := none
  void := false
  cause := none
  lba := none

/-- A record is created at a place and takes its tag (R115). -/
def State.createDisc (s : State) (p : Place) (job : Option JobId) (state : DiscState) (f : Disc → Disc) : State :=
  let tag := s.freshTag
  { s.setDisc p (some (f (Disc.new tag job state))) with tagCounter := tag + 1 }

/-- R118: an ORPHAN is found; its port field names the tray where it was found. -/
def State.createOrphan (s : State) (p : Place) : State :=
  s.createDisc p none .orphan fun d =>
    match p with
    | .tray n => { d with port := some n }
    | _ => d

def State.countJob (s : State) (j : Option JobId) (f : Counters → Counters) : State :=
  match j with
  | none => s
  | some j => s.modJob j fun x => { x with counters := f x.counters }

/-- R117: the grip at an input bin with the present sensor set creates a record at ARM and counts it as picked. -/
def State.pick (s : State) (p : PortId) (j : JobId) (double : Bool) : State :=
  let s := if double then
      s.createDisc .arm (some j) .scrap fun d => { d with cause := some .doublePick, dest := some (.out .x) }
    else s.createDisc .arm (some j) .feeding fun d => { d with dest := some (.tray p) }
  s.countJob (some j) fun c => { c with picked := satInc max32 c.picked }

/-! ## Places -/

/-- A place is freed; a shelf slot leaves the shelf order (R132). -/
def State.freePlace (s : State) (p : Place) : State :=
  (s.setDisc p none).modTransport fun t =>
    match p with
    | .shelf k => { t with shelfOrder := t.shelfOrder.filter fun x => decide (x ≠ k) }
    | _ => t

/-- R119: at the grip the record at the source takes location ARM and the move's destination. -/
def State.liftDisc (s : State) (p : Place) (dest : Station) : State :=
  match s.disc p with
  | none => s
  | some d => (s.freePlace p).setDisc .arm (some { d with dest := some dest })

/-- R119, R120: the record at ARM arrives at a place. -/
def State.arrive (s : State) (p : Place) : State :=
  match s.disc .arm with
  | none => s
  | some d =>
    let s := s.setDisc .arm none
    let d := { d with dest := none }
    match p with
    | .tray n => s.setDisc p (some { d with port := some n })
    | .platter => s.setDisc p (some (if d.state = .graded then { d with state := .printing } else d))
    | .shelf k => (s.setDisc p (some d)).modTransport fun t =>
        if d.state = .graded then { t with shelfOrder := t.shelfOrder ++ [k] } else t
    | .arm => s.setDisc .arm (some d)

/-! ## Leaving the roster -/

/-- R5: a good delivery that brings the delivered counters to a non-zero target takes a RUNNING job to DRAINING. -/
def State.checkTarget (s : State) (j : JobId) : State :=
  let x := s.job j
  if x.state = .running ∧ x.target ≠ 0 ∧ x.counters.delivered = x.target then s.enterDraining j else s

/-- R122: which counter a delivery increments. -/
def Counters.deliver (c : Counters) (b : OutBin) (g : Option Grade) : Counters :=
  match b with
  | .x => { c with rejected := satInc max32 c.rejected }
  | .o1 => { c with deliveredMarginal := satInc max32 c.deliveredMarginal }
  | .o0 =>
    if g = some .unverified then { c with deliveredUnverified := satInc max32 c.deliveredUnverified }
    else { c with deliveredPass := satInc max32 c.deliveredPass }

/-- R122, R125: the record at ARM is delivered to O0, O1 or X. -/
def State.deliver (s : State) (b : OutBin) : State :=
  match s.disc .arm with
  | none => s
  | some d =>
    let s := s.countJob d.job fun c => c.deliver b d.grade
    let s := s.appendReport true ⟨{ d with dest := none }, some b, none, none⟩
    let s := s.setDisc .arm none
    match d.job with
    | none => s
    | some j => if b = .x then s else s.checkTarget j

/-- R123: the record at ARM is returned to its input bin. -/
def State.returnDisc (s : State) : State :=
  match s.disc .arm with
  | none => s
  | some d => (s.countJob d.job fun c => { c with returned := satInc max32 c.returned }).setDisc .arm none

/-- R124: a record is marked LOST; `useReservation` says that it is the disc of the delivery move under way. -/
def State.lose (s : State) (p : Place) (c : LossCause) (useReservation : Bool) : State :=
  match s.disc p with
  | none => s
  | some d =>
    let s := s.countJob d.job fun x => { x with lost := satInc max32 x.lost }
    let s := s.appendReport useReservation ⟨{ d with dest := none }, none, some c, some p⟩
    s.freePlace p

end Sys2Proof.Machine
end

