-- ==== Sys2Proof/Machine/VerifyEngine.lean ====
section
/-! DEFINITION. The verify engine: coverage, block reads, loads, metrics and the grade (chapter 5). -/

namespace Sys2Proof.Machine

/-! ## Coverage (R97) -/

/-- The planned count of a verify of `b` blocks (R97). -/
def plannedCount (sampled : Bool) (k b : Nat) : Nat :=
  if sampled then (b - 1) / k + 1 + (if (b - 1) % k = 0 then 0 else 1) else b

/-- The block at a coverage position (R97). -/
def coverageBlock (sampled : Bool) (k b pos : Nat) : Nat := if sampled then min (pos * k) (b - 1) else pos

/-- The sectors of block `n` of an image of `len` sectors (R14). -/
def blockLength (len n : Nat) : Nat := if n + 1 < blockCount len then Config.block else lastBlockLength len

/-! ## Reads (R98) -/

/-- The running CRC is preset, the sectors received return to 0 (R98). -/
def Verify.restart (v : Verify) : Verify := { v with crc := crcPreset, received := 0 }

/-- R98: ask the port to read the current block. -/
def State.readBlock (s : State) (p : PortId) (v : Verify) : State :=
  (s.setVerify p (some v.restart)).issue p (.readBlock (256 * v.block) v.blockLen)

/-- R98: a sector of the read is fed into the running CRC; one beyond the requested count is not. -/
def Verify.feed (v : Verify) (data : Sector) : Verify :=
  if v.received < v.blockLen then { v with crc := crcRun v.crc data, received := v.received + 1 } else v

/-- R96: the port's context is created and block 0 is asked for. -/
def State.startVerify (s : State) (p : PortId) : State :=
  match s.disc (.tray p) with
  | none => s
  | some d =>
    match d.job with
    | none => s
    | some j =>
      let g := s.profile (s.job j).profile
      let len := (s.job j).length
      let sampled := decide (g.mode = .sampled)
      s.readBlock p {
        job := j, tag := d.tag, sampled := sampled, stride := g.stride
        planned := plannedCount sampled g.stride (blockCount len), position := 0
        block := 0, blockLen := blockLength len 0, reissues := 0, crc := crcPreset, received := 0
        lastFailure := none, peak := 0, sum := 0, sectors := 0, blocks := 0 }

/-! ## The grade -/

/-- R106: the mean load A. -/
def meanLoad (sum sectors : Nat) : Nat :=
  if sectors = 0 then 0 else min 65535 ((2000 * sum + sectors) / (2 * sectors))

/-- R103: the block load. -/
def blockLoad (corrected weight reissues : Nat) : Nat := min 65535 (min 65535 corrected + weight * reissues)

/-- R107: the grade of a complete coverage. -/
def gradeOf (g : Profile) (peak mean : Nat) : Grade :=
  if mean > g.meanFail then .fail
  else if peak > g.peakWarn ∨ mean > g.meanWarn then .marginal
  else .pass

/-- R108: the grade is written; a FAIL carries its cause and LBA and is handed to the fault record. -/
def State.writeGrade (s : State) (p : PortId) (v : Verify) (g : Grade) (fault : Option (FaultCause × Option Nat)) : State :=
  let m : Metrics := ⟨v.peak, meanLoad v.sum v.sectors, v.blocks, v.sectors⟩
  let s := s.modDisc (.tray p) fun d =>
    let d := { d with state := .graded, grade := some g, metrics := some m }
    match fault with
    | none => d
    | some (c, lba) => { d with cause := some c, lba := lba }
  let s := match fault with
    | none => s
    | some (c, lba) => s.handFault p c lba
  (s.setVerify p none).goDone p

/-- R107: coverage is complete. -/
def State.decideGrade (s : State) (p : PortId) (v : Verify) (g : Profile) : State :=
  match gradeOf g v.peak (meanLoad v.sum v.sectors) with
  | .fail => s.writeGrade p v .fail (some (.mean, none))
  | x => s.writeGrade p v x none

/-- R104: a block read is counted. -/
def Verify.count (v : Verify) (load : Nat) : Verify :=
  { v with
    blocks := v.blocks + 1, sectors := v.sectors + v.blockLen, sum := v.sum + load, peak := max v.peak load
    position := v.position + 1 }

/-- R105: the current block becomes the next of the sequence. -/
def Verify.next (v : Verify) (len : Nat) : Verify :=
  let b := coverageBlock v.sampled v.stride (blockCount len) v.position
  { v with block := b, blockLen := blockLength len b, reissues := 0, lastFailure := none }

/-- R102, R105: a complete read with its corrected count. -/
def State.completeRead (s : State) (p : PortId) (v : Verify) (corrected : Nat) : State :=
  let x := s.job v.job
  let g := s.profile x.profile
  let first := 256 * v.block
  let matched := decide (crcValue v.crc = s.memory.digest v.job v.block)
  let v := v.count (blockLoad corrected g.weight v.reissues)
  if !matched then s.writeGrade p v .fail (some (.mismatch, some first))
  else if v.peak > g.peakFail then s.writeGrade p v .fail (some (.peak, some first))
  else if v.position < v.planned then s.readBlock p (v.next x.length)
  else s.decideGrade p v g

/-- R99 to R101: a failed attempt with the LBA the drive gave. -/
def State.failedAttempt (s : State) (p : PortId) (v : Verify) (lba : Option Nat) : State :=
  let first := 256 * v.block
  let v := { v with lastFailure := lba.filter fun l => decide (first ≤ l ∧ l < first + v.blockLen) }
  if v.reissues < s.timing.retry then s.readBlock p { v with reissues := v.reissues + 1 }
  else s.writeGrade p v .fail (some (.unreadable, some (v.lastFailure.getD first)))

/-- R99: the answer to a read is classified. A TIMEOUT is reported after the recovery identify (R88). -/
def State.readReported (s : State) (p : PortId) (o : Outcome) : State :=
  match s.verify p with
  | none => s
  | some v =>
    let whole := decide (v.received = v.blockLen)
    match o with
    | .answer .good => if whole then s.completeRead p v 0 else s.failedAttempt p v none
    | .answer (.recovered n) => if whole then s.completeRead p v n else s.failedAttempt p v none
    | .answer (.mediaError l) => s.failedAttempt p v l
    | .answer _ | .timeout => s.failedAttempt p v none

end Sys2Proof.Machine
end

