-- ==== Sys2Proof/Machine/Passes.lean ====
section
/-! DEFINITION. Composition into the ring, credits, the wave, launch, cuts, end and abort of a pass (chapters 2 and 3). -/

namespace Sys2Proof.Machine

/-! ## Quantities of a pass -/

/-- The written counts of the members in ARMED or WRITING (R27). -/
def Pass.liveWritten (p : Pass) : List Nat := (p.wave.filter Member.live).map Member.written

/-- R27: the tail. -/
def Pass.tail (p : Pass) : Nat :=
  if p.state = .forming then 0
  else match p.liveWritten with
    | [] => p.comp.head
    | w :: ws => ws.foldl min w

/-- Credits outstanding: C - F modulo 65,536 (R24). -/
def Composition.outstanding (c : Composition) : Nat := (c.credits - halfOf c.frames).toNat

/-- R28: free space in sectors. -/
def Pass.free (x : Job) (p : Pass) : Nat := 16 * x.ring - (p.comp.head - p.tail)

/-- The extent of the cursor (R25). -/
def Pass.cursor (x : Job) (p : Pass) : Option Extent := p.comp.extent.bind fun i => (x.map.getD [])[i]?

/-- The frames still needed to finish the current extent (R29). -/
def Pass.needed (p : Pass) (e : Extent) : Nat := e.frames - p.comp.framesInExtent

/-- R39: the prefill point. -/
def Job.prefillPoint (x : Job) : Nat := min (16 * x.prefill) x.length

/-- R37: ingress is complete. -/
def Pass.complete (x : Job) (p : Pass) : Bool := decide (p.comp.head = x.length)

/-- R29: a credit is wanted, space apart. -/
def Pass.wantsCredit (x : Job) (p : Pass) : Bool :=
  let o := p.comp.outstanding
  match p.cursor x with
  | some e => p.live && decide (e.kind = .stream) && decide (o < 8) && decide (o < p.needed e)
      && (decide (p.state = .running) || decide (p.comp.head + 16 * o < x.prefillPoint))
  | none => false

/-- R29: room for one more credit. -/
def Pass.creditRoom (x : Job) (p : Pass) : Bool := decide (16 * p.comp.outstanding + 16 ≤ p.free x)

/-- R35: fill is wanted, space apart. -/
def Pass.wantsFill (x : Job) (p : Pass) : Bool :=
  match p.cursor x with
  | some e => p.live && decide (e.kind = .fill)
      && (decide (p.state = .running) || decide (p.comp.head < x.prefillPoint))
  | none => false

/-- R35: a fill sector can be composed. -/
def Pass.canFill (x : Job) (p : Pass) : Bool := p.wantsFill x && decide (1 ≤ p.free x)

/-- R38: ingress is blocked. -/
def Pass.isBlocked (x : Job) (p : Pass) : Bool :=
  (p.wantsCredit x && !p.creditRoom x) || (p.wantsFill x && decide (p.free x = 0))

/-- R57: the greatest W among the members in WRITING. -/
def Pass.lead (p : Pass) : Nat :=
  ((p.wave.filter fun m => decide (m.status = .writing)).map Member.written).foldl max 0

/-- R57: the lag of a member in segments. -/
def Pass.lag (p : Pass) (m : Member) : Nat := (p.lead - m.written) / 16

/-! ## Composition -/

/-- The LBA after the last of extent `i` (R14). -/
def extentEnd (m : List Extent) (i : Nat) : Nat := mapLength (m.take (i + 1))

/-- R25: the extent after the sector that brings the head to `head`. At the end of an extent the frames taken in the current
extent go to 0, and stay 0 while that extent is FILL or absent: R24 defines the count for a STREAM extent alone, and what it
reads otherwise is the model's choice (log 48). -/
def Composition.advance (m : List Extent) (c : Composition) : Composition :=
  let c := { c with head := c.head + 1 }
  match c.extent with
  | none => c
  | some i =>
    if c.head < extentEnd m i then c
    else { c with extent := if i + 1 < m.length then some (i + 1) else none, framesInExtent := 0 }

/-- R42, R43: the digest of a completed block is stored or compared; a mismatch answers the block's first LBA. -/
def State.blockDigest (s : State) (j : JobId) (b : Nat) (d : Word) : State × Option Nat :=
  let x := s.job j
  match x.digest with
  | .building =>
    let s := { s with memory := s.memory.setDigest j b d }
    (if b + 1 = blockCount x.length then s.modJob j fun x => { x with digest := .sealed } else s, none)
  | .sealed => (s, if s.memory.digest j b = d then none else some (256 * b))
  | .empty => (s, none)

/-- R26, R41: one sector is composed into the ring and absorbed by the block accumulator; a mismatch answers the first
LBA of its block. -/
def State.composeSector (s : State) (j : JobId) (data : Sector) : State × Option Nat :=
  match s.pass j with
  | none => (s, none)
  | some p =>
    let x := s.job j
    let n := p.comp.head
    let acc := crcRun (p.comp.accumulator.getD crcPreset) data
    let s := { s with memory := s.memory.setSector j (n % (16 * x.ring)) data }
    if (n + 1) % 256 = 0 ∨ n + 1 = x.length then
      (s.modPass j fun p => { p with comp :=
        { p.comp.advance (x.map.getD []) with
          accumulator := some crcPreset, blocksDone := p.comp.blocksDone + 1 } }).blockDigest j (n / 256) (crcValue acc)
    else
      (s.modPass j fun p => { p with comp := { p.comp.advance (x.map.getD []) with accumulator := some acc } }, none)

/-- The sectors of a frame in LBA order; the first mismatch is kept (R41, R43). -/
def State.composeSectors (s : State) (j : JobId) (ds : List Sector) : State × Option Nat :=
  ds.foldl (fun (s, m) d => let (t, m') := s.composeSector j d; (t, m.orElse fun _ => m')) (s, none)

/-! ## Aborts (R63, R64) -/

/-- R63: what an abort does to a live member; its in-flight segment: log 57. -/
def State.abortMember (s : State) (j : JobId) (cause : FaultCause) (p : PortId) : State :=
  match (s.pass j).bind (Pass.member · p) with
  | none => s
  | some m =>
    match m.status with
    | .armed =>
      let s := (s.modPass j fun x => x.leave p .returned).modDisc (.tray p) fun d => { d with pass := none }
      if (s.job j).state = .draining ∨ (s.job j).state = .halting then s.giveUpBlank p else s.gotoPort p .loaded
    | .writing =>
      let s := s.modPort p (Port.endCommand s.now s.timing)
      let s := s.modPass j fun x => x.leave p .failed
      let s := (s.modDisc (.tray p) fun d => d.scrap cause (some m.written)).handFault p cause (some m.written)
      s.goDone p
    | .finished | .cut | .failed | .returned => s

/-- R62 to R64: a FORMING or RUNNING pass is aborted; the fault record takes the abort, then the scrapped discs. -/
def State.abortPass (s : State) (j : JobId) (cause : AbortCause) (lba : Option Nat) : State :=
  match s.pass j with
  | none => s
  | some p =>
    if !p.live then s
    else
      let s := s.faultOf j cause.fault (some p.number) none lba none
      let s := s.modPass j fun p =>
        { p with state := .aborted, cause := some cause, comp := { p.comp with accumulator := none, blocked := false } }
      let s := s.modJob j fun x => { x with digest := if x.digest = .building then .empty else x.digest }
      let s := (numbers 16).foldl (fun s n => s.abortMember j cause.fault n) s
      s.raise (.passAborted j)

/-! ## Image frames (R32 to R34) -/

/-- The live pass an image frame names, by its job and the low 8 bits of its pass number; none for a stray frame. -/
def State.framePass (s : State) (job : Byte) (payload : List Byte) : Option (JobId × Pass) :=
  (numbered 4 job).bind fun j => (s.pass j).bind fun p =>
    if p.live ∧ 32 ≤ payload.length ∧ byteAt payload 0 = p.number.extractLsb' 0 8 then some (j, p) else none

/-- R33: the sector count that is due. -/
def Pass.dueSize (p : Pass) (e : Extent) : Nat := min 16 (e.length - 16 * p.comp.framesInExtent)

/-- R33: the conditions under which a frame that is not stray is taken. -/
def Pass.accepts (x : Job) (p : Pass) (payload : List Byte) : Bool :=
  match p.cursor x with
  | none => false
  | some e =>
    decide (e.kind = .stream) && decide (half payload 2 = halfOf p.comp.frames)
      && decide (0 < p.comp.outstanding) && decide ((byteAt payload 1).toNat = p.dueSize e)
      && decide (payload.length = 32 + 2048 * (byteAt payload 1).toNat)

/-- The sectors a frame carries (11.2). -/
def frameSectors (payload : List Byte) : List Sector :=
  (List.range (byteAt payload 1).toNat).map fun i => (payload.drop (32 + 2048 * i)).take 2048

/-- R32 to R34, R64: an image frame reaches the composer. That the LBA of a STREAM_FAULT is H also where H = L is one above
the range of R178 is the model's choice (log 60). -/
def State.imageFrame (s : State) (job : Byte) (payload : List Byte) : State :=
  match s.framePass job payload with
  | none => s.modLink fun l => { l with stray := satInc max32 l.stray }
  | some (j, p) =>
    if p.accepts (s.job j) payload then
      let s := s.modPass j fun p =>
        { p with comp := { p.comp with frames := p.comp.frames + 1, framesInExtent := p.comp.framesInExtent + 1 } }
      match s.composeSectors j (frameSectors payload) with
      | (s, none) => s
      | (s, some lba) => s.abortPass j .sourceMismatch (some lba)
    else s.abortPass j .streamFault (some p.comp.head)

/-- R35: one fill sector. -/
def State.fillOne (s : State) (j : JobId) : State :=
  match s.pass j with
  | none => s
  | some p =>
    if p.canFill (s.job j) then
      match s.composeSector j (List.replicate Config.sectorBytes (((p.cursor (s.job j)).map Extent.fill).getD 0)) with
      | (s, none) => s
      | (s, some lba) => s.abortPass j .sourceMismatch (some lba)
    else s

/-! ## The wave -/

/-- R47: the entries of a wave beside which a new one has room. Below 16 entries every one is kept (R48); of 16 the first
that has left the wave gives way, the model's choice (log 17). -/
def makeRoom (wave : List Member) : List Member :=
  if wave.length < maxCount then wave else wave.eraseP fun q => !q.live

/-- R48, R50: a new entry takes its place in port order, after the entries of its port that have left the wave. -/
def insertMember (m : Member) (wave : List Member) : List Member :=
  (makeRoom wave).filter (fun q => decide (q.port ≤ m.port)) ++ [m]
    ++ (makeRoom wave).filter (fun q => decide (m.port < q.port))

/-- R49, R50: a LOADED port is admitted. A port in the wave is not admitted to it a second time (R48). -/
def State.joinWave (s : State) (j : JobId) (p : PortId) : State :=
  match s.disc (.tray p), s.pass j with
  | some d, some x =>
    if (x.member p).isSome then s
    else
      let s := s.setPass j (some { x with wave := insertMember ⟨p, d.tag, 0, none, .armed⟩ x.wave })
      (s.modDisc (.tray p) fun d => { d with pass := some x.number }).gotoPort p .armed
  | _, _ => s

/-- R50, R83: a port enters LOADED for a RUNNING job, and joins a FORMING wave. -/
def State.enterLoaded (s : State) (p : PortId) (j : JobId) : State :=
  let s := (s.modDisc (.tray p) fun d => { d with state := .loaded }).gotoPort p .loaded
  if (s.pass j).any fun x => decide (x.state = .forming) then s.joinWave j p else s

/-- R51: every member in ARMED begins writing. -/
def State.launchMember (s : State) (j : JobId) (p : PortId) : State :=
  if ((s.pass j).bind (Pass.member · p)).any fun m => decide (m.status = .armed) then
    ((s.modPass j fun x => x.mapMember p fun m => { m with status := .writing }).modDisc (.tray p)
      fun d => { d with state := .burning }).gotoPort p .writing
  else s

/-- R51: the launch. -/
def State.launch (s : State) (j : JobId) : State :=
  let s := (numbers 16).foldl (fun s p => s.launchMember j p) s
  (s.modPass j fun x => { x with state := .running, closed := true }).raise (.passLaunched j)

/-- R51: the launch condition. -/
def Pass.mayLaunch (p : Pass) : Bool :=
  decide (p.state = .forming) && p.comp.prefillReached && p.wave.any Member.live

/-- R58: a member is cut. -/
def State.cutMember (s : State) (j : JobId) (m : Member) : State :=
  let s := s.modPort m.port (Port.endCommand s.now s.timing)
  let s := s.modPass j fun x => x.leave m.port .cut
  let s := (s.modDisc (.tray m.port) fun d => d.scrap .straggler (some m.written)).handFault m.port .straggler
    (some m.written)
  s.goDone m.port

/-- R57: the members whose lag exceeds the limit. -/
def Pass.stragglers (p : Pass) (limit : Nat) : List Member :=
  if limit = 0 then [] else p.wave.filter fun m => decide (m.status = .writing ∧ limit < p.lag m)

/-! ## The composer's examination (R29, R38, R39, R57) -/

/-- One credit, if its conditions hold (R29). -/
def Pass.grant (x : Job) (p : Pass) : Pass :=
  if p.wantsCredit x && p.creditRoom x then { p with comp := { p.comp with credits := p.comp.credits + 1 } } else p

/-- Credits one after another until a condition fails; O never exceeds 8 (R29). -/
def Pass.grants (x : Job) (p : Pass) : Pass := (List.range 8).foldl (fun p _ => p.grant x) p

/-- Credits are granted, and the reported conditions follow (R38, R39). -/
def Pass.examine (x : Job) (p : Pass) : Pass :=
  let p := p.grants x
  let b := p.isBlocked x
  { p with comp := { p.comp with
      blocked := b
      prefillReached := p.comp.prefillReached || decide (x.prefillPoint ≤ p.comp.head)
        || (b && decide (p.state = .forming)) } }

/-- The composer examines a pass; ingress newly blocked cuts the stragglers of a RUNNING pass (R57, R58). They are cut and
handed to the fault record in wave order, which is port order; that order is the model's choice (log 52). -/
def State.examine (s : State) (j : JobId) : State :=
  match s.pass j with
  | none => s
  | some p =>
    if !p.live then s
    else
      let q := p.examine (s.job j)
      let s := s.setPass j (some q)
      if q.comp.blocked && !p.comp.blocked && decide (q.state = .running) then
        match q.stragglers (s.job j).lagLimit with
        | [] => s
        | ms => (ms.foldl (fun s m => s.cutMember j m) s).modPass j fun p => p.examine (s.job j)
      else s

/-- R60, R61, R6: a pass that has come to its end, or has lost its wave. -/
def State.endPass (s : State) (j : JobId) : State :=
  match s.pass j with
  | none => s
  | some p =>
    if p.wave.any Member.live then s
    else match p.state with
      | .running =>
        if p.complete (s.job j) then
          (s.modPass j fun p => { p with state := .ended, comp := { p.comp with blocked := false } }).raise (.passEnded j)
        else s.abortPass j .waveEmpty none
      | .forming => if (s.job j).state = .draining then s.abortPass j .waveEmpty none else s
      | .ended | .aborted => s

/-- R54: a WRITING member with no write in flight issues its next segment once its sectors are in the ring. -/
def State.issueWrite (s : State) (j : JobId) (p : PortId) : State :=
  match s.pass j with
  | none => s
  | some x =>
    match x.member p with
    | none => s
    | some m =>
      let seg := m.written / 16
      if m.status = .writing ∧ m.inFlight = none ∧ m.written < (s.job j).length ∧ x.state = .running
          ∧ (16 * (seg + 1) ≤ x.comp.head ∨ x.complete (s.job j)) then
        (s.modPass j fun x => x.mapMember p fun m => { m with inFlight := some seg }).issue p (.writeSegment seg)
      else s

/-- What the composer and the pass controller do for a job at the end of an event (log 2). -/
def State.settleJob (s : State) (j : JobId) : State :=
  let s := (s.endPass j).examine j
  let s := if (s.pass j).any Pass.mayLaunch then (s.launch j).examine j else s
  (numbers 16).foldl (fun s p => s.issueWrite j p) s

/-- R55: a write completion is taken for a member whose segment in flight it is; false says that it finished the disc. -/
def State.writeComplete (s : State) (p : PortId) (seg : Nat) : State :=
  match s.waveOf p with
  | none => s
  | some j =>
    let len := (s.job j).length
    let size := min 16 (len - 16 * seg)
    match s.member p with
    | none => s
    | some m =>
      if m.inFlight ≠ some seg then s
      else
        let s := s.modPass j fun x => x.mapMember p fun m => { m with written := m.written + size, inFlight := none }
        if m.written + size = len then
          ((s.modPass j fun x => x.leave p .finished).gotoPort p .finishing).issue p .synchronise
        else s

/-- R53: the job is RUNNING, has no pass record and has an assigned port in LOADED. -/
def State.waveReady (s : State) (j : JobId) : Bool :=
  decide ((s.job j).state = .running) && (s.pass j).isNone
    && (numbers 16).any fun p => decide (s.assigned p = some j ∧ (s.port p).state = .loaded)

end Sys2Proof.Machine
end

