-- ==== Sys2Proof/Machine/Label.lean ====
section
/-! DEFINITION. The label engine: field contents, composition of a row, the commit, and the ends of a print (chapter 8). -/

namespace Sys2Proof.Machine

/-! ## Field contents (R158) -/

/-- A number's decimal digits, without padding (R158). -/
def decimal (n : Nat) : List Nat :=
  match ((List.range 10).map fun i => n / 10 ^ (9 - i) % 10).dropWhile (· = 0) with
  | [] => [0]
  | ds => ds

/-- Content right-justified in `w` cells; one that needs more cells gives glyph 10 in every cell (R158). -/
def rightJustified (w : Nat) (cs : List (Option Nat)) : List (Option Nat) :=
  if w < cs.length then List.replicate w (some 10) else List.replicate (w - cs.length) none ++ cs

/-- A serial padded on the left to the job's serial width (R158). -/
def paddedSerial (x : Job) (n : Nat) : List (Option Nat) :=
  let ds := decimal n
  List.replicate (x.serialWidth - ds.length) (if x.serialPad = .zero then some 0 else none) ++ ds.map some

/-- The glyph of a printable grade (R158). -/
def gradeGlyph : Option Grade → List (Option Nat)
  | some .pass => [some 12]
  | some .marginal => [some 13]
  | some .unverified => [some 14]
  | some .fail | none => []

/-- R158: the cells of a field for a record. -/
def fieldCells (x : Job) (d : Disc) (f : MergeField) : List (Option Nat) :=
  match f.kind with
  | .serial => rightJustified f.width ((d.serial.map (paddedSerial x)).getD [])
  | .pass => rightJustified f.width ((d.pass.map fun n => (decimal n.toNat).map some).getD [])
  | .tag => rightJustified f.width ((decimal d.tag.toNat).map some)
  | .grade => rightJustified f.width (gradeGlyph d.grade)
  | .text => (f.glyphs.map fun g => some g.toNat) ++ List.replicate (f.width - f.glyphs.length) none

/-- The template has a SERIAL field. -/
def Template.hasSerial (t : Template) : Bool := t.fields.any fun f => decide (f.kind = .serial)

/-! ## Composition (R157, R159) -/

/-- The dot (x, y) lies in the box of a field (R157). -/
def MergeField.covers (f : MergeField) (x y : Nat) : Bool :=
  decide (f.x ≤ x ∧ x < f.x + 16 * f.scale * f.width ∧ f.y ≤ y ∧ y < f.y + 24 * f.scale)

/-- The dot (gx, gy) of glyph `g` is set (R156). -/
def glyphDot (gs : Vector Glyph 16) (g gx gy : Nat) : Bool :=
  ((gs[g]?.bind fun (r : Glyph) => r[gy]?).map fun (w : BitVec 16) => w.getLsbD (15 - gx)).getD false

/-- The dot a field draws at a place its box covers (R157). -/
def MergeField.dot (gs : Vector Glyph 16) (f : MergeField) (cells : List (Option Nat)) (x y : Nat) : Bool :=
  match cells[(x - f.x) / (16 * f.scale)]? with
  | some (some g) => glyphDot gs g ((x - f.x) % (16 * f.scale) / f.scale) ((y - f.y) / f.scale)
  | _ => false

/-- The dot (x, y) of a template's raster (R154). -/
def rasterDot (byte : Nat → Byte) (x y : Nat) : Bool := (byte (128 * y + x / 8)).getLsbD (7 - x % 8)

/-- R159: the annulus mask. -/
def inRing (t : Template) (x y : Nat) : Bool :=
  let dx : Int := x - 512
  let dy : Int := y - 512
  let r := dx * dx + dy * dy
  decide ((t.inner * t.inner : Nat) ≤ r ∧ r ≤ (t.outer * t.outer : Nat))

/-- The dot (x, y) of a composed label: the last field whose box covers it, else the raster; then the mask. -/
def labelDot (byte : Nat → Byte) (gs : Vector Glyph 16) (t : Template) (cells : List (List (Option Nat)))
    (x y : Nat) : Bool :=
  inRing t x y &&
    match (t.fields.zip cells).reverse.find? fun c => c.1.covers x y with
    | some (f, cs) => f.dot gs cs x y
    | none => rasterDot byte x y

/-- Eight dots as a byte, the most significant bit holding the lowest x (R154). -/
def packByte (dot : Nat → Bool) (i : Nat) : Byte :=
  (List.range 8).foldl (fun b k => (b <<< 1) ||| (if dot (8 * i + k) then 1 else 0)) 0

/-- Row `y` of a label, 128 bytes (R154, R159). -/
def labelRow (s : State) (l : Label) (y : Nat) : List Byte :=
  let t := s.template l.template
  (List.range 128).map (packByte fun x => labelDot (s.memory.raster l.template) s.glyphs t l.cells x y)

/-! ## The printer (R161 to R165) -/

/-- The print timer runs 60 s (R160). -/
def printTime : Nat := 60000

/-- R161: a GRADED record has arrived on the platter. -/
def State.loadPrinter (s : State) (tag : Half) : State :=
  (s.modPrinter fun p =>
    { p with state := .loaded, tag := some tag, timerDue := some (s.now + printTime), label := none }).modLines
    fun l => { l with print := some .announce }

/-- R162 step 1: the record takes serial next, which moves on; a wrap raises its cause. -/
def State.commitSerial (s : State) (j : JobId) : State :=
  let x := s.job j
  let n := x.serialNext + x.serialStep
  let wrap := 10 ^ x.serialWidth
  let s := s.modDisc .platter fun d => { d with serial := some x.serialNext, void := false }
  let s := s.modJob j fun x => { x with serialNext := n % wrap }
  if wrap ≤ n then (s.modPrinter fun p => { p with lastWrap := some j }).raise .serialWrap else s

/-- R162: the label is committed. -/
def State.commitLabel (s : State) : State :=
  match s.disc .platter with
  | none => s
  | some d =>
    match d.job.bind fun j => (s.job j).template.map fun t => (j, t) with
    | none => s
    | some (j, t) =>
      let s := if (s.template t).hasSerial then s.commitSerial j else s
      let cells := (s.template t).fields.map (fieldCells (s.job j) ((s.disc .platter).getD d))
      s.modPrinter fun p =>
        { p with
          ribbon := p.ribbon - 1, state := .printing, rows := 0
          timerDue := some (s.now + printTime), label := some ⟨t, cells⟩ }

/-- R162: the printer is ready. -/
def State.proceedLabel (s : State) : State :=
  if s.printer.ribbon = 0 then
    (s.modPrinter fun p => { p with state := .waitRibbon, timerDue := none }).raise .ribbonOut
  else s.commitLabel

/-- R121, R164: a record spoiled at the printer. -/
def Disc.spoil (d : Disc) : Disc := { d.scrap .printFault none with grade := none, void := d.serial.isSome }

/-- The printer enters FAULT, the stream stops (R164). -/
def State.printerFault (s : State) : State :=
  (s.modPrinter fun p => { p with state := .fault, timerDue := none, label := none }).raise .printerFault

/-- The tag of the record on the platter, for its PRINT_UNLOAD (R140). -/
def State.unloadPlatter (s : State) : State :=
  match s.disc .platter with
  | none => s
  | some d => s.createRequest (.printUnload d.tag)

/-- R164: the print is spoiled. -/
def State.spoilPrint (s : State) : State := ((s.modDisc .platter Disc.spoil).printerFault).unloadPlatter

/-- LOADED, WAIT_RIBBON or PRINTING: a label is in progress (R165). -/
def PrinterState.inProgress : PrinterState → Bool
  | .loaded | .waitRibbon | .printing => true
  | .empty | .done | .fault => false

/-- R165: the platter has been emptied by a grip; the record lies at ARM. -/
def State.platterTaken (s : State) : State :=
  let s := match s.printer.state with
    | .done => s.modPrinter fun p => { p with state := .empty, label := none, timerDue := none }
    | .loaded | .waitRibbon | .printing => (s.modDisc .arm Disc.spoil).printerFault
    | .fault | .empty => s
  s.modPrinter fun p => { p with tag := none }

/-- R165: the record at PR is about to be marked LOST; a label in progress voids its serial before the report. That the
record keeps its grade there is the model's choice (log 51). -/
def State.platterLost (s : State) : State :=
  let s := match s.printer.state with
    | .done => s.modPrinter fun p => { p with state := .empty, label := none, timerDue := none }
    | .loaded | .waitRibbon | .printing => (s.modDisc .platter fun d => { d with void := d.serial.isSome }).printerFault
    | .fault | .empty => s
  s.modPrinter fun p => { p with tag := none }

/-- A record in PRINTING belongs to a job that names the template (R156). -/
def State.templateBusy (s : State) (t : TemplateId) : Bool :=
  s.discs.any fun d => decide (d.state = .printing) && d.job.any fun j => decide ((s.job j).template = some t)

/-- A record is in PRINTING (R156). -/
def State.printing (s : State) : Bool := s.discs.any fun d => decide (d.state = .printing)

/-- The platter is free: no record, and its present sensor clear (R139, R166). -/
def State.platterFree (s : State) : Bool := (s.disc .platter).isNone && !s.sensors.platter

end Sys2Proof.Machine
end

