-- ==== Sys2Proof/Machine/Arm.lean ====
section
/-! DEFINITION. Move requests, the arbiter, the phases of a move, homing and the bin sensors (chapter 7). -/

namespace Sys2Proof.Machine

/-! ## Destinations (R139 to R141) -/

/-- The full sensor of an output bin, live (R131). -/
def BinSensors.full (b : BinSensors) : OutBin → Bool
  | .o0 => b.fullO0
  | .o1 => b.fullO1
  | .x => b.fullX

/-- An output bin or X is available (R139). -/
def State.outAvailable (s : State) (b : OutBin) : Bool :=
  !s.sensors.bins.full b && decide (s.notices.reports.length < Config.reportRoom)

/-- A shelf slot is free (R139). -/
def State.shelfFree (s : State) (k : SlotId) : Bool := (s.disc (.shelf k)).isNone && !nth s.sensors.shelf k

/-- PR can take a disc to print: free, and the printer EMPTY (R139, R141). -/
def State.printerFree (s : State) : Bool := s.platterFree && decide (s.printer.state = .empty)

/-- A destination is available (R139, R141). -/
def State.available (s : State) : Station → Bool
  | .bin _ | .tray _ => true
  | .platter => s.printerFree
  | .shelf k => s.shelfFree k
  | .out b => s.outAvailable b

/-- R16: a grade is printable for a job. -/
def State.printable (s : State) (j : JobId) : Option Grade → Bool
  | some .pass | some .unverified => (s.job j).template.isSome
  | some .marginal => (s.job j).template.isSome && (s.profile (s.job j).profile).printMarginal
  | some .fail | none => false

/-- The bin of a graded disc that is not printed (R139). -/
def State.gradeBin (s : State) (j : JobId) : Option Grade → OutBin
  | some .pass | some .unverified => .o0
  | some .marginal => if (s.profile (s.job j).profile).dest = .o1 then .o1 else .x
  | some .fail | none => .x

/-- R139: the destination of an UNLOAD as it would be resolved now. -/
def State.unloadDest (s : State) (d : Disc) : Option Station :=
  match d.state, d.job with
  | .returning, some j => some (.bin (s.job j).bin)
  | .graded, some j =>
    if s.printable j d.grade then
      if s.printerFree then some .platter else ((numbers 4).find? s.shelfFree).map .shelf
    else some (.out (s.gradeBin j d.grade))
  | .scrap, _ | .orphan, _ => some (.out .x)
  | _, _ => none

/-- R140: the destination of a PRINT_UNLOAD. -/
def printUnloadDest (d : Disc) : Station :=
  match d.state, d.grade with
  | .finished, some .marginal => .out .o1
  | .finished, _ => .out .o0
  | _, _ => .out .x

/-- R119: the stations at which a record may arrive by a HOST move. -/
def State.mayArrive (s : State) (d : Disc) : Station → Bool
  | .tray _ => false
  | .shelf _ | .platter => decide (d.state = .graded) && d.job.any fun j => s.printable j d.grade
  | .out .x => true
  | .out .o0 => decide (d.state = .graded ∨ d.state = .finished) &&
      decide (d.grade = some .pass ∨ d.grade = some .unverified)
  | .out .o1 => decide (d.state = .graded ∨ d.state = .finished) && decide (d.grade = some .marginal)
  | .bin i => decide (d.state = .feeding ∨ d.state = .returning) && d.job.any fun j => decide ((s.job j).bin = i)

/-! ## Resolution and eligibility (R138 to R143) -/

/-- The source, destination and tag a request would be granted with now; none while it has no destination. -/
def State.resolve (s : State) : ReqKind → Option (Source × Station × Option Half)
  | .feed p j => some (.bin (s.job j).bin, .tray p, none)
  | .unload p tag => (((s.disc (.tray p)).bind s.unloadDest).map fun d => (.place (.tray p), d, some tag))
  | .printLoad => s.transport.shelfOrder.head?.map fun k =>
      (.place (.shelf k), .platter, (s.disc (.shelf k)).map Disc.tag)
  | .printUnload tag => (s.disc .platter).map fun d => (.place .platter, printUnloadDest d, some tag)
  | .recover src tag => some (.place src, .out .x, some tag)
  | .host src dest tag => some (.place src, dest, some tag)

/-- The conditions of a request's own kind on its ports and bins (R138, R139, R142). -/
def State.kindReady (s : State) : ReqKind → Bool
  | .feed p j => decide ((s.port p).state = .trayOpen ∧ (s.port p).errand = .feed)
      && !nth s.transport.marks (s.job j).bin
  | .unload p _ => decide ((s.port p).state = .trayOpen ∧ (s.port p).errand = .unload)
  | .host (.tray p) _ _ => decide ((s.port p).state = .trayOpen ∨ (s.port p).state = .faulted)
  | .host _ _ _ | .printLoad | .printUnload _ | .recover _ _ => true

/-- A request is eligible (R138 to R142). -/
def State.eligible (s : State) (k : ReqKind) : Bool :=
  match s.resolve k with
  | none => false
  | some (src, dest, _) =>
    s.kindReady k && s.available dest
      && (decide (src = .place .arm) || (s.disc .arm).isNone)
      && (decide (src ≠ .place .arm) || s.sensors.gripPresent)

/-- The classes of R143, highest first. -/
def ReqKind.rank : ReqKind → Nat
  | .host _ _ _ => 0
  | .recover _ _ => 1
  | .printUnload _ => 2
  | .unload _ _ => 3
  | .printLoad => 4
  | .feed _ _ => 5

/-- R143: the request the arbiter would grant now. -/
def State.choice (s : State) : Option Request :=
  let open_ := fun r : Request => s.eligible r.kind && (decide (s.transport.state = .ready) || r.kind.isHost)
  if s.transport.move.isSome || s.transport.pausePending
      || !(decide (s.transport.state = .ready) || decide (s.transport.state = .paused)) then none
  else [0, 1, 2, 3, 4, 5].findSome? fun c => s.transport.queue.find? fun r => decide (r.kind.rank = c) && open_ r

/-! ## Phases (R144 to R147) -/

/-- Phase timeouts in ms (R144). -/
def Phase.timeout : Phase → Nat
  | .toSource | .toDest => 6000
  | .grip | .release => 1500

/-- The station of a source; ARM is none (R131). -/
def Source.station : Source → Option Station
  | .bin i => some (.bin i)
  | .place p => p.station

/-- The move goes on to a phase, and the arm is commanded (R144). -/
def State.enterPhase (s : State) (m : Move) (ph : Phase) : State :=
  let cmd := match ph with
    | .toSource => m.source.station.map ArmCmd.goTo
    | .grip => some .grip
    | .toDest => some (.goTo m.dest)
    | .release => some .release
  (s.modTransport fun t => { t with move := some { m with phase := ph, due := s.now + ph.timeout } }).modLines
    fun l => { l with arm := if cmd.isSome then cmd else l.arm }

/-- The move ends without a fault of transport; a pending pause takes effect (R135). -/
def State.endMove (s : State) : State :=
  s.giveUpReservation.modTransport fun t =>
    { t with
      move := none, pausePending := false
      state := if t.pausePending && decide (t.state = .ready) then .paused else t.state }

/-- Transport enters FAULT and the move ends; its reservation is given up (R146). -/
def State.armFault (s : State) (c : TransportCause) (st : Option Station) : State :=
  (s.giveUpReservation.modTransport fun t =>
    { t with state := .fault, cause := some c, station := st, move := none, pausePending := false }).raise
    (.transportFault st)

/-- R146: the port of a FEED move that failed after its grip is held. -/
def State.holdPort (s : State) (m : Move) : State :=
  match m.req.kind with
  | .feed p _ => s.modTransport fun t => if p ∈ t.held then t else { t with held := t.held ++ [p] }
  | _ => s

/-- The end of a move: in a fault of the arm when it stalled in the phase, else as usual (R146, log 18). -/
def State.closeMove (s : State) (m : Move) (stalled : Bool) (st : Option Station) : State :=
  if stalled then (s.holdPort m).armFault .armStall st else s.endMove

/-- A request goes back to the queue by its arrival order (R137, R144, R145). That a HOST request goes back to a queue that
holds two others, which makes three, is the model's choice (log 54). -/
def State.returnRequest (s : State) (r : Request) : State :=
  s.modTransport fun t => { t with queue := t.requeue r }

/-! ## Feeding (R12, R138) -/

/-- The FEED requests of a job, a granted move counted until its grip (R12). -/
def State.feedCount (s : State) (j : JobId) : Nat :=
  (s.transport.queue.filter fun r => r.kind.isFeedOf j).length
    + (if s.transport.move.any fun m => m.req.kind.isFeedOf j && m.beforeGrip then 1 else 0)

/-- R12: a blank may be fed to a port for a job. -/
def State.mayFeed (s : State) (p : PortId) (j : JobId) : Bool :=
  let x := s.job j
  decide (s.assigned p = some j) && decide (x.state = .running)
    && (decide (x.target = 0)
      || decide ((s.discsOf j).length + x.counters.delivered + s.feedCount j < x.target))

/-- R138: create a FEED request for a port when job control answers yes. -/
def State.createFeed (s : State) (p : PortId) : State :=
  match s.assigned p with
  | none => s
  | some j => if s.mayFeed p j then s.createRequest (.feed p j) else s

/-- R141: a RECOVER request for the record at a place, unless its tag has one. A request that names its tag at another place
is none of its own: it is one of a record lost at this event, whose tag a new ORPHAN may take (R115, R134), and leaves the
queue with that record (R137). -/
def State.createRecover (s : State) (p : Place) : State :=
  match s.disc p with
  | none => s
  | some d =>
    let same := fun k : ReqKind => decide (k = .recover p d.tag)
    if s.queued same || s.granted same then s else s.createRequest (.recover p d.tag)

/-! ## The end of GRIP and of RELEASE -/

/-- R149: the EMPTY mark of a bin. -/
def State.mark (s : State) (i : BinId) (b : Bool) : State := s.modTransport fun t => { t with marks := upd t.marks i b }

/-- R145: a FEED move's grip at its input bin. -/
def State.gripAtBin (s : State) (m : Move) (i : BinId) (p : PortId) (j : JobId) (stalled : Bool) : State :=
  if s.sensors.gripPresent then
    if s.sensors.gripDouble then
      let s := (s.pick p j true).closeMove m stalled (some (.bin i))
      (if (s.port p).state = .trayOpen ∧ (s.port p).errand = .feed then s.createFeed p else s).createRecover .arm
    else
      let s := s.pick p j false
      if stalled then s.closeMove m true (some (.bin i)) else s.enterPhase m .toDest
  else
    (((s.mark i true).raise (.binEmpty i)).closeMove m stalled (some (.bin i))).returnRequest m.req

/-- R144, R146: a grip at a place. -/
def State.gripAtPlace (s : State) (m : Move) (p : Place) (stalled : Bool) : State :=
  if s.sensors.gripPresent then
    let s := s.liftDisc p m.dest
    let s := match p with
      | .tray n => s.trayServed n
      | .platter => s.platterTaken
      | .arm | .shelf _ => s
    if stalled then s.closeMove m true p.station else s.enterPhase m .toDest
  else
    let s := s.giveUpReservation
    let s := if p = .platter then s.platterLost else s
    let s := s.lose p .discMissing false
    let s := match p with
      | .tray n => s.trayServed n
      | .arm | .platter | .shelf _ => s
    s.closeMove m stalled p.station

/-- The end of GRIP: the sensors decide (R144). -/
def State.judgeGrip (s : State) (m : Move) (stalled : Bool) : State :=
  match m.source, m.req.kind with
  | .bin i, .feed p j => s.gripAtBin m i p j stalled
  | .place p, _ => s.gripAtPlace m p stalled
  | .bin _, _ => s

/-- R119: the record at ARM arrives at the move's destination. -/
def State.land (s : State) (m : Move) : State :=
  match m.dest with
  | .out b => s.deliver b
  | .bin _ => s.returnDisc
  | .tray n => s.arrive (.tray n)
  | .shelf k => s.arrive (.shelf k)
  | .platter =>
    let s := s.arrive .platter
    match s.disc .platter with
    | some d => if d.state = .printing then s.loadPrinter d.tag else s
    | none => s

/-- The end of RELEASE: the sensors decide (R144, R146). -/
def State.judgeRelease (s : State) (m : Move) (stalled : Bool) : State :=
  if s.sensors.gripPresent then
    if stalled then s.closeMove m true (some m.dest) else (s.holdPort m).armFault .releaseFail (some m.dest)
  else
    let s := s.land m
    if stalled then s.closeMove m true (some m.dest)
    else
      let s := s.endMove
      match m.dest with
      | .tray n => s.trayServed n
      | _ => s

/-- R144, R146: a stall. -/
def State.stall (s : State) (m : Move) : State :=
  match m.phase with
  | .toSource => (s.armFault .armStall m.source.station).returnRequest m.req
  | .grip => s.judgeGrip m true
  | .toDest => s.closeMove m true (some m.dest)
  | .release => s.judgeRelease m true

/-- R146: the drop of the carried disc. -/
def State.drop (s : State) (m : Move) : State :=
  ((s.lose .arm .dropped m.reserved).holdPort m).armFault .dropped (some m.dest)

/-! ## The arbiter (R143) -/

/-- R143: a request is granted. A move whose source is ARM begins at GRIP, which ends at once (R144). -/
def State.grantRequest (s : State) (r : Request) : State :=
  match s.resolve r.kind with
  | none => s
  | some (src, dest, tag) =>
    let reserved := match dest with
      | .out _ => true
      | _ => false
    let m : Move := ⟨r, src, dest, tag, .toSource, reserved, s.now⟩
    let s := s.modTransport fun t => { t with queue := t.queue.filter fun q => decide (q ≠ r) }
    let s := if reserved then s.modNotices fun n => { n with reserved := true } else s
    if src = .place .arm then s.judgeGrip { m with phase := .grip } false else s.enterPhase m .toSource

def State.arbitrate (s : State) : State :=
  match s.choice with
  | none => s
  | some r => s.grantRequest r

/-! ## What stands in the queue (R137 to R142) -/

/-- A request's reason to stand still holds; a FEED request that returns for a port in FAULTED goes at once (log 44). That an
UNLOAD request that returns for such a port stays in the queue is the model's choice (log 61). -/
def State.keeps (s : State) : ReqKind → Bool
  | .feed p j =>
    decide ((s.job j).state = .running) && decide (s.assigned p = some j)
      && match (s.port p).state with
        | .idle | .standby | .opening | .trayOpen => true
        | _ => false
  | .unload p tag => decide ((s.disc (.tray p)).map Disc.tag = some tag)
  | .printLoad => !s.transport.shelfOrder.isEmpty
  | .printUnload tag => (s.disc .platter).any fun d => decide (d.tag = tag ∧ (d.state = .finished ∨ d.state = .scrap))
  | .recover p tag => (s.disc p).any fun d => decide (d.tag = tag ∧ (p = .arm ∨ d.state = .orphan))
  | .host p dest tag => (s.disc p).any fun d => decide (d.tag = tag) && s.mayArrive d dest

/-- Requests whose reason has gone are removed; ports held that have left OPEN leave the set (R137, R146, log 19). -/
def State.pruneRequests (s : State) : State :=
  (s.removeRequests fun k => !s.keeps k).modTransport fun t =>
    { t with held := t.held.filter fun p => decide ((s.port p).state = .trayOpen) }

/-- A port has a FEED or UNLOAD request queued or in progress (R138). -/
def State.hasRequest (s : State) (p : PortId) : Bool := s.queued (ReqKind.ofPort p) || s.granted (ReqKind.ofPort p)

/-- R137, R139: an UNLOAD request for a port in DONE that has none in the queue. A move of the port that is still on its
way to its destination is no hindrance. -/
def State.createUnload (s : State) (p : PortId) : State :=
  if (s.port p).state = .done ∧ !s.queued (ReqKind.ofPort p) then
    match s.disc (.tray p) with
    | some d => s.createRequest (.unload p d.tag)
    | none => s
  else s

/-- R138: a FEED request for a port in IDLE or STANDBY. -/
def State.feedPort (s : State) (p : PortId) : State :=
  if ((s.port p).state = .idle ∨ (s.port p).state = .standby) ∧ !s.hasRequest p then s.createFeed p else s

/-- R140: a PRINT_LOAD request while a shelf slot holds a GRADED record. -/
def State.createPrintLoad (s : State) : State :=
  let same := fun k : ReqKind => decide (k = .printLoad)
  if s.transport.shelfOrder.isEmpty || s.queued same || s.granted same then s else s.createRequest .printLoad

/-- What a port does for the requests that stand for it (R77 to R81). That a port held keeps its tray open until transport
leaves FAULT, also where a FEED request queued for it is removed meanwhile, is the model's choice (log 59). -/
def State.servePort (s : State) (p : PortId) : State :=
  let q := s.port p
  let feed := s.queued (ReqKind.isFeedFor p)
  if q.busy then s
  else match q.state with
    | .idle => if feed then s.goOpening p .feed else s
    | .standby => if feed then s.issue p .wake else s
    | .done => if s.queued (ReqKind.isUnloadFor p) then s.goOpening p .unload else s
    | .trayOpen =>
      if q.errand = .feed ∧ !feed ∧ !s.granted (ReqKind.isFeedFor p) ∧ p ∉ s.transport.held then s.goClosing p else s
    | _ => s

/-- Requests, ports and the arbiter at the end of an event (log 2). -/
def State.settleTransport (s : State) : State :=
  let s := s.pruneRequests
  let s := (numbers 16).foldl State.createUnload s
  let s := (numbers 16).foldl State.feedPort s
  let s := s.createPrintLoad
  let s := (numbers 16).foldl State.servePort s
  s.arbitrate

/-! ## Homing, the arm reading and the gripper (R133 to R136, R141) -/

/-- R134: a shelf slot or the platter in the inventory. -/
def State.inventoryPlace (s : State) (p : Place) (present : Bool) : State :=
  match s.disc p with
  | none => if present then (s.createOrphan p).createRecover p else s
  | some d =>
    if present then if d.state = .orphan then s.createRecover p else s
    else (if p = .platter then s.platterLost else s).lose p .discMissing false

/-- R134, R136: the ARM row. -/
def State.readGripper (s : State) : State :=
  match s.disc .arm, s.sensors.gripPresent with
  | none, true => (s.createOrphan .arm).createRecover .arm
  | none, false => s
  | some _, true => s.createRecover .arm
  | some _, false => s.lose .arm .discMissing false

/-- R134: the inventory at the end of homing. -/
def State.inventory (s : State) : State :=
  let s := (numbers 4).foldl (fun s k => s.inventoryPlace (.shelf k) (nth s.sensors.shelf k)) s
  let s := s.inventoryPlace .platter s.sensors.platter
  let s := s.readGripper
  s.modTransport fun t => { t with marks := s.sensors.bins.empty }

/-- R133: the arm has arrived home. -/
def State.homed (s : State) : State :=
  (s.inventory.modTransport fun t => { t with state := .ready, homingDue := none, held := [] }).raise .homed

/-- R133: homing has failed. -/
def State.homingFailed (s : State) : State :=
  (s.modTransport fun t => { t with homingDue := none }).armFault .armStall none

/-- R141: a change of the gripper present sensor while no move is in progress. -/
def State.gripperIdle (s : State) (present : Bool) : State :=
  match s.transport.state with
  | .unhomed | .homing => s
  | .ready | .paused | .fault =>
    match s.disc .arm, present with
    | some _, false =>
      let t := s.lose .arm .dropped false
      if s.transport.state = .fault then t else t.armFault .dropped none
    | none, true => (s.createOrphan .arm).createRecover .arm
    | _, _ => s

/-! ## Bin sensors (R148, R149) -/

/-- The seven bin sensors. -/
inductive BinSensor where
  | input (i : BinId)
  | full (b : OutBin)
  deriving DecidableEq, Repr

def BinSensors.get (b : BinSensors) : BinSensor → Bool
  | .input i => nth b.empty i
  | .full o => b.full o

def BinSensors.set (b : BinSensors) (k : BinSensor) (v : Bool) : BinSensors :=
  match k with
  | .input i => { b with empty := upd b.empty i v }
  | .full .o0 => { b with fullO0 := v }
  | .full .o1 => { b with fullO1 := v }
  | .full .x => { b with fullX := v }

/-- The cause of a state of a sensor (R148). -/
def BinSensor.notice (k : BinSensor) (v : Bool) : Notice :=
  match k, v with
  | .input i, true => .binEmpty i
  | .input i, false => .binRefilled i
  | .full b, true => .outputFull b
  | .full b, false => .outputCleared b

/-- R148: neither cause of the sensor is pending. -/
def State.quiet (s : State) (k : BinSensor) : Bool := !s.pendingPair (k.notice true) && !s.pendingPair (k.notice false)

/-- R148: a quiet sensor whose live state differs from its latch raises the cause of the live state and latches it. -/
def State.compareSensor (s : State) (k : BinSensor) : State :=
  let v := s.sensors.bins.get k
  if s.quiet k && decide (v ≠ s.transport.latched.get k) then
    (s.modTransport fun t => { t with latched := t.latched.set k v }).raise (k.notice v)
  else s

/-- R148, R149: the live state of a sensor changes. -/
def State.sensorChanges (s : State) (k : BinSensor) (v : Bool) : State :=
  if s.sensors.bins.get k = v then s
  else
    let s := s.modSensors fun x => { x with bins := x.bins.set k v }
    let s := match k with
      | .input i => s.mark i v
      | .full _ => s
    s.compareSensor k

/-- Every bin sensor, in station order. -/
def binSensors : List BinSensor := (numbers 4).map .input ++ [.full .o0, .full .o1, .full .x]

/-- R132: at the release of reset each bin sensor that differs from its latch is treated as a change, also by R149's mark
(log 45). -/
def State.sensorsAtRelease (s : State) : State :=
  binSensors.foldl (fun s k =>
    if s.sensors.bins.get k ≠ s.transport.latched.get k then
      (match k with
        | .input i => s.mark i (s.sensors.bins.get k)
        | .full _ => s).compareSensor k
    else s) s

end Sys2Proof.Machine
end

