-- ==== Sys2Proof/Machine/Settle.lean ====
section
/-! DEFINITION. What every block does at the end of an event, and how a command frame is taken and answered (log 2,
R181 to R187). -/

namespace Sys2Proof.Machine

/-! ## The end of an event -/

/-- R7, R9: nothing of the job is left in the tower. -/
def State.jobEmpty (s : State) (j : JobId) : Bool :=
  (s.discsOf j).isEmpty && (s.pass j).isNone
    && !s.transport.move.any fun m => m.req.kind.isFeedOf j && m.beforeGrip

/-- R7, R9: a DRAINING or HALTING job with nothing left goes to OPEN. -/
def State.completeJob (s : State) (j : JobId) : State :=
  if s.jobEmpty j then
    match (s.job j).state with
    | .draining => (s.modJob j fun x => { x with state := .opened }).raise (.jobComplete j)
    | .halting => (s.modJob j fun x => { x with state := .opened }).raise (.jobHalted j)
    | .closed | .opened | .running => s
  else s

/-- R53: WAVE_READY is raised at the event after which its condition holds and before which it did not. -/
def State.raiseWaveReady (s0 s : State) (j : JobId) : State :=
  if s.waveReady j && !s0.waveReady j then s.raise (.waveReady j) else s

/-- What the blocks do at the event that led from `s0` to `s` (log 2). -/
def State.settle (s0 s : State) : State :=
  let s := (numbers 4).foldl State.settleJob s
  let s := s.settleTransport
  let s := (numbers 4).foldl State.completeJob s
  let s := (numbers 4).foldl (State.raiseWaveReady s0) s
  State.outbound s0 s

/-- An event of the part: its own effect, then what follows at the same event. Held in reset nothing happens (log 4). -/
def State.event (f : State → State) (s : State) : State := if s.resetHeld then s else State.settle s (f s)

/-- An event that can occur only while `c` holds; otherwise the row leaves the state unchanged (log 3). -/
def State.eventIf (c : Bool) (f : State → State) (s : State) : State := if c then s.event f else s

/-- A row that only counts or latches: no other block acts at it. Held in reset nothing happens (log 4). -/
def State.quietIf (c : Bool) (f : State → State) (s : State) : State := if s.resetHeld || !c then s else f s

/-! ## The receiver (R182 to R185) -/

/-- R184: the receiver enters SYNCED. -/
def State.enterSynced (s : State) : State :=
  let first := s.link.firstSync
  let s := s.modLink fun l => { l with receiver := .synced, consecBad := 0, firstSync := false }
  let s := if first then s.raise (.resetDone .pin) else s
  let s := s.modNotices Notices.clearOutstanding
  (numbers 4).foldl (fun s j => if (s.pass j).any Pass.live then s.requestCredit j else s) s

/-- R182: a good frame judged in HUNT. -/
def State.huntGood (s : State) : State :=
  let s1 := s.modLink fun l => { l with good := satInc max32 l.good, run := l.run + 1 }
  State.outbound s (if s1.link.run < 2 then s1 else s1.enterSynced)

/-- R183, R185: a good frame judged in SYNCED. -/
def State.countGood (s : State) : State := s.modLink fun l => { l with good := satInc max32 l.good, consecBad := 0 }

/-- A good frame arrives: nothing hears it in reset or between PART RESET and its reset, HUNT counts it, SYNCED
dispatches it (R182, R185, R189). -/
def State.hear (dispatch : State → State) (s : State) : State :=
  if s.resetHeld || decide (s.link.stage ≠ .none) then s
  else match s.link.receiver with
    | .hunt => s.huntGood
    | .synced => dispatch s.countGood

/-! ## Commands (R185, R186) -/

/-- The answer of a command that returns no data. -/
def answerTo (h : CmdHdr) (r : Result) : AnswerEntry := ⟨h.tag, r, [], false⟩

/-- An answer enters the outbound queue (R185). -/
def State.answer (s : State) (a : AnswerEntry) : State := s.modLink fun l => { l with queue := l.queue ++ [.answer a] }

/-- OK: the command was taken (R186). -/
def Result.isOk : Result → Bool
  | .ok _ => true
  | .busy | .state | .invalid _ | .noSpace | .unknown => false

/-- What follows a command at its event: every block's work, or only the link's where the command touches a table. -/
inductive After where
  | settle
  | post
  deriving DecidableEq, Repr

/-- The command taker: no room drops the command, a wrong length refuses it with index 255, else it is performed and
answered at the same event (R185, R186); at a refusal no block acts (R22). -/
def State.take (h : CmdHdr) (required : Nat) (after : After) (perform : State → State × AnswerEntry) (s : State) : State :=
  if Config.answerRoom ≤ s.link.unsent then s.modLink fun l => { l with dropped := satInc max32 l.dropped }
  else if h.len ≠ required then State.outbound s (s.answer (answerTo h (.invalid 255)))
  else
    let t := (perform s).1.answer (perform s).2
    match after, (perform s).2.result.isOk with
    | .settle, true => State.settle s t
    | .settle, false | .post, _ => State.outbound s t

/-- A command frame arrives. -/
def State.command (h : CmdHdr) (required : Nat) (after : After) (perform : State → State × Result) (s : State) : State :=
  s.hear (State.take h required after fun s => ((perform s).1, answerTo h (perform s).2))

/-- A refusal changes nothing (R22, R186). -/
def State.refuse (s : State) (r : Result) : State × Result := (s, r)

/-- A command is taken. -/
def State.accept (s : State) : State × Result := (s, .ok 0)

end Sys2Proof.Machine
end

