-- ==== Sys2Proof/Machine/ArmEvents.lean ====
section
/-! DEFINITION. The arm's reports and the timeouts of homing and of the phases of a move (R133, R144 to R147). -/

namespace Sys2Proof.Machine

/-- The move in progress is in one of these phases. -/
def State.inPhase (s : State) (ph : Phase) : Bool := s.transport.move.any fun m => decide (m.phase = ph)

/-- Transport is homing. -/
def State.homing (s : State) : Bool := decide (s.transport.state = .homing)

/-- What an event does to the move in progress. -/
def State.onMove (s : State) (f : Move → State → State) : State :=
  match s.transport.move with
  | none => s
  | some m => f m s

/-- The clock reaches the phase's due time (R144, log 1). -/
def State.untilMove (s : State) : State := s.until (s.transport.move.map Move.due)

/-- R144: the arm has arrived; a move goes on to GRIP or RELEASE. -/
def State.arrived (s : State) : State :=
  s.onMove fun m s =>
    match m.phase with
    | .toSource => s.enterPhase m .grip
    | .toDest => s.enterPhase m .release
    | .grip | .release => s

/-- ARM_ARRIVED; an arrival report after a drop is ignored (R146). -/
def execArmArrived (s : State) : Host.Outcome State Fault Refusal :=
  .next (s.eventIf (s.homing || s.inPhase .toSource || s.inPhase .toDest) fun s =>
    if s.homing then s.homed else s.arrived)

/-- ARM_STALLED: in any phase, and during homing (R133, R144, R146). -/
def execArmStalled (s : State) : Host.Outcome State Fault Refusal :=
  .next (s.eventIf (s.homing || s.transport.move.isSome) fun s =>
    if s.homing then s.homingFailed else s.onMove fun m s => s.stall m)

/-- TRAVEL_TIMEOUT: taken as a stall (R144). -/
def execTravelTimeout (s : State) : Host.Outcome State Fault Refusal :=
  .next (s.eventIf (s.inPhase .toSource || s.inPhase .toDest) fun s => s.untilMove.onMove fun m s => s.stall m)

/-- HOMING_TIMEOUT (R133). -/
def execHomingTimeout (s : State) : Host.Outcome State Fault Refusal :=
  .next (s.eventIf s.homing fun s => (s.until s.transport.homingDue).homingFailed)

/-- GRIP_DONE: the sensors decide (R144, R145). -/
def execGripDone (s : State) : Host.Outcome State Fault Refusal :=
  .next (s.eventIf (s.inPhase .grip) fun s => s.onMove fun m s => s.judgeGrip m false)

/-- GRIP_TIMEOUT: the phase ends as at its done report (R144). -/
def execGripTimeout (s : State) : Host.Outcome State Fault Refusal :=
  .next (s.eventIf (s.inPhase .grip) fun s => s.untilMove.onMove fun m s => s.judgeGrip m false)

/-- RELEASE_DONE (R144, R146). -/
def execReleaseDone (s : State) : Host.Outcome State Fault Refusal :=
  .next (s.eventIf (s.inPhase .release) fun s => s.onMove fun m s => s.judgeRelease m false)

/-- RELEASE_TIMEOUT (R144, R146). -/
def execReleaseTimeout (s : State) : Host.Outcome State Fault Refusal :=
  .next (s.eventIf (s.inPhase .release) fun s => s.untilMove.onMove fun m s => s.judgeRelease m false)

end Sys2Proof.Machine
end

