-- ==== Sys2Proof/Machine/DriveEvents.lean ====
section
/-! DEFINITION. What a drive's answers, data phases and link do to its port (chapter 4, R98 to R101). -/

namespace Sys2Proof.Machine

/-! ## Outcomes -/

/-- GOOD, and RECOVERED, which every class but READ takes as GOOD (R70). -/
def Outcome.isGood : Outcome → Bool
  | .answer .good | .answer (.recovered _) => true
  | _ => false

/-- NO_DISC is taken as GOOD by a tray command (R82). -/
def Outcome.isTrayGood (o : Outcome) : Bool := o.isGood || decide (o = .answer .noDisc)

def Outcome.isHardware (o : Outcome) : Bool := decide (o = .answer .hardware)

/-- R71: a failing command of a class the port retries is issued again below the limit; beyond it `otherwise` decides. -/
def State.retry (s : State) (p : PortId) (c : DriveCmd) (r : Nat) (otherwise : State → State) : State :=
  if r < s.timing.retry then s.modPort p (Port.issue s.now s.timing c (r + 1)) else otherwise s

/-- R76: ONLINE, when the port came to its identify from OFFLINE or FAULTED. -/
def State.online (s : State) (p : PortId) : State :=
  if (s.port p).announce then (s.modPort p fun q => { q with announce := false }).raise (.portOnline p) else s

/-- R88, R110: the drive takes a verify out of the engine's hands. -/
def State.loseVerify (s : State) (p : PortId) : State := (s.failBurn p .driveFault none).goFaulted p

/-! ## Identify (R75, R88, R89) -/

def State.probed (s : State) (p : PortId) (info : IdentifyInfo) : State :=
  let s := s.online p
  if info.disc then (s.createOrphan (.tray p)).goDone p
  else if info.trayOpen then s.issue p .closeTray
  else s.goIdle p

def State.identifyResult (p : PortId) (c : DriveCmd) (r : Nat) (o : Outcome) (info : IdentifyInfo) (s : State) : State :=
  let good := o.isGood && info.optical
  match (s.port p).state with
  | .probe =>
    if good then s.probed p info
    else if o.isHardware then s.goFaulted p
    else s.retry p c r fun s => s.goFaulted p
  | .checking =>
    if good then ((s.online p).modPort p fun q => { q with step := .trayClose }).issue p .closeTray
    else if o.isHardware ∨ o.isGood then s.goFaulted p
    else s.retry p c r fun s => s.goFaulted p
  | .verifying =>
    if good then (s.online p).readReported p .timeout
    else if o.isHardware then s.loseVerify p
    else s.retry p c r fun s => s.loseVerify p
  | _ => s

/-! ## Tray, sleep and wake (R77 to R82, R89) -/

/-- R89: the end of recovery. -/
def State.endRecovery (s : State) (p : PortId) : State :=
  match s.disc (.tray p) with
  | none => s.goIdle p
  | some d => if d.state = .feeding ∨ d.state = .loaded then s.goChecking p else s.goDone p

/-- A tray close that has succeeded, by the state of the port (R75, R79 to R81, R89). The record at the tray decides in
CLOSING, also for a port held after a FEED that stalled in RELEASE with its blank placed: it goes to CHECKING, where R146 tells
the port that no disc was placed. That is the model's choice (log 18). -/
def State.trayClosed (s : State) (p : PortId) : State :=
  match (s.port p).state with
  | .closing => if (s.disc (.tray p)).isSome then s.goChecking p else s.goIdle p
  | .checking => s.endRecovery p
  | .probe => s.goIdle p
  | _ => s

/-- A tray open that has succeeded (R79, R81). -/
def State.trayOpened (s : State) (p : PortId) : State :=
  if (s.port p).errand = .feed ∧ !s.queued (ReqKind.isFeedFor p) then s.goClosing p else s.gotoPort p .trayOpen

def State.trayResult (p : PortId) (c : DriveCmd) (r : Nat) (o : Outcome) (s : State) : State :=
  if o.isTrayGood then (if c = .openTray then s.trayOpened p else s.trayClosed p)
  else if o.isHardware then s.goFaulted p
  else s.retry p c r fun s => s.goFaulted p

/-- R77: a sleep that succeeds ends in STANDBY, whatever interval has been loaded since (log 47). -/
def State.sleepResult (p : PortId) (o : Outcome) (s : State) : State :=
  if o.isGood then s.gotoPort p .standby
  else if o.isHardware then s.goFaulted p
  else s.modPort p fun q => { q with idleSince := s.now }

def State.wakeResult (p : PortId) (o : Outcome) (s : State) : State :=
  if o.isGood then (if s.queued (ReqKind.isFeedFor p) then s.goOpening p .feed else s.goIdle p)
  else if o.isHardware then s.goFaulted p
  else (s.removeRequests (ReqKind.isFeedFor p)).goProbe p

/-! ## The media check (R83) -/

/-- A blank that has checked GOOD (R11, R83). -/
def State.blankGood (s : State) (p : PortId) : State :=
  match (s.disc (.tray p)).bind Disc.job with
  | none => s
  | some j => if (s.job j).state = .running then s.enterLoaded p j else s.giveUpBlank p

/-- A blank scrapped by its check: no fault of the job (R83, R93). -/
def State.blankScrap (s : State) (p : PortId) (c : FaultCause) : State :=
  (s.modDisc (.tray p) fun d => d.scrap c none).goDone p

def State.mediaResult (p : PortId) (c : DriveCmd) (r : Nat) (o : Outcome) (s : State) : State :=
  match o with
  | .answer .good | .answer (.recovered _) => s.blankGood p
  | .answer .notBlank => s.blankScrap p .notBlank
  | .answer .tooSmall => s.blankScrap p .tooSmall
  | .answer .noDisc => (s.lose (.tray p) .noDisc false).goIdle p
  | .answer .hardware => s.goFaulted p
  | .answer (.mediaError _) | .answer .aborted | .answer .notReady | .timeout =>
    s.retry p c r fun s => s.blankScrap p .checkError

/-! ## Writing and finishing (R85 to R87) -/

def State.writeResult (p : PortId) (seg : Nat) (o : Outcome) (s : State) : State :=
  match o with
  | .answer .good | .answer (.recovered _) => s.writeComplete p seg
  | .answer (.mediaError l) => (s.failBurn p .writeError (some (l.getD (16 * seg)))).goDone p
  | .answer .noDisc | .answer .notBlank | .answer .tooSmall | .answer .aborted | .answer .notReady =>
    (s.failBurn p .writeError (some (16 * seg))).goDone p
  | .answer .hardware => (s.failBurn p .driveFault (some (16 * seg))).goFaulted p
  | .timeout => (s.failBurn p .writeTimeout (s.burnLba p)).goRecovery p

/-- R87: a failure of synchronise or finalise. -/
def State.finishFails (s : State) (p : PortId) (o : Outcome) : State :=
  match o with
  | .answer (.mediaError l) => (s.failBurn p .finishError l).goDone p
  | .answer .hardware => (s.failBurn p .driveFault none).goFaulted p
  | .timeout => (s.failBurn p .finishError none).goRecovery p
  | .answer _ => (s.failBurn p .finishError none).goDone p

def State.syncResult (p : PortId) (o : Outcome) (s : State) : State :=
  if o.isGood then s.issue p .finalise else s.finishFails p o

/-- R87, R96: the disc is finalised. -/
def State.finalised (s : State) (p : PortId) : State :=
  let mode := (((s.disc (.tray p)).bind Disc.job).map fun j => (s.profile (s.job j).profile).mode).getD .none
  if mode = .none then (s.modDisc (.tray p) fun d => { d with state := .graded, grade := some .unverified }).goDone p
  else ((s.modDisc (.tray p) fun d => { d with state := .verifying }).gotoPort p .verifying).startVerify p

def State.finaliseResult (p : PortId) (o : Outcome) (s : State) : State :=
  if o.isGood then s.finalised p else s.finishFails p o

/-! ## Reads (R88) -/

def State.readResult (p : PortId) (o : Outcome) (s : State) : State :=
  match o with
  | .answer .good | .answer (.recovered _) | .answer (.mediaError _) => s.readReported p o
  | .answer .noDisc | .answer .notBlank | .answer .tooSmall | .answer .aborted | .answer .notReady =>
    s.readReported p (.answer (.mediaError none))
  | .answer .hardware => s.loseVerify p
  | .timeout => s.issue p .identify

/-! ## Taking an outcome -/

/-- What an outcome of a command does; the command is no longer in flight. -/
def State.result (p : PortId) (c : DriveCmd) (r : Nat) (o : Outcome) (info : IdentifyInfo) (s : State) : State :=
  match c with
  | .identify => s.identifyResult p c r o info
  | .openTray | .closeTray => s.trayResult p c r o
  | .sleep => s.sleepResult p o
  | .wake => s.wakeResult p o
  | .mediaCheck _ => s.mediaResult p c r o
  | .writeSegment seg => s.writeResult p seg o
  | .synchronise => s.syncResult p o
  | .finalise => s.finaliseResult p o
  | .readBlock _ _ => s.readResult p o

/-- An answer to a command that waited for the link shows that the link is up (R74, log 5). -/
def State.carried (s : State) (p : PortId) (k : CmdClass) : State :=
  if (s.port p).afterReset.map DriveCmd.cls = some k then s.modPort p (Port.linkBack s.now s.timing) else s

/-- The command that an answer row answers, sleep being told from the tray's commands (R70). -/
def Port.answers (q : Port) (k : CmdClass) (sleep : Bool) : Option DriveCmd :=
  q.cmd.filter fun c => decide (c.cls = k) && (decide (c = .sleep) == sleep)

/-- An answer to an ended command clears it (R72); NOT_READY waits (R71); any other outcome is taken. -/
def State.answered (s : State) (p : PortId) (c : DriveCmd) (a : Answer) (info : IdentifyInfo) : State :=
  let q := s.port p
  if q.ending then s.modPort p Port.clearCmd
  else
    let s := s.takeOutcome p c.cls (.answer a)
    if a = .notReady then s.modPort p (Port.waitReady s.now c.cls)
    else (s.modPort p Port.clearCmd).result p c q.retries (.answer a) info

/-- An answer row: it can occur only while the drive owes the answer (log 3). -/
def State.driveAnswer (p : PortId) (k : CmdClass) (sleep : Bool) (a : Answer) (info : IdentifyInfo) (s : State) : State :=
  let t := s.carried p k
  match (t.port p).answers k sleep with
  | none => s
  | some c => if (t.port p).reissueAt.isSome then s else s.event fun _ => t.answered p c a info

/-- TIMEOUT is taken as the command's outcome, after a link reset (R70, R71). -/
def State.timedOut (s : State) (p : PortId) : State :=
  let q := s.port p
  match q.cmd with
  | none => s
  | some c =>
    ((s.takeOutcome p c.cls .timeout).modPort p Port.linkReset).result p c q.retries .timeout ⟨false, false, false⟩

/-! ## The rows -/

/-- Rows other than IDENTIFY_ANSWER carry no identify report. -/
def noInfo : IdentifyInfo := ⟨false, false, false⟩

def execIdentifyAnswer (port : PortId) (answer : Answer) (info : IdentifyInfo) (s : State) :
    Host.Outcome State Fault Refusal :=
  .next (s.driveAnswer port .probe false answer info)

def execTrayAnswer (port : PortId) (answer : Answer) (s : State) : Host.Outcome State Fault Refusal :=
  .next (s.driveAnswer port .tray false answer noInfo)

def execSleepAnswer (port : PortId) (answer : Answer) (s : State) : Host.Outcome State Fault Refusal :=
  .next (s.driveAnswer port .tray true answer noInfo)

def execWakeAnswer (port : PortId) (answer : Answer) (s : State) : Host.Outcome State Fault Refusal :=
  .next (s.driveAnswer port .wake false answer noInfo)

def execMediaCheckAnswer (port : PortId) (answer : Answer) (s : State) : Host.Outcome State Fault Refusal :=
  .next (s.driveAnswer port .check false answer noInfo)

def execWriteAnswer (port : PortId) (answer : Answer) (s : State) : Host.Outcome State Fault Refusal :=
  .next (s.driveAnswer port .write false answer noInfo)

def execSyncAnswer (port : PortId) (answer : Answer) (s : State) : Host.Outcome State Fault Refusal :=
  .next (s.driveAnswer port .sync false answer noInfo)

def execFinaliseAnswer (port : PortId) (answer : Answer) (s : State) : Host.Outcome State Fault Refusal :=
  .next (s.driveAnswer port .close false answer noInfo)

def execReadAnswer (port : PortId) (answer : Answer) (s : State) : Host.Outcome State Fault Refusal :=
  .next (s.driveAnswer port .read false answer noInfo)

/-- ENDED_COMMAND_ANSWER: whatever it is, it clears the command and Ending (R72). -/
def execEndedCommandAnswer (port : PortId) (_answer : Answer) (s : State) : Host.Outcome State Fault Refusal :=
  .next (s.eventIf (s.port port).ending fun s => s.modPort port Port.clearCmd)

/-- The data phase of a command can move: not ended, not paused, not waiting (R72, R73). -/
def Port.moving (q : Port) : Bool := !q.ending && !q.paused && q.reissueAt.isNone

/-- READ_SECTOR: a sector of a read is counted and handed to the verify engine (R88, R98); the port counts also one beyond
the requested count, up to 256 (log 43). -/
def State.readSector (s : State) (p : PortId) (data : Sector) : State :=
  (s.modPort p fun q => { q with transferred := min 256 (q.transferred + 1) }).setVerify p
    ((s.verify p).map fun v => v.feed data)

def execReadSector (port : PortId) (data : Sector) (s : State) : Host.Outcome State Fault Refusal :=
  .next (s.quietIf ((s.port port).moving && decide ((s.port port).cmd.map DriveCmd.cls = some .read)) fun s =>
    s.readSector port data)

/-- The sectors of a segment (R54). -/
def segmentSize (len seg : Nat) : Nat := min 16 (len - 16 * seg)

/-- WRITE_SECTOR_TRANSFERRED: the next sector of the segment goes from its ring slot to the drive (R26, R85). -/
def State.writeSector (s : State) (p : PortId) : State :=
  match (s.port p).cmd, s.waveOf p with
  | some (.writeSegment seg), some j =>
    let q := s.port p
    let lba := 16 * seg + q.transferred
    if q.transferred < segmentSize (s.job j).length seg then
      (s.modPort p fun q => { q with transferred := q.transferred + 1 }).modLines fun l =>
        { l with drive := upd l.drive p (some (lba, s.memory.sector j (lba % (16 * (s.job j).ring)))) }
    else s
  | _, _ => s

def execWriteSectorTransferred (port : PortId) (s : State) : Host.Outcome State Fault Refusal :=
  .next (s.quietIf (s.port port).moving fun s => s.writeSector port)

/-! ## The link (R74) -/

/-- R74. -/
def State.linkUp (s : State) (p : PortId) : State :=
  let q := s.port p
  let s := s.modPort p (Port.linkBack s.now s.timing)
  if q.state = .offline then s.goProbe p else s

/-- LINK_UP: with the service hold the link does not come up (R74). -/
def execLinkUp (port : PortId) (s : State) : Host.Outcome State Fault Refusal :=
  .next (s.eventIf (!(decide ((s.port port).state = .offline) && (s.port port).hold)) fun s => s.linkUp port)

/-- R74: the states that a link down takes to OFFLINE. -/
def State.downToOffline (s : State) (p : PortId) : Bool :=
  match (s.port p).state with
  | .probe | .idle | .standby => true
  | .opening | .trayOpen | .closing => (s.disc (.tray p)).isNone && !s.granted (ReqKind.isFeedFor p)
  | _ => false

/-- R74. -/
def State.linkDown (s : State) (p : PortId) : State :=
  let q := s.port p
  let down := fun q : Port => { q with link := false, resetting := false }
  if q.state = .offline ∨ q.state = .faulted then s.modPort p fun q => { q with link := false }
  else if s.downToOffline p then (s.goOffline p).modPort p down
  else
    let s := if q.state.burning then s.failBurn p .driveFault (s.burnLba p) else s
    (s.goFaulted p).modPort p down

def execLinkDown (port : PortId) (s : State) : Host.Outcome State Fault Refusal :=
  .next (s.event fun s => s.linkDown port)

end Sys2Proof.Machine
end

