-- ==== Sys2Proof/Machine/FrameEvents.lean ====
section
/-! DEFINITION. Frames other than commands, the loss of the link, and the composer's fill (R32 to R35, R181 to R185,
R189). -/

namespace Sys2Proof.Machine

/-- OTHER_KIND_FRAME: counted as good, discarded, answered by nothing (R185, R191). -/
def execOtherKindFrame (_kind : Byte) (s : State) : Host.Outcome State Fault Refusal := .next (s.hear id)

/-- IMAGE_FRAME: in SYNCED the frame goes to the stream composer (R32 to R34, R185). -/
def execImageFrame (job : Byte) (payload : List Byte) (s : State) : Host.Outcome State Fault Refusal :=
  .next (s.hear fun s => State.settle s (s.imageFrame job payload))

/-- HUNT_GOOD_FRAME (R182, R184); in SYNCED it cannot occur (log 3). -/
def execHuntGoodFrame (s : State) : Host.Outcome State Fault Refusal :=
  .next (if s.link.receiver = .hunt then s.hear id else s)

/-- R183: a pass in FORMING or RUNNING whose ingress is incomplete is aborted. -/
def State.losePass (s : State) (j : JobId) : State :=
  if (s.pass j).any fun p => p.live && !p.complete (s.job j) then s.abortPass j .linkLost none else s

/-- R183, R176: the receiver leaves SYNCED for HUNT. That the consecutive bad count keeps its last value in HUNT is the
model's choice (log 55), that the run count goes to 0 its reading (log 35). -/
def State.linkLost (s : State) : State :=
  ((numbers 4).foldl State.losePass s).modLink fun l =>
    { l with
      receiver := .hunt, run := 0
      queue := l.queue.filter fun e => match e with
        | .notice _ | .report => false
        | .answer _ | .credit _ => true }

/-- R181 to R183: a bad frame is counted, and clears the run or adds to the consecutive bad frames. -/
def State.badFrame (s : State) : State :=
  match s.link.receiver with
  | .hunt => s.modLink fun l => { l with bad := satInc max32 l.bad, run := 0 }
  | .synced =>
    let s := s.modLink fun l => { l with bad := satInc max32 l.bad, consecBad := l.consecBad + 1 }
    if s.link.consecBad < 4 then s else s.linkLost

/-- BAD_FRAME (R181 to R183); between PART RESET and its reset it is discarded uncounted (R189). -/
def execBadFrame (s : State) : Host.Outcome State Fault Refusal :=
  .next (s.eventIf (decide (s.link.stage = .none)) State.badFrame)

/-- FRAME_DURING_RESET: discarded uncounted (R189). -/
def execFrameDuringReset (s : State) : Host.Outcome State Fault Refusal := .next s

/-- LANE_SIGNAL_LOSS on any lane (R182, R183). -/
def execLaneSignalLoss (_lane : Fin 4) (s : State) : Host.Outcome State Fault Refusal :=
  .next (match s.link.receiver with
    | .hunt => s.quietIf true fun s => s.modLink fun l => { l with run := 0 }
    | .synced => s.event State.linkLost)

/-- FILL_SECTOR (R35). -/
def execFillSector (job : JobId) (s : State) : Host.Outcome State Fault Refusal :=
  .next (s.eventIf ((s.pass job).any fun p => p.canFill (s.job job)) fun s => s.fillOne job)

end Sys2Proof.Machine
end

