-- ==== Sys2Proof/Machine/JobCommands.lean ====
section
/-! DEFINITION. JOB OPEN, SET JOB, JOB RUN, JOB DRAIN, JOB HALT and JOB CLOSE (R2 to R10, R22). -/

namespace Sys2Proof.Machine

/-- Run `f` on the job a code names; a job above J3 is refused INVALID with index 0 (R22). -/
def withJob (code : Byte) (s : State) (f : JobId → State × Result) : State × Result :=
  match numbered 4 code with
  | none => s.refuse (.invalid 0)
  | some j => f j

/-- R2. -/
def openJob (job : Byte) (ring : Half) (s : State) : State × Result :=
  withJob job s fun j =>
    let r := ring.toNat
    if (s.job j).state ≠ .closed then s.refuse .state
    else if r < 64 ∨ 16384 < r then s.refuse (.invalid 1)
    else if s.freeSegments < r then s.refuse .noSpace
    else State.accept
      { s.modJob j fun x => { Job.reset with state := .opened, ring := r, prefill := r, passCounter := x.passCounter } with
        memory := s.memory.clearRing j }

def execJobOpen (h : CmdHdr) (job : Byte) (ring : Half) (s : State) : Host.Outcome State Fault Refusal :=
  .next (State.command h 12 .post (openJob job ring) s)

/-- The widest number a template's SERIAL fields can hold is narrower than `w`: some SERIAL field is below it (R3, R20). -/
def Template.narrower (t : Template) (w : Nat) : Bool := t.fields.any fun f => decide (f.kind = .serial ∧ f.width < w)

/-- R3. -/
def setJob (job : Byte) (prefill lag target : Half) (bin profile template : Byte) (s : State) : State × Result :=
  withJob job s fun j =>
    let x := s.job j
    if x.state ≠ .opened then s.refuse .state
    else if 16383 < lag.toNat then s.refuse (.invalid 2)
    else match numbered 4 bin, numbered 8 profile, numbered 8 template with
      | none, _, _ => s.refuse (.invalid 4)
      | _, none, _ => s.refuse (.invalid 5)
      | some b, some g, t =>
        if t.isNone ∧ template.toNat ≠ noneCode then s.refuse (.invalid 6)
        else if t.any fun t => (s.template t).narrower x.serialWidth then s.refuse (.invalid 6)
        else State.accept (s.modJob j fun x =>
          { x with
            prefill := max 1 (min prefill.toNat x.ring), lagLimit := lag.toNat, target := target.toNat
            bin := b, profile := g, template := t })

def execSetJob (h : CmdHdr) (job : Byte) (prefill lag target : Half) (bin profile template : Byte) (s : State) :
    Host.Outcome State Fault Refusal :=
  .next (State.command h 32 .post (setJob job prefill lag target bin profile template) s)

/-- R4. -/
def runJob (job : Byte) (s : State) : State × Result :=
  withJob job s fun j =>
    let x := s.job j
    if x.state = .opened ∧ x.map.isSome ∧ (s.profile x.profile).loaded
        ∧ (x.target = 0 ∨ x.counters.delivered < x.target) then
      State.accept (s.modJob j fun x => { x with state := .running })
    else s.refuse .state

def execJobRun (h : CmdHdr) (job : Byte) (s : State) : Host.Outcome State Fault Refusal :=
  .next (State.command h 8 .settle (runJob job) s)

/-- R5. -/
def drainJob (job : Byte) (s : State) : State × Result :=
  withJob job s fun j =>
    match (s.job j).state with
    | .running => State.accept (s.enterDraining j)
    | .draining => s.accept
    | .closed | .opened | .halting => s.refuse .state

def execJobDrain (h : CmdHdr) (job : Byte) (s : State) : Host.Outcome State Fault Refusal :=
  .next (State.command h 8 .settle (drainJob job) s)

/-- R8: a port of the job in FINISHING or VERIFYING ends its command; its disc becomes SCRAP with JOB_HALT. -/
def State.haltPort (s : State) (j : JobId) (p : PortId) : State :=
  let q := s.port p
  if (q.state = .finishing ∨ q.state = .verifying) ∧ (s.disc (.tray p)).bind Disc.job = some j then
    ((s.modPort p (Port.endCommand s.now s.timing)).failBurn p .jobHalt none).goDone p
  else s

/-- R8: entry to HALTING; the removal of the job's FEED requests follows at the same event (log 2). The discs in FINISHING
and VERIFYING are handed to the fault record in port order, after the abort; that order is the model's choice (log 49). -/
def State.enterHalting (s : State) (j : JobId) : State :=
  let s := s.modJob j fun x => { x with state := .halting }
  let s := (s.abortPass j .jobHalt none).giveUpBlanks j
  ((numbers 16).foldl (fun s p => s.haltPort j p) s).withdraw (.waveReady j)

/-- R8. -/
def haltJob (job : Byte) (s : State) : State × Result :=
  withJob job s fun j =>
    match (s.job j).state with
    | .running | .draining => State.accept (s.enterHalting j)
    | .halting => s.accept
    | .closed | .opened => s.refuse .state

def execJobHalt (h : CmdHdr) (job : Byte) (s : State) : Host.Outcome State Fault Refusal :=
  .next (State.command h 8 .settle (haltJob job) s)

/-- R10. -/
def closeJob (job : Byte) (s : State) : State × Result :=
  withJob job s fun j =>
    if (s.job j).state = .opened ∧ (s.discsOf j).isEmpty then
      State.accept (s.modJob j fun x => { x with state := .closed, map := none, digest := .empty })
    else s.refuse .state

def execJobClose (h : CmdHdr) (job : Byte) (s : State) : Host.Outcome State Fault Refusal :=
  .next (State.command h 8 .post (closeJob job) s)

end Sys2Proof.Machine
end

