-- ==== Sys2Proof/Machine/LabelCommands.lean ====
section
/-! DEFINITION. LOAD TEMPLATE, SET TEMPLATE, LOAD GLYPHS, RIBBON LOAD and PRINTER RESUME (R154 to R156, R163, R166). -/

namespace Sys2Proof.Machine

/-- R154. -/
def loadTemplate (template : Byte) (offset : Word) (chunk : List Byte) (s : State) : State × Result :=
  match numbered 8 template with
  | none => s.refuse (.invalid 0)
  | some t =>
    if s.templateBusy t then s.refuse .busy
    else if chunk.length = 0 ∨ 4096 < chunk.length then s.refuse (.invalid 1)
    else if Config.rasterBytes < offset.toNat + chunk.length then s.refuse (.invalid 1)
    else State.accept { s with memory := s.memory.setRaster t offset.toNat chunk }

def execLoadTemplate (h : CmdHdr) (template : Byte) (offset : Word) (chunk : List Byte) (s : State) :
    Host.Outcome State Fault Refusal :=
  .next (State.command h (16 + chunk.length) .post (loadTemplate template offset chunk) s)

/-- The glyph indices a field entry carries (11.2). Of a count above 16, which no check refuses in a field other than TEXT,
all 16 are taken: the model's choice (log 50). -/
def FieldEntry.indices (e : FieldEntry) : List Byte := e.glyphs.toList.take e.count.toNat

/-- R155: a SERIAL field is narrower than the serial width of a job, not CLOSED, that names the template. -/
def State.serialTooNarrow (s : State) (t : TemplateId) (width : Nat) : Bool :=
  s.jobs.toList.any fun x => decide (x.state ≠ .closed ∧ x.template = some t ∧ width < x.serialWidth)

/-- R155: the merge field an entry gives, none when it is refused. R191 judges the glyph count of a TEXT field alone; a count
above 16 in another is taken, which is the model's choice (log 50). -/
def fieldOf (s : State) (t : TemplateId) (e : FieldEntry) : Option MergeField :=
  match fieldKindOf e.kind.toNat with
  | none => none
  | some k =>
    let gs := FieldEntry.indices e
    if 1023 < e.x.toNat ∨ 1023 < e.y.toNat ∨ e.scale.toNat < 1 ∨ 4 < e.scale.toNat
        ∨ e.width.toNat < 1 ∨ 16 < e.width.toNat then none
    else if k = .text ∧ (e.count.toNat = 0 ∨ e.width.toNat < e.count.toNat ∨ gs.any fun g => decide (15 < g.toNat)) then
      none
    else if k = .serial ∧ s.serialTooNarrow t e.width.toNat then none
    else some ⟨k, e.x.toNat, e.y.toNat, e.scale.toNat, e.width.toNat, gs⟩

/-- The first field entry that is refused, counted from `i` (R155). -/
def firstBadField (s : State) (t : TemplateId) (i : Nat) : List FieldEntry → Option Nat
  | [] => none
  | e :: es => if (fieldOf s t e).isNone then some i else firstBadField s t (i + 1) es

/-- R155. -/
def setTemplate (template : Byte) (inner outer : Half) (fields : List FieldEntry) (s : State) : State × Result :=
  match numbered 8 template with
  | none => s.refuse (.invalid 0)
  | some t =>
    let out := min 511 outer.toNat
    if s.templateBusy t then s.refuse .busy
    else if out ≤ inner.toNat then s.refuse (.invalid 2)
    else if 8 < fields.length then s.refuse (.invalid 3)
    else match firstBadField s t 4 fields with
      | some i => s.refuse (.invalid i)
      | none => State.accept
          { s with templates := upd s.templates t ⟨inner.toNat, out, fields.filterMap (fieldOf s t)⟩ }

def execSetTemplate (h : CmdHdr) (template : Byte) (inner outer : Half) (fields : List FieldEntry) (s : State) :
    Host.Outcome State Fault Refusal :=
  .next (State.command h (20 + 24 * fields.length) .post (setTemplate template inner outer fields) s)

/-- R156. -/
def loadGlyphs (glyphs : Vector Glyph 16) (s : State) : State × Result :=
  if s.printing then s.refuse .busy else State.accept { s with glyphs := glyphs }

def execLoadGlyphs (h : CmdHdr) (glyphs : Vector Glyph 16) (s : State) : Host.Outcome State Fault Refusal :=
  .next (State.command h 772 .post (loadGlyphs glyphs) s)

/-- R163. -/
def ribbonLoad (count : Half) (s : State) : State × Result :=
  let s := s.modPrinter fun p => { p with ribbon := count.toNat }
  if s.printer.state = .waitRibbon ∧ count ≠ 0 then State.accept (s.commitLabel.withdraw .ribbonOut) else s.accept

def execRibbonLoad (h : CmdHdr) (count : Half) (s : State) : Host.Outcome State Fault Refusal :=
  .next (State.command h 8 .settle (ribbonLoad count) s)

/-- R166. -/
def printerResume (s : State) : State × Result :=
  if s.printer.state ≠ .fault then s.refuse .state
  else if !s.platterFree then s.refuse .busy
  else State.accept (s.modPrinter fun p => { p with state := .empty, tag := none, timerDue := none })

def execPrinterResume (h : CmdHdr) (s : State) : Host.Outcome State Fault Refusal :=
  .next (State.command h 4 .settle printerResume s)

end Sys2Proof.Machine
end

