-- ==== Sys2Proof/Machine/Readback.lean ====
section
/-! DEFINITION. What READ returns for each object kind, in the slots of R193 (R46, R67, R94, R113, R130, R152, R168,
R180, R188; log 9, log 10). -/

namespace Sys2Proof.Machine

/-! ## Slots -/

/-- A presence slot: 1 when present (R193). -/
def slotPresent (b : Bool) : List Byte := slot (if b then 1 else 0)

/-- A field of two values by their place in its list, the affirmative first (R193); that the fields with no list of their own,
which R46 and R152 give as 'whether', are sent so too is the model's choice (log 41). -/
def slotYes (b : Bool) : List Byte := slot (yesCode b)

/-- A field that may be absent: its presence slot, then its own (R193). -/
def slotOpt (o : Option Nat) : List Byte := slotPresent o.isSome ++ slot (o.getD 0)

/-- Slots one after another. -/
def slots (ns : List Nat) : List Byte := ns.flatMap slot

/-- A group of `n` slots that may be absent as a whole: presence, then the slots or zeros (log 9). -/
def slotGroup (n : Nat) (o : Option (List Byte)) : List Byte := slotPresent o.isSome ++ o.getD (slots (List.replicate n 0))

/-- A list: its count, then its entries (R193). -/
def slotList (entry : α → List Byte) (xs : List α) : List Byte := slot xs.length ++ xs.flatMap entry

/-- A job or template that may be NONE (R192). -/
def orNone (o : Option (Fin n)) : Nat := (o.map Fin.val).getD noneCode

/-! ## Jobs and tables -/

def extentBytes (e : Extent) : List Byte := [byteOf e.kind.code, e.fill, 0, 0] ++ slot e.length

/-- R66. That ENDED and ABORTED are sent by their place among the four pass states of R47, 2 and 3, is the model's choice
(log 56). -/
def summarySlots (x : PassSummary) : List Byte :=
  slots [x.number.toNat, (if x.cause.isNone then PassState.ended else PassState.aborted).code]
    ++ slotOpt (x.cause.map fun c => c.fault.code) ++ slots [x.waveSize, x.finished, x.cut, x.failed]

def lastPassSlots (x : Job) : List Byte := slotGroup 8 (x.lastPass.map summarySlots)

/-- R178, R180. -/
def faultSlots (f : Option FaultRecord) : List Byte :=
  slot (validCode f.isSome) ++ slotOpt (f.map fun r => r.cause.code) ++ slotOpt (f.bind fun r => r.pass.map BitVec.toNat)
    ++ slotOpt (f.bind fun r => r.port.map Fin.val) ++ slotOpt (f.bind fun r => r.lba)
    ++ slotOpt (f.bind fun r => r.tag.map BitVec.toNat) ++ slot ((f.map fun r => r.further).getD 0)

def mapSlots (m : Option (List Extent)) : List Byte := slotPresent m.isSome ++ slotList extentBytes (m.getD [])

/-- Every field of R1 in its order. -/
def jobSlots (x : Job) : List Byte :=
  let c := x.counters
  slots [x.state.code, x.ring, x.prefill, x.lagLimit, x.target, x.bin.val, x.profile.val, orNone x.template,
    x.serialBase, x.serialStep, x.serialWidth, x.serialPad.code, x.serialNext, x.digest.code, x.passCounter.toNat]
    ++ slots [c.picked, c.returned, c.deliveredPass, c.deliveredMarginal, c.deliveredUnverified, c.rejected, c.lost]
    ++ lastPassSlots x ++ faultSlots x.fault ++ mapSlots x.map

/-- The map with the quantities of R14; that the presence and the extents stand before them is the model's (log 9). -/
def imageMapSlots (x : Job) : List Byte :=
  let m := x.map.getD []
  let len := mapLength m
  mapSlots x.map ++ slot len ++ slotList (fun i => slot (mapLength (m.take i))) (List.range m.length)
    ++ slots [blockCount len, lastBlockLength len]
    ++ slotList (fun e => slot e.frames) (m.filter fun e => decide (e.kind = .stream)) ++ slot (segmentCount len)

/-- A profile: loaded, then its entry (R15); that slot and its place are the model's (log 9). -/
def profileSlots (g : Profile) : List Byte :=
  slotYes g.loaded ++ [byteOf g.mode.code, byteOf g.stride, byteOf g.weight, 0] ++ halfBytes (halfOf g.peakWarn)
    ++ halfBytes (halfOf g.peakFail) ++ halfBytes (halfOf g.meanWarn) ++ halfBytes (halfOf g.meanFail)
    ++ [byteOf g.dest.code, if g.printMarginal then 1 else 0, 0, 0]

def timingSlots (t : Timing) : List Byte :=
  slots [t.probe, t.tray, t.check, t.write, t.sync, t.close, t.read, t.wake, t.retry, t.pause, t.standby]

def fieldBytes (f : MergeField) : List Byte :=
  [byteOf f.kind.code, byteOf f.scale, byteOf f.width, byteOf f.glyphs.length] ++ halfBytes (halfOf f.x)
    ++ halfBytes (halfOf f.y) ++ f.glyphs ++ List.replicate (16 - f.glyphs.length) 0

/-- A template's radii and field list, with a range of its raster (R168). The raster's count slot stands also where a length
of 0 asks for no raster, the model's choice (log 9). -/
def templateSlots (s : State) (t : TemplateId) (first count : Nat) : List Byte :=
  slots [(s.template t).inner, (s.template t).outer] ++ slotList fieldBytes (s.template t).fields
    ++ slotList (fun i => [s.memory.raster t (first + i)]) (List.range count)

def glyphBytes (g : Glyph) : List Byte := g.toList.flatMap fun r => [r.extractLsb' 8 8, r.extractLsb' 0 8]

/-- R46: the number of valid digest entries. -/
def digestValid (s : State) (j : JobId) : Nat :=
  match (s.job j).digest with
  | .empty => 0
  | .building => ((s.pass j).map fun p => p.comp.blocksDone).getD 0
  | .sealed => blockCount (s.job j).length

/-- R46. -/
def digestSlots (s : State) (j : JobId) (first count : Nat) : List Byte :=
  let valid := digestValid s j
  slots [(s.job j).digest.code, valid] ++ slotList (fun i =>
    let b := first + i
    if b < valid then slot 1 ++ wordBytes (s.memory.digest j b) else slots [0, 0]) (List.range count)

/-! ## Passes -/

def memberSlots (p : Pass) (m : Member) : List Byte :=
  slots [m.port.val, m.tag.toNat, m.written] ++ slotOpt m.inFlight ++ slot m.status.code
    ++ slotOpt (if m.status = .writing then some (p.lag m) else none)

/-- Composition is held at the prefill point of a FORMING pass (R39, R46); so too with ingress complete (log 9). -/
def Pass.heldAtPrefill (x : Job) (p : Pass) : Bool :=
  decide (p.state = .forming ∧ x.prefillPoint ≤ p.comp.head + 16 * p.comp.outstanding)

def compositionSlots (x : Job) (p : Pass) : List Byte :=
  slots [p.comp.head, p.tail, p.free x, p.comp.credits.toNat, p.comp.frames, p.comp.outstanding]
    ++ slotOpt p.comp.extent ++ slots [p.comp.framesInExtent, p.comp.blocksDone]
    ++ slotYes (p.complete x) ++ slotYes (p.isBlocked x) ++ slotYes (p.heldAtPrefill x)

/-- R46, R67: the pass, or its absence with the last-pass summary. An absent pass is one presence slot with no zero slots
behind it, the model's choice (log 9). -/
def passSlots (s : State) (j : JobId) : List Byte :=
  let x := s.job j
  match s.pass j with
  | none => slot 0 ++ lastPassSlots x
  | some p =>
    slots [1, p.number.toNat, p.state.code] ++ slotYes p.closed ++ slotOpt (p.cause.map fun c => c.fault.code)
      ++ slots [p.finished, p.cut, p.failed] ++ slotList (memberSlots p) p.wave ++ compositionSlots x p

/-! ## Ports -/

/-- A command's parameters in two slots (R68). -/
def DriveCmd.params : DriveCmd → Nat × Nat
  | .mediaCheck c => (c, 0)
  | .writeSegment n => (n, 0)
  | .readBlock l c => (l, c)
  | .identify | .openTray | .closeTray | .sleep | .synchronise | .finalise | .wake => (0, 0)

/-- R113. -/
def verifySlots (v : Verify) : List Byte :=
  slots [(if v.sampled then VerifyMode.sampled else VerifyMode.full).code, v.stride, v.planned, v.position, v.block,
    256 * v.block, v.blockLen, v.reissues, v.received] ++ slotOpt v.lastFailure
    ++ slots [v.peak, v.sum, v.sectors, v.blocks]

/-- R94, R113. The idle time stands at its place in R68, between paused and the last outcome, the model's choice (log 9), and so is
that only a port in a wave, with an ARMED or WRITING entry, is sent a pass number and a member status (log 58). -/
def portSlots (s : State) (p : PortId) : List Byte :=
  let q := s.port p
  slots [q.state.code] ++ slot (linkCode q.link) ++ slotYes q.hold ++ slots [q.errand.code, q.step.code]
    ++ slotGroup 3 (q.cmd.map fun c => slots [c.cls.code, c.params.1, c.params.2])
    ++ slot q.retries ++ slotYes q.ending ++ slot q.transferred ++ slotYes q.paused
    ++ slot (q.idleTime s.now / 1000)
    ++ slotGroup 2 (q.lastOutcome.map fun (c, o) => slots [c.code, o.code])
    ++ slot (orNone (s.assigned p)) ++ slotOpt ((s.disc (.tray p)).map fun d => d.tag.toNat)
    ++ slotGroup 2 ((s.waveOf p).bind fun j => (s.pass j).bind fun x =>
        (x.member p).map fun m => slots [x.number.toNat, m.status.code])
    ++ slotGroup 15 ((s.verify p).map verifySlots)

/-! ## Roster -/

/-- Every field of R116 in its order, at a place (R130). The VOID flag is sent as 1 for set and 0 for clear, the model's
choice (log 41). -/
def discSlots (p : Place) (d : Disc) : List Byte :=
  slot d.tag.toNat ++ slotOpt (d.job.map Fin.val) ++ slots [d.state.code, p.code]
    ++ slotOpt (d.dest.map Station.code) ++ slotOpt (d.port.map Fin.val) ++ slotOpt (d.pass.map BitVec.toNat)
    ++ slotOpt (d.grade.map Grade.code)
    ++ slotGroup 4 (d.metrics.map fun m => slots [m.peak, m.mean, m.blocks, m.sectors])
    ++ slotOpt d.serial ++ slotOpt (d.serial.map fun _ => if d.void then 1 else 0)
    ++ slotOpt (d.cause.map FaultCause.code) ++ slotOpt d.lba

/-- The count of reserved report entries, 0 or 1 (R169). -/
def Notices.reservedCount (n : Notices) : Nat := if n.reserved then 1 else 0

/-- R130: the record at a place, or absent. -/
def recordSlots (s : State) (p : Option Place) : List Byte :=
  slotGroup 26 (p.bind fun p => (s.disc p).map (discSlots p))

/-- R130. The 22 places carry no count, the model's choice (log 9). -/
def rosterSlots (s : State) : List Byte :=
  slots [s.tagCounter.toNat, s.unreported, s.notices.reservedCount]
    ++ allPlaces.flatMap fun p => slotGroup 4 ((s.disc p).map fun d =>
      slot d.tag.toNat ++ slotOpt (d.job.map Fin.val) ++ slot d.state.code)

/-! ## Transport -/

def Source.code : Source → Nat
  | .bin i => i.val
  | .place p => p.code

/-- The source a request holds before its grant; none while unresolved (R137, R152). -/
def State.heldSource (s : State) : ReqKind → Option Source
  | .printLoad => none
  | k => (s.resolve k).map fun r => r.1

/-- The destination a request holds before its grant; none while unresolved (R137, R152). -/
def State.heldDest (s : State) : ReqKind → Option Station
  | .unload _ _ | .printUnload _ => none
  | .printLoad => some .platter
  | k => (s.resolve k).map fun r => r.2.1

def ReqKind.tag : ReqKind → Option Half
  | .feed _ _ | .printLoad => none
  | .unload _ t | .printUnload t | .recover _ t | .host _ _ t => some t

def ReqKind.port : ReqKind → Option PortId
  | .feed p _ | .unload p _ => some p
  | _ => none

def ReqKind.job : ReqKind → Option JobId
  | .feed _ j => some j
  | _ => none

/-- R152: a request of the move queue. That an unresolved source or destination is sent as an absent field, so that every
request has the two presence slots, is the model's choice (log 9). -/
def requestSlots (s : State) (r : Request) : List Byte :=
  let src := match r.kind with
    | .unload p _ => some (Place.tray p).code
    | .printUnload _ => some Place.platter.code
    | k => (s.heldSource k).map Source.code
  slot r.kind.code ++ slotOpt src ++ slotOpt ((s.heldDest r.kind).map Station.code)
    ++ slotOpt (r.kind.tag.map BitVec.toNat) ++ slotOpt (r.kind.port.map Fin.val) ++ slotOpt (r.kind.job.map Fin.val)
    ++ slot r.arrival.toNat ++ slotYes (s.eligible r.kind)

def queueSlots (s : State) : List Byte := slotList (requestSlots s) s.transport.queue

def moveSlots (m : Move) : List Byte :=
  slots [m.req.kind.code, m.source.code, m.dest.code] ++ slotOpt (m.tag.map BitVec.toNat)
    ++ slotOpt (m.req.kind.port.map Fin.val) ++ slot m.phase.code ++ slotYes m.reserved

/-- R152. That the EMPTY marks, the bin sensors and the present sensors, of a fixed number each, carry no count is the model's
choice (log 9). -/
def transportSlots (s : State) : List Byte :=
  let t := s.transport
  slot t.state.code ++ slotOpt (t.cause.map TransportCause.code) ++ slotOpt (t.station.map Station.code)
    ++ slotYes t.pausePending ++ slotList (fun p => slot p.val) t.held ++ t.marks.toList.flatMap slotYes
    ++ binSensors.flatMap (fun k => slot (sensorCode (t.latched.get k)) ++ slot (sensorCode (s.sensors.bins.get k)))
    ++ s.sensors.shelf.toList.flatMap (fun b => slot (sensorCode b)) ++ slot (sensorCode s.sensors.platter)
    ++ slot (sensorCode s.sensors.gripPresent)
    ++ slotGroup 9 (t.move.map moveSlots)

/-- R168. That the template number and the job of the record being printed are fields that may be absent, as they are where
there is none, is the model's choice (log 9). -/
def printerSlots (s : State) : List Byte :=
  let p := s.printer
  let job := (s.disc .platter).bind fun d => if p.tag = some d.tag then d.job else none
  slots [p.state.code, p.ribbon] ++ slotOpt (p.tag.map BitVec.toNat)
    ++ slotOpt ((job.bind fun j => (s.job j).template).map Fin.val) ++ slotOpt (job.map Fin.val) ++ slot p.rows
    ++ slotOpt (p.timerDue.map fun d => (d - s.now) / 100) ++ slotOpt (p.lastWrap.map Fin.val)
    ++ slot (sensorCode s.sensors.platter)

/-! ## Notices and the link -/

def pairSlots (n : Notice) : List Byte := slots [n.cause, n.objectCode]

/-- R180. -/
def noticeSlots (s : State) : List Byte :=
  causeClasses.flatMap (fun c =>
      slotList pairSlots (s.notices.get c).set ++ slotGroup 2 ((s.notices.get c).outstanding.map pairSlots))
    ++ slots [s.notices.reports.length, s.notices.reservedCount]
    ++ slotOpt (if s.notices.reportOut then s.notices.reports.head?.map fun r => r.disc.tag.toNat else none)

/-- An absent single-byte job, port, bin or place is sent as FF hex (R194). -/
def byteOrNone (o : Option Nat) : Byte := byteOf (o.getD noneCode)

/-- The presence flags of a disc report (11.3, R194). -/
def Report.flags (r : Report) : Half :=
  let d := r.disc
  [d.job.isSome, d.port.isSome, d.pass.isSome, d.grade.isSome, d.metrics.isSome, d.serial.isSome,
    d.serial.isSome && d.void, d.cause.isSome, d.lba.isSome, r.loss.isSome, r.place.isSome].reverse.foldl
    (fun (w : Half) b => (w <<< 1) ||| (if b then 1 else 0)) 0

/-- The 36 bytes of a disc report (11.3, R194). -/
def Report.bytes (r : Report) : List Byte :=
  let d := r.disc
  let m := d.metrics.getD ⟨0, 0, 0, 0⟩
  halfBytes d.tag ++ halfBytes r.flags
    ++ [byteOrNone (d.job.map Fin.val), byteOf d.state.code,
      byteOrNone (r.bin.map fun b => (Station.out b).code), byteOrNone (d.port.map Fin.val)]
    ++ halfBytes (d.pass.getD 0)
    ++ [byteOf ((d.grade.map Grade.code).getD 0), byteOf ((d.cause.map FaultCause.code).getD 0)]
    ++ halfBytes (halfOf m.peak) ++ halfBytes (halfOf m.mean) ++ slot m.blocks ++ slot m.sectors
    ++ slot (d.serial.getD 0) ++ slot (d.lba.getD 0)
    ++ [byteOf ((r.loss.map LossCause.code).getD 0), byteOrNone (r.place.map Place.code), 0, 0]

/-- R180: the reports at a range of positions. That a range within the 32 positions is answered with the reports that stand
in it, and their number, also where that is less than the range, is the model's choice (log 10). -/
def reportSlots (s : State) (first count : Nat) : List Byte :=
  slotList Report.bytes ((s.notices.reports.drop first).take count)

/-- R188. -/
def linkSlots (s : State) : List Byte :=
  let l := s.link
  slots [l.good, l.bad, l.stray, l.dropped, l.receiver.code, l.run, l.consecBad]

/-! ## READ (R188, R193) -/

/-- The greatest answer in bytes (R188). -/
def maxAnswer : Nat := 32768

/-- R188, R193: the data of a READ, or the index it is refused with. That the two selector slots are read whole, four bytes
each, for every object kind is the model's choice, and so is that a template's offset beyond its raster is refused also with
length 0 (log 10). -/
def readData (s : State) (a : ReadArgs) : Except Nat (List Byte) :=
  let low : Byte := a.number.extractLsb' 0 8
  let first := a.first.toNat
  let count := a.count.toNat
  let ofJob (f : JobId → Except Nat (List Byte)) : Except Nat (List Byte) :=
    match numbered 4 low with
    | some j => f j
    | none => .error 0
  let whole (d : List Byte) : Except Nat (List Byte) := if low = 0 then .ok d else .error 0
  match a.kind.toNat with
  | 0 => ofJob fun j => .ok (jobSlots (s.job j))
  | 1 => ofJob fun j => .ok (passSlots s j)
  | 2 => match numbered 16 low with
    | some p => .ok (portSlots s p)
    | none => .error 0
  | 3 => match first with
    | 0 => .ok (recordSlots s (s.placeOfTag a.number))
    | 1 => match placeOf low.toNat with
      | some p => .ok (recordSlots s (some p))
      | none => .error 0
    | _ => .error 1
  | 4 => whole (rosterSlots s)
  | 5 => whole (queueSlots s)
  | 6 => if low ≠ 0 then .error 0 else if Config.reportRoom < first + count then .error 1
    else .ok (reportSlots s first count)
  | 7 => whole (noticeSlots s)
  | 8 => whole (transportSlots s)
  | 9 => whole (printerSlots s)
  | 10 => match numbered 8 low with
    | some t => if Config.rasterBytes < first + count ∨ maxAnswer < count then .error 1
      else .ok (templateSlots s t first count)
    | none => .error 0
  | 11 => whole (s.glyphs.toList.flatMap glyphBytes)
  | 12 => ofJob fun j => .ok (imageMapSlots (s.job j))
  | 13 => match numbered 8 low with
    | some g => .ok (profileSlots (s.profile g))
    | none => .error 0
  | 14 => ofJob fun j =>
    if Config.digestEntries ≤ first ∨ Config.digestEntries < first + count ∨ maxAnswer < 8 * count then .error 1
    else .ok (digestSlots s j first count)
  | 15 => whole (timingSlots s.timing)
  | 16 => whole (s.assign.toList.flatMap fun j => slot (orNone j))
  | 17 => ofJob fun j => .ok (faultSlots (s.job j).fault)
  | 18 => whole (linkSlots s)
  | _ => .error 0

/-- The data cut into READBACK frames of 2,048 bytes (R188). -/
def readFrames (d : List Byte) : List (List Byte) :=
  (List.range ((d.length + 2047) / 2048)).map fun i => (d.drop (2048 * i)).take 2048

/-- The clear option of the roster and of the link statistics (R130, R188). -/
def readClear (s : State) (a : ReadArgs) : State :=
  if a.clear ≠ 1 then s
  else if a.kind.toNat = 4 then { s with unreported := 0 }
  else if a.kind.toNat = 18 then s.modLink fun l => { l with good := 0, bad := 0, stray := 0, dropped := 0 }
  else s

/-- R188. -/
def readObject (h : CmdHdr) (a : ReadArgs) (s : State) : State × AnswerEntry :=
  match readData s a with
  | .error i => (s, answerTo h (.invalid i))
  | .ok d =>
    if maxAnswer < d.length then (s, answerTo h (.invalid 1))
    else (readClear s a, ⟨h.tag, .ok (halfOf (readFrames d).length), readFrames d, false⟩)

end Sys2Proof.Machine
end

