-- ==== Sys2Proof/Machine/ManagementCommands.lean ====
section
/-! DEFINITION. ACK NOTICE, FAULT CLEAR, READ, PART RESET, an unknown command and a dropped one (R173, R174, R179,
R185, R186, R188, R189). -/

namespace Sys2Proof.Machine

/-! ## ACK NOTICE -/

/-- R66: the pass record is freed; its summary is copied, its waiting CREDIT entry is dropped (R30). -/
def State.freePass (s : State) (j : JobId) : State :=
  match s.pass j with
  | none => s
  | some p =>
    ((s.modJob j fun x =>
        { x with lastPass := some ⟨p.number, p.cause, p.wave.length, p.finished, p.cut, p.failed⟩ }).setPass j none).modLink
      fun l => { l with queue := l.queue.filter fun e => decide (e ≠ .credit j) }

/-- R174 step 2: the removal is handed to the block that owns the cause. -/
def State.acknowledged (s : State) : Notice → State
  | .passEnded j | .passAborted j => s.freePass j
  | .outputFull b | .outputCleared b => s.compareSensor (.full b)
  | .binEmpty i | .binRefilled i => s.compareSensor (.input i)
  | _ => s

/-- R173: a cause class. -/
def ackCause (c : CauseClass) (cause : Byte) (obj : Half) (s : State) : State × Result :=
  match (s.notices.get c).outstanding with
  | none => s.refuse (.invalid 1)
  | some n =>
    if cause.toNat ≠ n.cause then s.refuse (.invalid 1)
    else if (obj.extractLsb' 0 8).toNat ≠ n.objectCode then s.refuse (.invalid 2)
    else State.accept ((s.modNotices fun x => x.put c (x.get c).acknowledge).acknowledged n)

/-- R175: the DISC class. -/
def ackReport (cause : Byte) (obj : Half) (s : State) : State × Result :=
  match s.notices.reports with
  | [] => s.refuse (.invalid 1)
  | r :: rs =>
    if !s.notices.reportOut ∨ cause.toNat ≠ 1 then s.refuse (.invalid 1)
    else if obj ≠ r.disc.tag then s.refuse (.invalid 2)
    else State.accept (s.modNotices fun x => { x with reports := rs, reportOut := false })

/-- R173. -/
def ackNotice (cls cause : Byte) (obj : Half) (s : State) : State × Result :=
  match cls.toNat with
  | 0 => ackCause .system cause obj s
  | 1 => ackCause .pass cause obj s
  | 2 => ackCause .port cause obj s
  | 3 => ackCause .transport cause obj s
  | 4 => ackCause .printer cause obj s
  | 5 => ackReport cause obj s
  | _ => s.refuse (.invalid 0)

def execAckNotice (h : CmdHdr) (cls cause : Byte) (obj : Half) (s : State) : Host.Outcome State Fault Refusal :=
  .next (State.command h 16 .settle (ackNotice cls cause obj) s)

/-! ## FAULT CLEAR, READ, PART RESET -/

/-- R179. -/
def faultClear (job : Byte) (s : State) : State × Result :=
  withJob job s fun j => State.accept (s.modJob j fun x => { x with fault := none })

def execFaultClear (h : CmdHdr) (job : Byte) (s : State) : Host.Outcome State Fault Refusal :=
  .next (State.command h 8 .post (faultClear job) s)

/-- READ (R188). -/
def execRead (h : CmdHdr) (args : ReadArgs) (s : State) : Host.Outcome State Fault Refusal :=
  .next (s.hear (State.take h 24 .post (readObject h args)))

/-- PART RESET: its RESPONSE is queued, and the receiver discards every frame from then on (R189). -/
def execPartReset (h : CmdHdr) (s : State) : Host.Outcome State Fault Refusal :=
  .next (s.hear (State.take h 4 .post fun s =>
    (s.modLink fun l => { l with stage := .taken }, ⟨h.tag, .ok 0, [], true⟩)))

/-- A code that is none of the part's commands is answered UNKNOWN, whatever its length (R186, R191). -/
def execUnknownCommand (h : CmdHdr) (s : State) : Host.Outcome State Fault Refusal :=
  .next (s.hear (State.take h h.len .post fun s => (s, answerTo h .unknown)))

/-- COMMAND_DROPPED: a command frame finds the answers of 8 commands unsent (R185); with room it cannot occur (log 3). -/
def execCommandDropped (s : State) : Host.Outcome State Fault Refusal :=
  .next (if s.link.receiver = .synced ∧ s.link.unsent < Config.answerRoom then s
    else s.hear fun s => s.modLink fun l => { l with dropped := satInc max32 l.dropped })

end Sys2Proof.Machine
end

