-- ==== Sys2Proof/Machine/PassCommands.lean ====
section
/-! DEFINITION. PASS START and PASS ABORT (R49, R62). -/

namespace Sys2Proof.Machine

/-- R24, column Value at PASS START. -/
def Composition.start : Composition where
  head := 0
  extent := some 0
  frames := 0
  framesInExtent := 0
  credits := 0
  accumulator := some crcPreset
  blocksDone := 0
  prefillReached := false
  blocked := false

/-- R47, column At creation, the wave still to be admitted. -/
def Pass.start (number : Half) : Pass where
  number := number
  state := .forming
  wave := []
  closed := false
  cause := none
  finished := 0
  cut := 0
  failed := 0
  comp := Composition.start

/-- R49: every LOADED port the map names for the job is admitted. -/
def State.admitLoaded (s : State) (j : JobId) : State :=
  (numbers 16).foldl (fun s p => if s.assigned p = some j ∧ (s.port p).state = .loaded then s.joinWave j p else s) s

/-- R49: a pass is created with its number. -/
def State.startPass (s : State) (j : JobId) (n : Half) : State :=
  let s := s.modJob j fun x =>
    { x with passCounter := n, digest := if x.digest = .empty then .building else x.digest }
  ((s.setPass j (some (Pass.start n))).admitLoaded j).withdraw (.waveReady j)

/-- R49. -/
def passStart (job : Byte) (s : State) : State × Result :=
  withJob job s fun j =>
    if (s.job j).state ≠ .running then s.refuse .state
    else if (s.pass j).isSome then s.refuse .busy
    else
      let n := (s.job j).passCounter + 1
      (s.startPass j n, .ok n)

def execPassStart (h : CmdHdr) (job : Byte) (s : State) : Host.Outcome State Fault Refusal :=
  .next (State.command h 8 .settle (passStart job) s)

/-- R62. -/
def passAbort (job : Byte) (s : State) : State × Result :=
  withJob job s fun j =>
    if (s.pass j).any Pass.live then State.accept (s.abortPass j .hostAbort none) else s.refuse .state

def execPassAbort (h : CmdHdr) (job : Byte) (s : State) : Host.Outcome State Fault Refusal :=
  .next (State.command h 8 .settle (passAbort job) s)

end Sys2Proof.Machine
end

