-- ==== Sys2Proof/Machine/PortCommands.lean ====
section
/-! DEFINITION. PORT RESET and PORT SERVICE (R91, R92). -/

namespace Sys2Proof.Machine

/-- Run `f` on the port a code names; a port above P15 is refused INVALID with index 0 (R91, R92). -/
def withPort (code : Byte) (s : State) (f : PortId → State × Result) : State × Result :=
  match numbered 16 code with
  | none => s.refuse (.invalid 0)
  | some p => f p

/-- R91: a granted move has the port's tray as source or destination, the arm's work there not finished. -/
def State.armAtTray (s : State) (p : PortId) : Bool :=
  s.transport.move.any fun m =>
    decide (m.dest = .tray p) || (decide (m.source = .place (.tray p)) && m.beforeGrip)

/-- R91: what PORT RESET does once taken. -/
def State.resetPort (s : State) (p : PortId) : State :=
  let s := if (s.port p).state.burning then s.failBurn p .portReset (s.burnLba p) else s
  let s := (s.modPort p fun q => { q.linkReset with hold := false, retries := 0, errand := .none }).removeRequests
    (ReqKind.ofPort p)
  if (s.disc (.tray p)).isSome then s.goRecovery p else s.goProbe p

/-- R91. -/
def portReset (port : Byte) (s : State) : State × Result :=
  withPort port s fun p => if s.armAtTray p then s.refuse .busy else State.accept (s.resetPort p)

def execPortReset (h : CmdHdr) (port : Byte) (s : State) : Host.Outcome State Fault Refusal :=
  .next (State.command h 8 .settle (portReset port) s)

/-- R92: the states in which PORT SERVICE is taken. -/
def State.serviceable (s : State) (p : PortId) : Bool :=
  match (s.port p).state with
  | .offline | .probe | .idle | .standby => true
  | .faulted => (s.disc (.tray p)).isNone
  | _ => false

/-- R92. -/
def portService (port : Byte) (s : State) : State × Result :=
  withPort port s fun p =>
    if !s.serviceable p then s.refuse .state
    else if s.granted (ReqKind.isFeedFor p) then s.refuse .busy
    else State.accept ((s.goOffline p).modPort p fun q =>
      { q.clearCmd with hold := true, link := false, resetting := false })

def execPortService (h : CmdHdr) (port : Byte) (s : State) : Host.Outcome State Fault Refusal :=
  .next (State.command h 8 .settle (portService port) s)

end Sys2Proof.Machine
end

