-- ==== Sys2Proof/Machine/PrinterEvents.lean ====
section
/-! DEFINITION. The printer's reports, the rows of the raster and the print timer (R161 to R164). -/

namespace Sys2Proof.Machine

def State.printerIn (s : State) (p : PrinterState) : Bool := decide (s.printer.state = p)

/-- PRINTER_READY: outside LOADED it is discarded (R161). -/
def execPrinterReady (s : State) : Host.Outcome State Fault Refusal :=
  .next (s.eventIf (s.printerIn .loaded) State.proceedLabel)

/-- Rows of a label (R153). -/
def labelRows : Nat := 1024

/-- R162: the next row leaves on the print line. -/
def State.sendRow (s : State) : State :=
  match s.printer.label with
  | none => s
  | some l =>
    (s.modPrinter fun p => { p with rows := p.rows + 1 }).modLines fun x =>
      { x with print := some (.row s.printer.rows (labelRow s l s.printer.rows)) }

/-- PRINT_ROW_SENT (R162). -/
def execPrintRowSent (s : State) : Host.Outcome State Fault Refusal :=
  .next (s.quietIf (s.printerIn .printing && decide (s.printer.rows < labelRows)) State.sendRow)

/-- R164: the label is finished. -/
def State.finishPrint (s : State) : State :=
  ((s.modDisc .platter fun d => { d with state := .finished }).modPrinter fun p =>
    { p with state := .done, timerDue := none, label := none }).unloadPlatter

/-- PRINTER_DONE: before the last row it is taken as a FAULT report; outside PRINTING it is discarded (R164). -/
def execPrinterDone (s : State) : Host.Outcome State Fault Refusal :=
  .next (s.eventIf (s.printerIn .printing) fun s =>
    if s.printer.rows = labelRows then s.finishPrint else s.spoilPrint)

/-- PRINTER_FAULT_REPORT: in EMPTY, DONE and FAULT it is discarded (R164). -/
def execPrinterFaultReport (s : State) : Host.Outcome State Fault Refusal :=
  .next (s.eventIf s.printer.state.inProgress State.spoilPrint)

/-- PRINT_TIMER_EXPIRY in LOADED or PRINTING (R161, R164). -/
def execPrintTimerExpiry (s : State) : Host.Outcome State Fault Refusal :=
  .next (s.eventIf (s.printerIn .loaded || s.printerIn .printing) fun s => (s.until s.printer.timerDue).spoilPrint)

end Sys2Proof.Machine
end

