-- ==== Sys2Proof/Machine/Reset.lean ====
section
/-! DEFINITION. POWER_ON, RESET_PIN, RESET_RELEASE and RESET_PERFORMED (R23, R132, R169, R189, R190). -/

namespace Sys2Proof.Machine

/-- Every block at its reset value. The rows that wait, the model's clock, RESET_N and the levels of the sensor inputs
are no state of the part's blocks and stand as they are (log 30). -/
def State.resetValues (s : State) : State :=
  { State.reset with pending := s.pending, now := s.now, resetHeld := s.resetHeld, sensors := s.sensors }

/-- The part starts: bin sensors that differ from their latches are treated as changes (R132). -/
def State.start (s : State) : State := State.outbound s s.sensorsAtRelease

/-- POWER_ON (R23). With RESET_N low the part stays in reset. -/
def execPowerOn (s : State) : Host.Outcome State Fault Refusal :=
  .next (if s.resetHeld then s.resetValues else s.resetValues.start)

/-- RESET_PIN: while held low, the part is in reset (00_scope 8, R23). -/
def execResetPin (s : State) : Host.Outcome State Fault Refusal := .next { s.resetValues with resetHeld := true }

/-- RESET_RELEASE: on release it starts from its reset values (00_scope 8, R132). -/
def execResetRelease (s : State) : Host.Outcome State Fault Refusal :=
  .next (if s.resetHeld then State.start { s with resetHeld := false } else s)

/-- RESET_PERFORMED: the reset of power-on with the receiver kept, then RESET_DONE COMMAND (R176, R189). -/
def execResetPerformed (s : State) : Host.Outcome State Fault Refusal :=
  .next (if s.resetHeld ∨ s.link.stage ≠ .answered then s
    else ({ s.resetValues with
        link := { Link.reset with receiver := s.link.receiver, firstSync := false } }.raise (.resetDone .command)).start)

end Sys2Proof.Machine
end

