-- ==== Sys2Proof/Machine/SensorEvents.lean ====
section
/-! DEFINITION. Changes of the sensor inputs (R131, R141, R146, R148, R149). The live levels follow the inputs also while
the part is held in reset (log 4). -/

namespace Sys2Proof.Machine

/-- R141, R146: the gripper present sensor changes. -/
def State.gripperChanges (s : State) (v : Bool) : State :=
  if s.sensors.gripPresent = v then s
  else
    let s := s.modSensors fun x => { x with gripPresent := v }
    match s.transport.move with
    | none => s.gripperIdle v
    | some m => if m.phase = .toDest ∧ v = false then s.drop m else s

/-- GRIPPER_SENSOR_CHANGE: the double sensor is read at a grip alone (R131, log 22). -/
def execGripperSensorChange (sensor : GripSensor) (level : Bool) (s : State) : Host.Outcome State Fault Refusal :=
  .next (match sensor with
    | .double => s.modSensors fun x => { x with gripDouble := level }
    | .present =>
      if s.resetHeld then s.modSensors fun x => { x with gripPresent := level }
      else s.event fun s => s.gripperChanges level)

/-- A bin sensor changes. -/
def State.binSensorRow (s : State) (k : BinSensor) (v : Bool) : State :=
  if s.resetHeld then s.modSensors fun x => { x with bins := x.bins.set k v } else s.event fun s => s.sensorChanges k v

/-- INPUT_BIN_SENSOR_CHANGE (R148, R149). -/
def execInputBinSensorChange (bin : BinId) (empty : Bool) (s : State) : Host.Outcome State Fault Refusal :=
  .next (s.binSensorRow (.input bin) empty)

/-- FULL_SENSOR_CHANGE (R148, R150). -/
def execFullSensorChange (bin : OutBin) (full : Bool) (s : State) : Host.Outcome State Fault Refusal :=
  .next (s.binSensorRow (.full bin) full)

/-- The live level of a present sensor. -/
def Sensors.setPlace (x : Sensors) (p : SensedPlace) (v : Bool) : Sensors :=
  match p with
  | .shelf k => { x with shelf := upd x.shelf k v }
  | .platter => { x with platter := v }

/-- PLACE_SENSOR_CHANGE: the place becomes free or not for requests (R139, R141). -/
def execPlaceSensorChange (place : SensedPlace) (present : Bool) (s : State) : Host.Outcome State Fault Refusal :=
  .next (if s.resetHeld then s.modSensors fun x => x.setPlace place present
    else s.event fun s => s.modSensors fun x => x.setPlace place present)

end Sys2Proof.Machine
end

