-- ==== Sys2Proof/Machine/TableCommands.lean ====
section
/-! DEFINITION. LOAD MAP, LOAD PROFILE, ASSIGN PORT, LOAD TIMING, SET SERIAL and DIGEST RESET (R13 to R22). -/

namespace Sys2Proof.Machine

/-! ## LOAD MAP (R13) -/

def extentKindOf (c : Byte) : Option ExtentKind :=
  match c.toNat with
  | 1 => some .stream
  | 2 => some .fill
  | _ => none

/-- R13's checks on one extent, with the total before it and the extents after it. -/
def extentFails (total : Nat) (e : ExtentEntry) (later : List ExtentEntry) : Bool :=
  (extentKindOf e.kind).isNone || decide (e.length.toNat = 0) || decide (Config.maxImage < total + e.length.toNat)
    || (decide (extentKindOf e.kind = some .stream) && decide (e.length.toNat % 16 ≠ 0)
      && later.any fun x => decide (extentKindOf x.kind = some .stream))

/-- The index of the first extent that fails, counted from `i` (R13). -/
def firstBadExtent (i total : Nat) : List ExtentEntry → Option Nat
  | [] => none
  | e :: es => if extentFails total e es then some i else firstBadExtent (i + 1) (total + e.length.toNat) es

/-- The index LOAD MAP is refused with, none for a list that passes (R13). -/
def mapRefusal (es : List ExtentEntry) : Option Nat :=
  match firstBadExtent 0 0 es with
  | some i => some i
  | none =>
    if 64 < es.length then some 64
    else if es.any fun e => decide (extentKindOf e.kind = some .stream) then none
    else some es.length

def loadExtent (e : ExtentEntry) : Extent := ⟨(extentKindOf e.kind).getD .fill, e.fill, e.length.toNat⟩

/-- R13. -/
def loadMap (job : Byte) (es : List ExtentEntry) (s : State) : State × Result :=
  withJob job s fun j =>
    if (s.job j).state ≠ .opened then s.refuse .state
    else match mapRefusal es with
      | some i => s.refuse (.invalid i)
      | none => State.accept (s.modJob j fun x => { x with map := some (es.map loadExtent), digest := .empty })

def execLoadMap (h : CmdHdr) (job : Byte) (extents : List ExtentEntry) (s : State) : Host.Outcome State Fault Refusal :=
  .next (State.command h (12 + 8 * extents.length) .post (loadMap job extents) s)

/-! ## LOAD PROFILE (R15) -/

def verifyModeOf (c : Byte) : Option VerifyMode :=
  match c.toNat with
  | 0 => some .none
  | 1 => some .full
  | 2 => some .sampled
  | _ => none

def marginalDestOf (c : Byte) : Option MarginalDest :=
  match c.toNat with
  | 0 => some .o1
  | 1 => some .reject
  | _ => none

def yesNoOf (c : Byte) : Option Bool :=
  match c.toNat with
  | 0 => some false
  | 1 => some true
  | _ => none

/-- R15: the profile an entry gives, or the index it is refused with. -/
def profileOf (e : ProfileEntry) : Except Nat Profile :=
  match verifyModeOf e.mode with
  | none => .error 0
  | some mode =>
    if e.peakFail.toNat < e.peakWarn.toNat then .error 3
    else if e.meanFail.toNat < e.meanWarn.toNat then .error 5
    else match marginalDestOf e.dest, yesNoOf e.printMarginal with
      | none, _ => .error 7
      | _, none => .error 8
      | some dest, some print =>
        if print ∧ dest = .reject then .error 8
        else .ok {
          loaded := true, mode := mode, stride := max 2 (min 64 e.stride.toNat), weight := e.weight.toNat
          peakWarn := e.peakWarn.toNat, peakFail := e.peakFail.toNat
          meanWarn := e.meanWarn.toNat, meanFail := e.meanFail.toNat, dest := dest, printMarginal := print }

/-- R15. -/
def loadProfile (number : Byte) (e : ProfileEntry) (s : State) : State × Result :=
  match numbered 8 number with
  | none => s.refuse (.invalid 0)
  | some n =>
    if s.jobs.toList.any fun x => x.state.inProduction && decide (x.profile = n) then s.refuse .busy
    else match profileOf e with
      | .error i => s.refuse (.invalid i)
      | .ok g => State.accept { s with profiles := upd s.profiles n g }

def execLoadProfile (h : CmdHdr) (profile : Byte) (entry : ProfileEntry) (s : State) :
    Host.Outcome State Fault Refusal :=
  .next (State.command h 24 .post (loadProfile profile entry) s)

/-! ## ASSIGN PORT (R17) -/

/-- A job code: a job, NONE, or neither (11.2). -/
def jobOrNone (c : Byte) : Option (Option JobId) :=
  match numbered 4 c with
  | some j => some (some j)
  | none => if c.toNat = noneCode then some none else none

/-- R17's BUSY check; a FEED move that has ended in a fault is no move in progress (log 46). -/
def State.assignBusy (s : State) (p : PortId) : Bool :=
  (s.disc (.tray p)).isSome || (s.waveOf p).isSome || s.granted (ReqKind.isFeedFor p)

/-- R17. -/
def assignPort (port job : Byte) (s : State) : State × Result :=
  match numbered 16 port with
  | none => s.refuse (.invalid 0)
  | some p =>
    if s.assignBusy p then s.refuse .busy
    else match jobOrNone job with
      | none => s.refuse (.invalid 1)
      | some j =>
        if s.assigned p = j then s.accept
        else State.accept ({ s with assign := upd s.assign p j }.removeRequests (ReqKind.isFeedFor p))

def execAssignPort (h : CmdHdr) (port job : Byte) (s : State) : Host.Outcome State Fault Refusal :=
  .next (State.command h 12 .settle (assignPort port job) s)

/-! ## LOAD TIMING (R18, R19) -/

/-- R18: every entry clamped. -/
def timingOf (e : TimingEntry) : Timing where
  probe := max 1 e.probe.toNat
  tray := max 1 e.tray.toNat
  check := max 1 e.check.toNat
  write := max 1 e.write.toNat
  sync := max 1 e.sync.toNat
  close := max 1 e.close.toNat
  read := max 1 e.read.toNat
  wake := max 1 e.wake.toNat
  retry := min 15 e.retry.toNat
  pause := max 1 e.pause.toNat
  standby := min 240 e.standby.toNat

/-- R77: the idle time of a port has reached the standby interval. -/
def State.sleepDue (s : State) (p : PortId) : Bool :=
  let q := s.port p
  decide (q.state = .idle) && !q.busy && decide (s.timing.standby ≠ 0)
    && decide (15000 * s.timing.standby ≤ q.idleTime s.now)

/-- R19, R77: sleep is issued. -/
def State.sleepPort (s : State) (p : PortId) : State := if s.sleepDue p then s.issue p .sleep else s

/-- R18, R19. -/
def loadTiming (e : TimingEntry) (s : State) : State × Result :=
  State.accept ((numbers 16).foldl State.sleepPort { s with timing := timingOf e })

def execLoadTiming (h : CmdHdr) (entry : TimingEntry) (s : State) : Host.Outcome State Fault Refusal :=
  .next (State.command h 48 .settle (loadTiming entry) s)

/-! ## SET SERIAL and DIGEST RESET (R20, R21) -/

def padOf (c : Byte) : Option Pad :=
  match c.toNat with
  | 0 => some .zero
  | 1 => some .space
  | _ => none

/-- R20. -/
def setSerial (job : Byte) (base : Word) (step : Half) (width pad : Byte) (s : State) : State × Result :=
  withJob job s fun j =>
    let w := width.toNat
    if (s.job j).state ≠ .opened then s.refuse .state
    else if w < 1 ∨ 9 < w then s.refuse (.invalid 1)
    else if step.toNat < 1 ∨ 1000 < step.toNat then s.refuse (.invalid 2)
    else if 10 ^ w ≤ base.toNat then s.refuse (.invalid 3)
    else match padOf pad with
      | none => s.refuse (.invalid 4)
      | some pd =>
        if (s.job j).template.any fun t => (s.template t).narrower w then s.refuse (.invalid 5)
        else State.accept (s.modJob j fun x =>
          { x with
            serialBase := base.toNat, serialStep := step.toNat, serialWidth := w, serialPad := pd
            serialNext := base.toNat })

def execSetSerial (h : CmdHdr) (job : Byte) (base : Word) (step : Half) (width pad : Byte) (s : State) :
    Host.Outcome State Fault Refusal :=
  .next (State.command h 24 .post (setSerial job base step width pad) s)

/-- R21. -/
def digestReset (job : Byte) (s : State) : State × Result :=
  withJob job s fun j =>
    if (s.job j).state ≠ .opened then s.refuse .state
    else State.accept (s.modJob j fun x => { x with digest := .empty })

def execDigestReset (h : CmdHdr) (job : Byte) (s : State) : Host.Outcome State Fault Refusal :=
  .next (State.command h 8 .post (digestReset job) s)

end Sys2Proof.Machine
end

