-- ==== Sys2Proof/Machine/TimerEvents.lean ====
section
/-! DEFINITION. The ports' timers: answer timeouts, NOT_READY intervals, pauses, endings, standby (R71 to R73, R77). The
row of an expiry brings the clock up to the timer's due time (log 1). -/

namespace Sys2Proof.Machine

/-- A command in flight, not ended. -/
def Port.running (q : Port) : Bool := q.cmd.isSome && !q.ending

/-- COMMAND_TIMEOUT: the answer timeout has run out (R70, R71). A command that waited for the link counts as issued
(log 5). -/
def State.commandTimeout (s : State) (p : PortId) : State := (s.until (s.port p).answerDue).timedOut p

def execCommandTimeout (port : PortId) (s : State) : Host.Outcome State Fault Refusal :=
  let t := if (s.port port).afterReset.isSome then s.modPort port (Port.linkBack s.now s.timing) else s
  let q := t.port port
  .next (s.eventIf (q.running && !q.paused && q.reissueAt.isNone) fun _ => t.commandTimeout port)

/-- ENDING_TIMEOUT: no answer to the ended command: the link is reset and the command cleared (R72). -/
def execEndingTimeout (port : PortId) (s : State) : Host.Outcome State Fault Refusal :=
  .next (s.eventIf (s.port port).ending fun s => (s.until (s.port port).endingDue).modPort port Port.linkReset)

/-- R71: the time since the first issue has reached the class timeout as it stands in the table. -/
def State.notReadySpent (s : State) (p : PortId) : Bool :=
  let q := s.port p
  match q.cmd, q.firstIssue with
  | some c, some t => decide (s.timing.timeout c.cls ≤ s.now - t)
  | _, _ => false

/-- R71: the interval has passed: the command is reissued, or taken as TIMEOUT. The verify engine's running CRC and
sectors received stand (log 42). -/
def State.notReadyReissue (s : State) (p : PortId) : State :=
  let s := s.until (s.port p).reissueAt
  if s.notReadySpent p then s.timedOut p else s.modPort p (Port.reissue s.now s.timing)

def execNotReadyReissue (port : PortId) (s : State) : Host.Outcome State Fault Refusal :=
  .next (s.eventIf (s.port port).reissueAt.isSome fun s => s.notReadyReissue port)

/-- A command with a data phase: WRITE or READ (R73). -/
def Port.dataPhase (q : Port) : Bool :=
  q.running && q.reissueAt.isNone && q.cmd.any fun c => decide (c.cls = .write ∨ c.cls = .read)

/-- R73: the answer timeout is held and the pause is timed. -/
def Port.pause (now : Nat) (t : Timing) (q : Port) : Port :=
  { q with
    paused := true, answerHeld := q.answerDue.map fun d => d - now, answerDue := none
    pauseDue := some (now + tenths t.pause) }

def execDataPhasePause (port : PortId) (s : State) : Host.Outcome State Fault Refusal :=
  .next (s.quietIf ((s.port port).dataPhase && !(s.port port).paused) fun s =>
    s.modPort port (Port.pause s.now s.timing))

/-- R73: the answer timeout restarts with the time it held. -/
def Port.unpause (now : Nat) (q : Port) : Port :=
  { q with paused := false, pauseDue := none, answerDue := q.answerHeld.map fun d => now + d, answerHeld := none }

def execDataPhaseResume (port : PortId) (s : State) : Host.Outcome State Fault Refusal :=
  .next (s.quietIf (s.port port).paused fun s => s.modPort port (Port.unpause s.now))

/-- PAUSE_LIMIT_EXPIRY: the pause is taken as TIMEOUT of the command (R73). -/
def execPauseLimitExpiry (port : PortId) (s : State) : Host.Outcome State Fault Refusal :=
  .next (s.eventIf (s.port port).paused fun s => (s.until (s.port port).pauseDue).timedOut port)

/-- STANDBY_INTERVAL_REACHED: sleep is issued (R77). -/
def execStandbyIntervalReached (port : PortId) (s : State) : Host.Outcome State Fault Refusal :=
  let due := (s.port port).idleSince + 15000 * s.timing.standby
  .next (s.eventIf (decide ((s.port port).state = .idle) && !(s.port port).busy && decide (s.timing.standby ≠ 0))
    fun s => (s.until (some due)).sleepPort port)

end Sys2Proof.Machine
end

