-- ==== Sys2Proof/Machine/TransportCommands.lean ====
section
/-! DEFINITION. TRANSPORT HOME, TRANSPORT PAUSE, TRANSPORT RESUME and HOST MOVE (R133, R135, R136, R142). -/

namespace Sys2Proof.Machine

/-- Homing must arrive within 20.0 s (R133). -/
def homingTime : Nat := 20000

/-- R133: transport enters HOMING and the arm is commanded home. -/
def State.home (s : State) : State :=
  (s.modTransport fun t =>
    { t with
      state := .homing, pausePending := false, cause := none, station := none
      homingDue := some (s.now + homingTime) }).modLines fun l => { l with arm := some .home }

/-- R133. -/
def transportHome (s : State) : State × Result :=
  match s.transport.state with
  | .unhomed | .fault => State.accept s.home
  | .paused => if s.transport.move.isSome then s.refuse .busy else State.accept s.home
  | .ready | .homing => s.refuse .state

def execTransportHome (h : CmdHdr) (s : State) : Host.Outcome State Fault Refusal :=
  .next (State.command h 4 .settle transportHome s)

/-- R135. -/
def transportPause (s : State) : State × Result :=
  match s.transport.state with
  | .ready =>
    if s.transport.move.isSome then State.accept (s.modTransport fun t => { t with pausePending := true })
    else State.accept (s.modTransport fun t => { t with state := .paused })
  | .paused => s.accept
  | .unhomed | .homing | .fault => s.refuse .state

def execTransportPause (h : CmdHdr) (s : State) : Host.Outcome State Fault Refusal :=
  .next (State.command h 4 .settle transportPause s)

/-- R136: READY from PAUSED or FAULT; the gripper is read when no move is in progress; leaving FAULT releases the FEED
ports held (R146). -/
def State.resume (s : State) : State :=
  let fault := decide (s.transport.state = .fault)
  let s := s.modTransport fun t =>
    { t with
      state := .ready, cause := none, station := none, pausePending := false
      held := if fault then [] else t.held }
  if s.transport.move.isSome then s else s.readGripper

/-- R136. -/
def transportResume (s : State) : State × Result :=
  match s.transport.state with
  | .ready => State.accept (s.modTransport fun t => { t with pausePending := false })
  | .paused | .fault => State.accept s.resume
  | .unhomed | .homing => s.refuse .state

def execTransportResume (h : CmdHdr) (s : State) : Host.Outcome State Fault Refusal :=
  .next (State.command h 4 .settle transportResume s)

/-- R142: a destination is a station other than a tray. -/
def moveDest (c : Byte) : Option Station :=
  match stationOf c.toNat with
  | some (.tray _) | none => none
  | some st => some st

/-- R142. -/
def hostMove (source dest : Byte) (s : State) : State × Result :=
  if s.transport.state ≠ .paused ∧ s.transport.state ≠ .fault then s.refuse .state
  else match placeOf source.toNat, moveDest dest with
    | none, _ => s.refuse (.invalid 0)
    | _, none => s.refuse (.invalid 1)
    | some p, some st =>
      match s.disc p with
      | none => s.refuse (.invalid 0)
      | some d =>
        if !s.mayArrive d st then s.refuse (.invalid 1)
        else if 2 ≤ (s.transport.queue.filter fun r => r.kind.isHost).length then s.refuse .noSpace
        else State.accept (s.createRequest (.host p st d.tag))

def execHostMove (h : CmdHdr) (source dest : Byte) (s : State) : Host.Outcome State Fault Refusal :=
  .next (State.command h 12 .settle (hostMove source dest) s)

end Sys2Proof.Machine
end

