-- ==== Sys2Proof/Machine/TxEvents.lean ====
section
/-! DEFINITION. Frames leaving the transmitter: ANSWER_SENT, CREDIT_SENT, NOTICE_SENT, REPORT_SENT (R30, R172, R175,
R187, R194). The entry that leaves is the head of the outbound queue. -/

namespace Sys2Proof.Machine

/-- The RESPONSE payload (11.3); an index that its byte does not hold is a free value (log 40). -/
def responsePayload (r : Result) : List Byte :=
  let index := match r with
    | .invalid i => if i < 256 then byteOf i else Config.wideIndex i
    | _ => 0
  let value := match r with
    | .ok v => v
    | _ => 0
  [byteOf r.code, index] ++ halfBytes value

/-- The frames of a command's answer: READBACK frames in their order, then the RESPONSE (R187, 11.3). -/
def AnswerEntry.frames (a : AnswerEntry) : List OutFrame :=
  (a.readbacks.zipIdx.map fun (d, i) => ⟨7, 0, a.tag, halfBytes (halfOf i) ++ [0, 0] ++ d⟩)
    ++ [⟨3, 0, a.tag, responsePayload a.result⟩]

/-- The CREDIT frame of a job as it stands (R30, 11.3). -/
def creditFrame (j : JobId) (p : Pass) : OutFrame :=
  ⟨4, byteOf j.val, 0, [p.number.extractLsb' 0 8, 0] ++ halfBytes p.comp.credits⟩

/-- The NOTICE frame of a class's highest pair (R172, 11.3). -/
def noticeFrame (c : CauseClass) (n : Notice) (count : Nat) : OutFrame :=
  ⟨5, byteOf c.code, 0, [byteOf n.cause, byteOf n.objectCode, byteOf count, 0]⟩

/-- The REPORT frame of the head report (R175, 11.3). -/
def reportFrame (r : Report) (count : Nat) : OutFrame := ⟨6, byteOf count, 0, r.bytes⟩

/-- The header, payload and frame check of an outbound frame as sent (11, 11.1). -/
def OutFrame.bytes (f : OutFrame) : List Byte :=
  let b := [f.kind, f.object] ++ halfBytes f.tag ++ halfBytes (halfOf f.payload.length) ++ [0, 0] ++ f.payload
  b ++ wordBytes (crc b)

/-- The head entry leaves the queue. -/
def State.popOut (s : State) : State := s.modLink fun l => { l with queue := l.queue.tail }

/-- The frames that have left (log 12). -/
def State.sent (s : State) (fs : List OutFrame) : State := s.modLines fun l => { l with frames := fs }

/-- R187, R189, R190: a command's answer leaves whole; with PART RESET's the rest of the queue is discarded and the reset
falls due. -/
def State.sendAnswer (s : State) : State :=
  match s.link.queue.head? with
  | some (.answer a) =>
    (s.popOut.sent a.frames).modLink fun l => if a.reset then { l with stage := .answered, queue := [] } else l
  | _ => s

/-- R30: a CREDIT frame carries what C is as it leaves. -/
def State.sendCredit (s : State) : State :=
  match s.link.queue.head? with
  | some (.credit j) =>
    match s.pass j with
    | some p => s.popOut.sent [creditFrame j p]
    | none => s.popOut
  | _ => s

/-- R172: the highest pair leaves and becomes outstanding; a class with nothing to send drops its entry. -/
def State.sendNotice (s : State) : State :=
  match s.link.queue.head? with
  | some (.notice c) =>
    let n := s.notices.get c
    match n.set.head?, n.outstanding with
    | some x, none => (s.popOut.sent [noticeFrame c x n.set.length]).modNotices fun y => y.put c (y.get c).send
    | _, _ => s.popOut
  | _ => s

/-- R175: the head report leaves and becomes outstanding. -/
def State.sendReport (s : State) : State :=
  match s.link.queue.head? with
  | some .report =>
    match s.notices.reports.head?, s.notices.reportOut with
    | some r, false =>
      (s.popOut.sent [reportFrame r s.notices.reports.length]).modNotices fun n => { n with reportOut := true }
    | _, _ => s.popOut
  | _ => s

def execAnswerSent (s : State) : Host.Outcome State Fault Refusal := .next (s.quietIf true State.sendAnswer)

def execCreditSent (s : State) : Host.Outcome State Fault Refusal := .next (s.quietIf true State.sendCredit)

def execNoticeSent (s : State) : Host.Outcome State Fault Refusal := .next (s.quietIf true State.sendNotice)

def execReportSent (s : State) : Host.Outcome State Fault Refusal := .next (s.quietIf true State.sendReport)

end Sys2Proof.Machine
end

