-- ==== Sys2Proof/Machine/Dispatch.lean ====
section
/-! DEFINITION. What each row does, everything but the queue of waiting rows: one arm per constructor. -/

namespace Sys2Proof.Machine

/-- The effect of a row (spec/opcode_table.json). -/
def exec (i : Instr) (s : State) : Host.Outcome State Fault Refusal :=
  match i with
  | .powerOn => Sys2Proof.Machine.execPowerOn s
  | .resetPin => Sys2Proof.Machine.execResetPin s
  | .resetRelease => Sys2Proof.Machine.execResetRelease s
  | .jobOpen h job ring => Sys2Proof.Machine.execJobOpen h job ring s
  | .setJob h job prefill lag target bin profile template => Sys2Proof.Machine.execSetJob h job prefill lag target bin profile template s
  | .jobRun h job => Sys2Proof.Machine.execJobRun h job s
  | .jobDrain h job => Sys2Proof.Machine.execJobDrain h job s
  | .jobHalt h job => Sys2Proof.Machine.execJobHalt h job s
  | .jobClose h job => Sys2Proof.Machine.execJobClose h job s
  | .loadMap h job extents => Sys2Proof.Machine.execLoadMap h job extents s
  | .loadProfile h profile entry => Sys2Proof.Machine.execLoadProfile h profile entry s
  | .assignPort h port job => Sys2Proof.Machine.execAssignPort h port job s
  | .loadTiming h entry => Sys2Proof.Machine.execLoadTiming h entry s
  | .setSerial h job base step width pad => Sys2Proof.Machine.execSetSerial h job base step width pad s
  | .digestReset h job => Sys2Proof.Machine.execDigestReset h job s
  | .passStart h job => Sys2Proof.Machine.execPassStart h job s
  | .passAbort h job => Sys2Proof.Machine.execPassAbort h job s
  | .portReset h port => Sys2Proof.Machine.execPortReset h port s
  | .portService h port => Sys2Proof.Machine.execPortService h port s
  | .transportHome h => Sys2Proof.Machine.execTransportHome h s
  | .transportPause h => Sys2Proof.Machine.execTransportPause h s
  | .transportResume h => Sys2Proof.Machine.execTransportResume h s
  | .hostMove h source dest => Sys2Proof.Machine.execHostMove h source dest s
  | .loadTemplate h template offset chunk => Sys2Proof.Machine.execLoadTemplate h template offset chunk s
  | .setTemplate h template inner outer fields => Sys2Proof.Machine.execSetTemplate h template inner outer fields s
  | .loadGlyphs h glyphs => Sys2Proof.Machine.execLoadGlyphs h glyphs s
  | .ribbonLoad h count => Sys2Proof.Machine.execRibbonLoad h count s
  | .printerResume h => Sys2Proof.Machine.execPrinterResume h s
  | .ackNotice h cls cause obj => Sys2Proof.Machine.execAckNotice h cls cause obj s
  | .faultClear h job => Sys2Proof.Machine.execFaultClear h job s
  | .read h args => Sys2Proof.Machine.execRead h args s
  | .partReset h => Sys2Proof.Machine.execPartReset h s
  | .unknownCommand h => Sys2Proof.Machine.execUnknownCommand h s
  | .commandDropped => Sys2Proof.Machine.execCommandDropped s
  | .otherKindFrame kind => Sys2Proof.Machine.execOtherKindFrame kind s
  | .imageFrame job payload => Sys2Proof.Machine.execImageFrame job payload s
  | .badFrame => Sys2Proof.Machine.execBadFrame s
  | .huntGoodFrame => Sys2Proof.Machine.execHuntGoodFrame s
  | .frameDuringReset => Sys2Proof.Machine.execFrameDuringReset s
  | .laneSignalLoss lane => Sys2Proof.Machine.execLaneSignalLoss lane s
  | .answerSent => Sys2Proof.Machine.execAnswerSent s
  | .resetPerformed => Sys2Proof.Machine.execResetPerformed s
  | .creditSent => Sys2Proof.Machine.execCreditSent s
  | .noticeSent => Sys2Proof.Machine.execNoticeSent s
  | .reportSent => Sys2Proof.Machine.execReportSent s
  | .fillSector job => Sys2Proof.Machine.execFillSector job s
  | .linkUp port => Sys2Proof.Machine.execLinkUp port s
  | .linkDown port => Sys2Proof.Machine.execLinkDown port s
  | .identifyAnswer port answer info => Sys2Proof.Machine.execIdentifyAnswer port answer info s
  | .trayAnswer port answer => Sys2Proof.Machine.execTrayAnswer port answer s
  | .sleepAnswer port answer => Sys2Proof.Machine.execSleepAnswer port answer s
  | .wakeAnswer port answer => Sys2Proof.Machine.execWakeAnswer port answer s
  | .mediaCheckAnswer port answer => Sys2Proof.Machine.execMediaCheckAnswer port answer s
  | .writeAnswer port answer => Sys2Proof.Machine.execWriteAnswer port answer s
  | .syncAnswer port answer => Sys2Proof.Machine.execSyncAnswer port answer s
  | .finaliseAnswer port answer => Sys2Proof.Machine.execFinaliseAnswer port answer s
  | .readSector port data => Sys2Proof.Machine.execReadSector port data s
  | .readAnswer port answer => Sys2Proof.Machine.execReadAnswer port answer s
  | .endedCommandAnswer port answer => Sys2Proof.Machine.execEndedCommandAnswer port answer s
  | .endingTimeout port => Sys2Proof.Machine.execEndingTimeout port s
  | .commandTimeout port => Sys2Proof.Machine.execCommandTimeout port s
  | .notReadyReissue port => Sys2Proof.Machine.execNotReadyReissue port s
  | .dataPhasePause port => Sys2Proof.Machine.execDataPhasePause port s
  | .dataPhaseResume port => Sys2Proof.Machine.execDataPhaseResume port s
  | .pauseLimitExpiry port => Sys2Proof.Machine.execPauseLimitExpiry port s
  | .standbyIntervalReached port => Sys2Proof.Machine.execStandbyIntervalReached port s
  | .armArrived => Sys2Proof.Machine.execArmArrived s
  | .armStalled => Sys2Proof.Machine.execArmStalled s
  | .travelTimeout => Sys2Proof.Machine.execTravelTimeout s
  | .homingTimeout => Sys2Proof.Machine.execHomingTimeout s
  | .gripDone => Sys2Proof.Machine.execGripDone s
  | .gripTimeout => Sys2Proof.Machine.execGripTimeout s
  | .releaseDone => Sys2Proof.Machine.execReleaseDone s
  | .releaseTimeout => Sys2Proof.Machine.execReleaseTimeout s
  | .gripperSensorChange sensor level => Sys2Proof.Machine.execGripperSensorChange sensor level s
  | .inputBinSensorChange bin empty => Sys2Proof.Machine.execInputBinSensorChange bin empty s
  | .fullSensorChange bin full => Sys2Proof.Machine.execFullSensorChange bin full s
  | .placeSensorChange place present => Sys2Proof.Machine.execPlaceSensorChange place present s
  | .printerReady => Sys2Proof.Machine.execPrinterReady s
  | .printRowSent => Sys2Proof.Machine.execPrintRowSent s
  | .printerDone => Sys2Proof.Machine.execPrinterDone s
  | .printerFaultReport => Sys2Proof.Machine.execPrinterFaultReport s
  | .printTimerExpiry => Sys2Proof.Machine.execPrintTimerExpiry s
  | .writeSectorTransferred port => Sys2Proof.Machine.execWriteSectorTransferred port s

end Sys2Proof.Machine
end

