-- ==== Sys2Proof/Machine/Step.lean ====
section
/-! DEFINITION. One step: the row at the front of the queue, or a tick of the model's clock (log 13, log 1). -/

namespace Sys2Proof.Machine

/-- Take the row at the front of the queue; with none waiting a millisecond passes (log 1, log 13). -/
def step (s : State) : Host.Outcome State Fault Refusal :=
  match s.pending with
  | [] => .next { s with now := s.now + 1 }
  | i :: rest => exec i { s with pending := rest }

/-- The row that a word spells, put at the front of the queue. No row has bits, so no word spells one (98_reader). -/
def State.withFetchWord (s : State) (nbits w : Nat) : State :=
  match decodeTableWord nbits w with
  | none => s
  | some i => { s with pending := i :: s.pending }

end Sys2Proof.Machine
end

