-- ==== Sys2Proof/Machine/Receiver.lean ====
section
/-! DEFINITION. How the receiver judges an inbound frame, and which row its arrival is (R181, R185, R189, R191). -/

namespace Sys2Proof.Machine

/-- An inbound frame from its start delimiter to its frame check, as the lanes delivered it (10.1, 11.1). -/
structure InFrame where
  kind : Byte
  object : Byte
  tag : Half
  /-- The payload length of the header. -/
  length : Nat
  reserved : Half
  /-- The bytes received after the header, the frame check apart. -/
  payload : List Byte
  check : Word
  /-- The lanes delivered a symbol that is not data, or a start delimiter before the last byte. -/
  broken : Bool
  deriving DecidableEq, Repr

/-- The bytes under the frame check: header and payload (11, 11.1). -/
def InFrame.covered (f : InFrame) : List Byte :=
  [f.kind, f.object] ++ halfBytes f.tag ++ halfBytes (halfOf f.length) ++ halfBytes f.reserved ++ f.payload

/-- R181: a good frame. -/
def InFrame.good (f : InFrame) : Bool :=
  !f.broken && decide (f.length ≤ Config.maxPayload) && decide (f.payload.length = f.length)
    && decide (crc f.covered = f.check)

/-- The row that the arrival of a frame is (R182, R183, R185, R189). -/
def arrivalRow (l : Link) (f : InFrame) : Instr :=
  if l.stage ≠ .none then .frameDuringReset
  else if !f.good then .badFrame
  else if l.receiver = .hunt then .huntGoodFrame
  else match f.kind.toNat with
    | 1 => .imageFrame f.object f.payload
    | 2 =>
      if Config.answerRoom ≤ (l.queue.filter fun e => match e with
          | .answer _ => true
          | _ => false).length then .commandDropped
      else decodeCommand f.tag f.payload
    | _ => .otherKindFrame f.kind

end Sys2Proof.Machine
end

