-- ==== Sys2Proof/WellFormed.lean ====
section
/-! DEFINITION. Which rows can stand for an operation or event of the part: operands within what a frame can carry or
a drive can report. -/

namespace Sys2Proof

/-- A command frame's payload is at most 32,800 bytes, or the frame is bad (R181). -/
def CmdHdr.wf (h : CmdHdr) : Bool := decide (h.len ≤ Config.maxPayload)

/-- A list's entry count is two bytes (R192). -/
def countFits (n : Nat) : Bool := decide (n < 65536)

/-- A drive's LBA lies on the disc (R116: 0 to 33,554,431). -/
def Answer.wf : Answer → Bool
  | .mediaError (some l) => decide (l < Config.maxImage)
  | _ => true

/-- A row whose operands a frame, a drive or a line can bring. -/
def Instr.wf : Instr → Bool
  | .jobOpen h _ _ | .setJob h _ _ _ _ _ _ _ | .jobRun h _ | .jobDrain h _ | .jobHalt h _ | .jobClose h _
  | .loadProfile h _ _ | .assignPort h _ _ | .loadTiming h _ | .setSerial h _ _ _ _ _ | .digestReset h _
  | .passStart h _ | .passAbort h _ | .portReset h _ | .portService h _
  | .transportHome h | .transportPause h | .transportResume h | .hostMove h _ _
  | .loadGlyphs h _ | .ribbonLoad h _ | .printerResume h | .ackNotice h _ _ _ | .faultClear h _
  | .read h _ | .partReset h | .unknownCommand h => h.wf
  | .loadMap h _ es => h.wf && countFits es.length
  | .loadTemplate h _ _ chunk => h.wf && countFits chunk.length
  | .setTemplate h _ _ _ fs => h.wf && countFits fs.length
  | .otherKindFrame k => decide (k ≠ 1 ∧ k ≠ 2)
  | .imageFrame _ payload => decide (payload.length ≤ Config.maxPayload)
  | .identifyAnswer _ a _ | .trayAnswer _ a | .sleepAnswer _ a | .wakeAnswer _ a | .mediaCheckAnswer _ a
  | .writeAnswer _ a | .syncAnswer _ a | .finaliseAnswer _ a | .readAnswer _ a | .endedCommandAnswer _ a => a.wf
  | .readSector _ data => decide (data.length = Config.sectorBytes)
  | .powerOn | .resetPin | .resetRelease | .commandDropped | .badFrame | .huntGoodFrame | .frameDuringReset
  | .laneSignalLoss _ | .answerSent | .resetPerformed | .creditSent | .noticeSent | .reportSent
  | .fillSector _ | .linkUp _ | .linkDown _ | .endingTimeout _ | .commandTimeout _ | .notReadyReissue _
  | .dataPhasePause _ | .dataPhaseResume _ | .pauseLimitExpiry _ | .standbyIntervalReached _
  | .armArrived | .armStalled | .travelTimeout | .homingTimeout | .gripDone | .gripTimeout | .releaseDone
  | .releaseTimeout | .gripperSensorChange _ _ | .inputBinSensorChange _ _ | .fullSensorChange _ _
  | .placeSensorChange _ _ | .printerReady | .printRowSent | .printerDone | .printerFaultReport
  | .printTimerExpiry | .writeSectorTransferred _ => true

/-! ## What a command frame must be -/

/-- The tag and payload length of a command row's frame. -/
def Instr.header : Instr → Option CmdHdr
  | .jobOpen h _ _ | .setJob h _ _ _ _ _ _ _ | .jobRun h _ | .jobDrain h _ | .jobHalt h _ | .jobClose h _
  | .loadMap h _ _ | .loadProfile h _ _ | .assignPort h _ _ | .loadTiming h _ | .setSerial h _ _ _ _ _
  | .digestReset h _ | .passStart h _ | .passAbort h _ | .portReset h _ | .portService h _
  | .transportHome h | .transportPause h | .transportResume h | .hostMove h _ _
  | .loadTemplate h _ _ _ | .setTemplate h _ _ _ _ | .loadGlyphs h _ | .ribbonLoad h _ | .printerResume h
  | .ackNotice h _ _ _ | .faultClear h _ | .read h _ | .partReset h | .unknownCommand h => some h
  | _ => none

/-- The payload length a command requires, for a list from its count (R186, R192); none for a row with no command
code. -/
def Instr.requiredLength : Instr → Option Nat
  | .transportHome _ | .transportPause _ | .transportResume _ | .printerResume _ | .partReset _ => some 4
  | .jobRun _ _ | .jobDrain _ _ | .jobHalt _ _ | .jobClose _ _ | .digestReset _ _ | .passStart _ _ | .passAbort _ _
  | .portReset _ _ | .portService _ _ | .ribbonLoad _ _ | .faultClear _ _ => some 8
  | .jobOpen _ _ _ | .assignPort _ _ _ | .hostMove _ _ _ => some 12
  | .ackNotice _ _ _ _ => some 16
  | .loadProfile _ _ _ | .setSerial _ _ _ _ _ _ | .read _ _ => some 24
  | .setJob _ _ _ _ _ _ _ _ => some 32
  | .loadTiming _ _ => some 48
  | .loadGlyphs _ _ => some 772
  | .loadMap _ _ es => some (12 + 8 * es.length)
  | .loadTemplate _ _ _ chunk => some (16 + chunk.length)
  | .setTemplate _ _ _ _ fs => some (20 + 24 * fs.length)
  | _ => none

end Sys2Proof
end

