-- ==== Sys2Proof/Safety.lean ====
section
/-! DEFINITION. What a state must keep: canonical image memory, room for reports, one tag per record; and what the end
of an event never touches. -/

namespace Sys2Proof.Machine

/-! ## Invariants -/

/-- Image memory is in its canonical form. -/
def State.memoryOk (s : State) : Prop := s.memory.wf = true

/-- R127: the reports in the queue and the reserved entry are at most 32. -/
def State.reportsOk (s : State) : Prop :=
  s.notices.reports.length + (if s.notices.reserved then 1 else 0) ≤ Config.reportRoom

/-- R115: no two records of the roster hold one tag. -/
def State.tagsOk (s : State) : Prop :=
  ∀ p q : Place, ∀ d e : Disc, s.disc p = some d → s.disc q = some e → d.tag = e.tag → p = q

/-- R185, R187: at most 8 answers wait, and of every other frame each at most once. -/
def State.queueOk (s : State) : Prop :=
  s.link.unsent ≤ Config.answerRoom ∧ (s.link.queue.filter fun e => !e.isAnswer).Nodup

/-- R171: each class's pending set stands strictly by rank, and holds pairs of its class alone. -/
def State.noticesOk (s : State) : Prop :=
  ∀ c : CauseClass, (s.notices.get c).set.Pairwise (fun x y => x.rank < y.rank) ∧
    ∀ x ∈ (s.notices.get c).set, x.cls = c

/-- R47, R48: an entry may stand before another in a wave: its port is lower, or the same and the entry has left the wave. -/
abbrev Member.before (m k : Member) : Prop := m.port < k.port ∨ (m.port = k.port ∧ m.live = false)

/-- R47, R48: a wave stands by port, of one port the entries that have left it first; it has at most 16 entries, and the
three counts are at most 16. -/
def State.wavesOk (s : State) : Prop :=
  ∀ (j : JobId) (p : Pass), s.pass j = some p → p.wave.Pairwise Member.before ∧ p.wave.length ≤ 16 ∧
    p.finished ≤ 16 ∧ p.cut ≤ 16 ∧ p.failed ≤ 16

/-! ## Words of the statements -/

/-- A command frame that arrives is taken: out of reset, no PART RESET under way, SYNCED, answer room (R185, R189). -/
abbrev State.takes (s : State) : Prop :=
  s.resetHeld = false ∧ s.link.stage = .none ∧ s.link.receiver = .synced ∧ s.link.unsent < Config.answerRoom

/-- `t` is `u` with an answer at the end of its outbound queue, behind it at most other blocks' frames (R185, R187). -/
def State.replies (u t : State) (a : AnswerEntry) : Prop :=
  ∃ rest : List OutEntry, (∀ e ∈ rest, e.isAnswer = false) ∧
    t = { u with link := { u.link with queue := u.link.queue ++ .answer a :: rest } }

/-- The answer OK of a command that returns no value. -/
def okTo (h : CmdHdr) : AnswerEntry := answerTo h (.ok 0)

/-- The drive at a port owes the answer to a command that has not been ended (R70, R72). -/
abbrev State.owes (s : State) (p : PortId) (c : DriveCmd) : Prop :=
  s.resetHeld = false ∧ (s.port p).cmd = some c ∧ (s.port p).ending = false ∧ (s.port p).reissueAt = none
    ∧ (s.port p).afterReset = none

/-- The port has taken an answer: its command is no longer in flight, the answer is its last outcome (R70). -/
def Port.took (q : Port) (c : DriveCmd) (a : Answer) : Port := { q.clearCmd with lastOutcome := some (c.cls, .answer a) }

/-- The row of the drive's answer to a command. -/
def answerRow (p : PortId) (a : Answer) (info : IdentifyInfo) : DriveCmd → Instr
  | .identify => .identifyAnswer p a info
  | .openTray | .closeTray => .trayAnswer p a
  | .sleep => .sleepAnswer p a
  | .mediaCheck _ => .mediaCheckAnswer p a
  | .writeSegment _ => .writeAnswer p a
  | .synchronise => .syncAnswer p a
  | .finalise => .finaliseAnswer p a
  | .readBlock _ _ => .readAnswer p a
  | .wake => .wakeAnswer p a

/-- The tag that the next record takes: the first value from the tag counter on that no record holds (R115). -/
def State.nextTag (s : State) (tag : Half) : Prop :=
  ∃ n : Nat, n < 23 ∧ tag = s.tagCounter + BitVec.ofNat 16 n ∧ (∀ p d, s.disc p = some d → d.tag ≠ tag) ∧
    ∀ k, k < n → ∃ p d, s.disc p = some d ∧ d.tag = s.tagCounter + BitVec.ofNat 16 k

/-- The extent at a pass's cursor (R25). -/
abbrev Pass.at (x : Job) (p : Pass) (e : Extent) : Prop := ∃ m i, x.map = some m ∧ p.comp.extent = some i ∧ m[i]? = some e

/-- The part has started: every block at its reset value but for the bin sensors that differ from their latches, each
latched, marked and raised (R132, R148, R149); `extra` is what else was raised. -/
def State.startedFrom (s t : State) (link : Link) (extra : List Notice) : Prop :=
  t = { State.reset with
    pending := s.pending, now := s.now, sensors := s.sensors, notices := t.notices, link := link
    transport := { Transport.reset with latched := s.sensors.bins, marks := s.sensors.bins.empty } } ∧
  (∀ c : CauseClass, (t.notices.get c).outstanding = none) ∧
  t.notices.reports = [] ∧ t.notices.reportOut = false ∧ t.notices.reserved = false ∧
  ∀ x : Notice, t.pendingPair x = true ↔
    x ∈ extra ∨ ∃ k : BinSensor, s.sensors.bins.get k = true ∧ x = k.notice true

/-- The rows that are frames taken whole (R181, R185). -/
def isGoodFrame : Instr → Bool
  | .commandDropped | .otherKindFrame _ | .imageFrame _ _ => true
  | i => i.header.isSome

/-- The object number of a command is beyond the last (R22). -/
def objectBeyond : Instr → Bool
  | .jobOpen _ j _ | .setJob _ j _ _ _ _ _ _ | .jobRun _ j | .jobDrain _ j | .jobHalt _ j | .jobClose _ j
  | .loadMap _ j _ | .setSerial _ j _ _ _ _ | .digestReset _ j | .passStart _ j | .passAbort _ j
  | .faultClear _ j => decide (4 ≤ j.toNat)
  | .assignPort _ p _ | .portReset _ p | .portService _ p => decide (16 ≤ p.toNat)
  | .loadProfile _ n _ | .loadTemplate _ n _ _ | .setTemplate _ n _ _ _ => decide (8 ≤ n.toNat)
  | _ => false

/-- The job a command names, and the states in which the command can be taken (1.2.1, R49). -/
def jobStates : Instr → Option (Byte × List JobState)
  | .jobOpen _ j _ => some (j, [.closed])
  | .setJob _ j _ _ _ _ _ _ | .loadMap _ j _ | .setSerial _ j _ _ _ _ | .digestReset _ j | .jobRun _ j
  | .jobClose _ j => some (j, [.opened])
  | .jobDrain _ j => some (j, [.running, .draining])
  | .jobHalt _ j => some (j, [.running, .draining, .halting])
  | .passStart _ j => some (j, [.running])
  | _ => none

/-! ## What the end of an event leaves (log 2) -/

/-- The fields of a job that its commands alone write, and serial next (R1). -/
structure JobTables where
  ring : Nat
  prefill : Nat
  lagLimit : Nat
  target : Nat
  bin : BinId
  profile : ProfileId
  template : Option TemplateId
  serialBase : Nat
  serialStep : Nat
  serialWidth : Nat
  serialPad : Pad
  serialNext : Nat
  passCounter : Half
  map : Option (List Extent)

def Job.tables (x : Job) : JobTables :=
  ⟨x.ring, x.prefill, x.lagLimit, x.target, x.bin, x.profile, x.template, x.serialBase, x.serialStep, x.serialWidth,
    x.serialPad, x.serialNext, x.passCounter, x.map⟩

/-- The link's counts and states, the outbound queue apart (R190). -/
structure LinkCounts where
  receiver : Receiver
  run : Nat
  consecBad : Nat
  good : Nat
  bad : Nat
  stray : Nat
  dropped : Nat
  firstSync : Bool
  stage : ResetStage

def Link.counts (l : Link) : LinkCounts :=
  ⟨l.receiver, l.run, l.consecBad, l.good, l.bad, l.stray, l.dropped, l.firstSync, l.stage⟩

/-- The ingress of a pass: its number and the composition state that only frames, fill and PASS START move (R24, R47). -/
structure Ingress where
  number : Half
  head : Nat
  extent : Option Nat
  frames : Nat
  framesInExtent : Nat
  blocksDone : Nat

def Pass.ingress (p : Pass) : Ingress :=
  ⟨p.number, p.comp.head, p.comp.extent, p.comp.frames, p.comp.framesInExtent, p.comp.blocksDone⟩

/-- The unsent answers, in their order (R187). -/
def Link.answers (l : Link) : List AnswerEntry :=
  l.queue.filterMap fun e => match e with
    | .answer a => some a
    | _ => none

/-- What no block changes at the end of an event. -/
structure Fixed where
  pending : List Instr
  now : Nat
  resetHeld : Bool
  tables : JobId → JobTables
  ingress : JobId → Option Ingress
  memory : ImageMemory
  profiles : Vector Profile 8
  assign : Vector (Option JobId) 16
  timing : Timing
  templates : Vector Template 8
  glyphs : Vector Glyph 16
  verifies : Vector (Option Verify) 16
  sensors : Sensors
  marks : Vector Bool 4
  latched : BinSensors
  printer : Printer
  tagCounter : Half
  frames : List OutFrame
  printLine : Option PrintItem
  driveLine : Vector (Option (Nat × Sector)) 16
  counts : LinkCounts
  answers : List AnswerEntry

def State.fixed (s : State) : Fixed :=
  ⟨s.pending, s.now, s.resetHeld, fun j => (s.job j).tables, fun j => (s.pass j).map Pass.ingress, s.memory,
    s.profiles, s.assign, s.timing, s.templates, s.glyphs, s.verifies, s.sensors, s.transport.marks,
    s.transport.latched, s.printer, s.tagCounter, s.lines.frames, s.lines.print, s.lines.drive, s.link.counts,
    s.link.answers⟩

end Sys2Proof.Machine
end

