-- ==== Sys2Proof/Certificates/Slice0/Obligations.lean ====
section
/-! DEFINITION. The statements for the provers. -/

section

open Sys2Proof Sys2Proof.Machine

/-! ## The step -/

/-- The step takes the row at the front of the queue and runs it on the state with the queue's rest. With no row waiting it is
the model's choice (log 1, log 13) that one millisecond passes and nothing else happens. -/
def Obligations.StepRunsTheFrontRow : Prop :=
  (∀ (i : Instr) (rest : List Instr) (s : State), s.pending = i :: rest → step s = exec i { s with pending := rest }) ∧
  (∀ s : State, s.pending = [] → step s = .next { s with now := s.now + 1 })

/-- The end of an event leaves `State.fixed` as the event's own effect left it: the rows that wait, the clock, the job
fields that commands alone write, pass numbers and ingress, image memory, the tables, the verify contexts, the sensor
levels, marks and latches, the printer, the tag counter, what has left on the lines, and the link's counts and answers. No
record comes, goes or moves, and each keeps its tag, job, port, grade, metrics and serial; causes are only added and reports
stand; the outbound queue only takes requests at its end. -/
def Obligations.EndOfEventFrame : Prop :=
  ∀ s0 s : State,
    let t := State.settle s0 s
    t.fixed = s.fixed ∧
    (∀ q d, s.disc q = some d → ∃ e, t.disc q = some e ∧ e.tag = d.tag ∧ e.job = d.job ∧ e.port = d.port ∧
      e.grade = d.grade ∧ e.metrics = d.metrics ∧ e.serial = d.serial ∧ e.void = d.void) ∧
    (∀ q, s.disc q = none → t.disc q = none) ∧ t.unreported = s.unreported ∧
    (∀ k, (t.notices.get k).outstanding = (s.notices.get k).outstanding ∧
      ∀ x ∈ (s.notices.get k).set, x ∈ (t.notices.get k).set) ∧
    t.notices.reports = s.notices.reports ∧ t.notices.reportOut = s.notices.reportOut ∧
    ∃ rest, t.link = { s.link with queue := s.link.queue ++ rest } ∧ ∀ e ∈ rest, e.isAnswer = false

/-! ## Reset -/

/-- The part right after power-on, field by field (R1, R15, R17, R18, R24, R47, R68, R95, R114, R115, R132, R153, R156,
R160, R169, R190). -/
def Obligations.ResetValues : Prop :=
  (∀ j : JobId, State.reset.job j = {
      state := .closed, ring := 0, prefill := 0, lagLimit := 0, target := 0, bin := 0, profile := 0, template := none
      serialBase := 0, serialStep := 1, serialWidth := 6, serialPad := .zero, serialNext := 0, digest := .empty
      passCounter := 0, counters := ⟨0, 0, 0, 0, 0, 0, 0⟩, lastPass := none, fault := none, map := none } ∧
    State.reset.pass j = none) ∧
  State.reset.freeSegments = 32768 ∧
  (∀ g : ProfileId, State.reset.profile g = {
      loaded := false, mode := .none, stride := 2, weight := 0, peakWarn := 0, peakFail := 0, meanWarn := 0
      meanFail := 0, dest := .o1, printMarginal := false }) ∧
  State.reset.timing = {
      probe := 50, tray := 100, check := 300, write := 40, sync := 1200, close := 3000, read := 200, wake := 300
      retry := 3, pause := 80, standby := 20 } ∧
  (∀ p : PortId, State.reset.assigned p = none ∧ State.reset.verify p = none ∧
    (State.reset.port p).state = .offline ∧ (State.reset.port p).link = false ∧ (State.reset.port p).hold = false ∧
    (State.reset.port p).resetting = true ∧ (State.reset.port p).errand = .none ∧
    (State.reset.port p).step = .none ∧ (State.reset.port p).cmd = none ∧ (State.reset.port p).retries = 0 ∧
    (State.reset.port p).ending = false ∧ (State.reset.port p).transferred = 0 ∧
    (State.reset.port p).paused = false ∧ (State.reset.port p).lastOutcome = none ∧
    (State.reset.port p).firstIssue = none ∧ (State.reset.port p).answerDue = none ∧
    (State.reset.port p).answerHeld = none ∧ (State.reset.port p).pauseDue = none ∧
    (State.reset.port p).endingDue = none ∧ (State.reset.port p).reissueAt = none ∧
    (State.reset.port p).afterReset = none ∧ (State.reset.port p).idleTime State.reset.now = 0) ∧
  (∀ p : Place, State.reset.disc p = none) ∧ State.reset.tagCounter = 0 ∧ State.reset.unreported = 0 ∧
  (∀ t : TemplateId, State.reset.template t = ⟨0, 511, []⟩ ∧ ∀ o, State.reset.memory.raster t o = 0) ∧
  (nth State.reset.glyphs 15 = Vector.replicate 24 0) ∧
  State.reset.transport.state = .unhomed ∧ State.reset.transport.cause = none ∧
  State.reset.transport.station = none ∧ State.reset.transport.pausePending = false ∧
  State.reset.transport.move = none ∧ State.reset.transport.queue = [] ∧ State.reset.transport.arrival = 0 ∧
  (∀ i : BinId, nth State.reset.transport.marks i = false) ∧ State.reset.transport.held = [] ∧
  State.reset.transport.shelfOrder = [] ∧ (∀ k : BinSensor, State.reset.transport.latched.get k = false) ∧
  State.reset.printer.state = .empty ∧ State.reset.printer.ribbon = 0 ∧ State.reset.printer.tag = none ∧
  State.reset.printer.timerDue = none ∧ State.reset.printer.rows = 0 ∧ State.reset.printer.lastWrap = none ∧
  (∀ c : CauseClass, State.reset.notices.get c = ⟨[], none⟩) ∧ State.reset.notices.reports = [] ∧
  State.reset.notices.reportOut = false ∧ State.reset.notices.reserved = false ∧
  State.reset.link.receiver = .hunt ∧ State.reset.link.run = 0 ∧ State.reset.link.consecBad = 0 ∧
  State.reset.link.good = 0 ∧ State.reset.link.bad = 0 ∧ State.reset.link.stray = 0 ∧
  State.reset.link.dropped = 0 ∧ State.reset.link.queue = []

/-- RESET_PIN puts every block at its reset value and holds it there; RESET_RELEASE and POWER_ON start the part: each bin
sensor that differs from its latch is latched and raises its cause where neither of its causes is pending, and moves its
bin's mark (R23, R132, R190; the mark is the model's choice, log 45). A RESET_RELEASE outside reset does nothing (log 4).
What no block holds stands as it is (log 30). -/
def Obligations.ResetPinAndPowerOn : Prop :=
  (∀ s : State, exec .resetPin s =
    .next { State.reset with pending := s.pending, now := s.now, resetHeld := true, sensors := s.sensors }) ∧
  (∀ s u : State, exec .resetPin s = .next u →
    ∃ t, exec .resetRelease u = .next t ∧ State.startedFrom s t Link.reset []) ∧
  (∀ s : State, s.resetHeld = false → exec .resetRelease s = .next s) ∧
  (∀ s : State, s.resetHeld = true →
    let differs := fun k : BinSensor => s.sensors.bins.get k ≠ s.transport.latched.get k
    let quiet := fun k : BinSensor => s.pendingPair (k.notice true) = false ∧ s.pendingPair (k.notice false) = false
    ∃ (t : State) (rest : List OutEntry), exec .resetRelease s = .next t ∧ t.resetHeld = false ∧
      (∀ k, (differs k → quiet k → t.transport.latched.get k = s.sensors.bins.get k) ∧
        (¬ quiet k → t.transport.latched.get k = s.transport.latched.get k) ∧
        (¬ differs k → t.transport.latched.get k = s.transport.latched.get k)) ∧
      (∀ i, (differs (.input i) → nth t.transport.marks i = s.sensors.bins.get (.input i)) ∧
        (¬ differs (.input i) → nth t.transport.marks i = nth s.transport.marks i)) ∧
      (∀ x, t.pendingPair x = true ↔
        s.pendingPair x = true ∨ ∃ k, differs k ∧ quiet k ∧ x = k.notice (s.sensors.bins.get k)) ∧
      (∀ c, (t.notices.get c).outstanding = (s.notices.get c).outstanding) ∧
      t.notices.reports = s.notices.reports ∧ t.notices.reportOut = s.notices.reportOut ∧
      t.notices.reserved = s.notices.reserved ∧
      (∀ e ∈ rest, e.isAnswer = false) ∧ t.link = { s.link with queue := s.link.queue ++ rest } ∧
      { t with
        resetHeld := true, notices := s.notices, link := s.link
        transport := { t.transport with latched := s.transport.latched, marks := s.transport.marks } } = s) ∧
  (∀ s : State, s.resetHeld = false → ∃ t, exec .powerOn s = .next t ∧ State.startedFrom s t Link.reset [])

/-! ## Frames and commands at the receiver -/

/-- R186: a command whose payload length is not the one it requires is refused INVALID with index 255 and changes nothing; an
unknown command code is answered UNKNOWN and changes nothing. -/
def Obligations.WrongLengthOrCodeIsRefused : Prop :=
  (∀ (c : Instr) (h : CmdHdr) (n : Nat) (s : State), c.header = some h → c.requiredLength = some n → h.len ≠ n →
    s.takes → ∃ t, exec c s = .next t ∧ State.replies s.countGood t ⟨h.tag, .invalid 255, [], false⟩) ∧
  (∀ (h : CmdHdr) (s : State), s.takes →
    ∃ t, exec (.unknownCommand h) s = .next t ∧ State.replies s.countGood t ⟨h.tag, .unknown, [], false⟩)

/-- R181, R182, R185, R189, R192: the row that a frame's arrival is. Between PART RESET and its reset it is none of the
others; a frame that the lanes broke, too long, of another length than its header's, or whose CRC differs from its frame
check is bad; a good one is only counted in HUNT; in SYNCED its kind tells an image, a command with its fields, or another
kind. A command that finds the answers of 8 commands unsent is discarded and counted as dropped. -/
def Obligations.FrameArrivesAsItsRow : Prop :=
  (∀ (l : Link) (f : InFrame),
    (l.stage ≠ .none → arrivalRow l f = .frameDuringReset) ∧
    (l.stage = .none → (f.broken = true ∨ 32800 < f.length ∨ f.payload.length ≠ f.length ∨
      crc ([f.kind, f.object] ++ halfBytes f.tag ++ halfBytes (halfOf f.length) ++ halfBytes f.reserved ++ f.payload) ≠
        f.check) → arrivalRow l f = .badFrame) ∧
    (l.stage = .none → f.broken = false → f.length ≤ 32800 → f.payload.length = f.length →
      crc ([f.kind, f.object] ++ halfBytes f.tag ++ halfBytes (halfOf f.length) ++ halfBytes f.reserved ++ f.payload) =
        f.check →
      (l.receiver = .hunt → arrivalRow l f = .huntGoodFrame) ∧
      (l.receiver = .synced → f.kind = 1 → arrivalRow l f = .imageFrame f.object f.payload) ∧
      (l.receiver = .synced → f.kind ≠ 1 → f.kind ≠ 2 → arrivalRow l f = .otherKindFrame f.kind) ∧
      (l.receiver = .synced → f.kind = 2 → 8 ≤ l.unsent → arrivalRow l f = .commandDropped) ∧
      (∀ (c : Instr) (h : CmdHdr), l.receiver = .synced → f.kind = 2 → l.unsent < 8 → c.wf = true →
        c.header = some h → h.tag = f.tag → encodeCommand c = some f.payload → h.len = f.payload.length →
        arrivalRow l f = c))) ∧
  ∀ (c : Instr) (s : State), (c.header.isSome ∨ c = .commandDropped) → s.resetHeld = false → s.link.stage = .none →
    s.link.receiver = .synced → Config.answerRoom ≤ s.link.unsent →
    exec c s = .next { s with link := { s.link with
      good := satInc max32 s.link.good, consecBad := 0, dropped := satInc max32 s.link.dropped } }

/-- R185, R189, R191: a frame of another kind is counted as good and does nothing else; between PART RESET and its reset every
inbound frame is discarded uncounted, and FRAME_DURING_RESET changes nothing. -/
def Obligations.FramesThatDoNothing : Prop :=
  (∀ (k : Byte) (s : State), s.resetHeld = false → s.link.stage = .none → s.link.receiver = .synced →
    exec (.otherKindFrame k) s = .next { s with link := { s.link with
      good := satInc max32 s.link.good, consecBad := 0 } }) ∧
  ((∀ s : State, exec .frameDuringReset s = .next s) ∧
  ∀ (c : Instr) (s : State), (isGoodFrame c = true ∨ c = .huntGoodFrame ∨ c = .badFrame) → s.link.stage ≠ .none →
    exec c s = .next s)

/-- R181 to R183: in HUNT a good frame of any kind is counted, lengthens the run and is not dispatched; a bad frame in HUNT
clears the run, in SYNCED it adds to the consecutive bad frames; a loss of lane signal in HUNT clears the run. -/
def Obligations.FramesAreCounted : Prop :=
  (∀ (c : Instr) (s : State), (isGoodFrame c = true ∨ c = .huntGoodFrame) → s.resetHeld = false →
    s.link.stage = .none → s.link.receiver = .hunt → s.link.run = 0 →
    exec c s = .next { s with link := { s.link with good := satInc max32 s.link.good, run := 1 } }) ∧
  (∀ s : State, s.resetHeld = false →
    (s.link.stage = .none → s.link.receiver = .hunt → exec .badFrame s = .next (State.settle s
      { s with link := { s.link with bad := satInc max32 s.link.bad, run := 0 } })) ∧
    (s.link.stage = .none → s.link.receiver = .synced → s.link.consecBad < 3 → exec .badFrame s = .next (State.settle s
      { s with link := { s.link with bad := satInc max32 s.link.bad, consecBad := s.link.consecBad + 1 } })) ∧
    (∀ lane, s.link.receiver = .hunt → exec (.laneSignalLoss lane) s = .next { s with link := { s.link with run := 0 } }))

/-- R182, R184: the second good frame in a row takes the receiver to SYNCED: RESET_DONE PIN at the first time, outstanding
notices cleared, CREDIT entries for the live passes and requests for every class with anything pending. -/
def Obligations.SecondGoodFrameEntersSynced : Prop :=
  ∀ (c : Instr) (s : State), (isGoodFrame c = true ∨ c = .huntGoodFrame) → s.resetHeld = false →
    s.link.stage = .none → s.link.receiver = .hunt → 1 ≤ s.link.run →
    ∃ rest, exec c s = .next { s with
        notices := (if s.link.firstSync then s.raise (.resetDone .pin) else s).notices.clearOutstanding
        link := { s.link with
          receiver := .synced, consecBad := 0, firstSync := false, good := satInc max32 s.link.good
          run := s.link.run + 1, queue := s.link.queue ++ rest } } ∧
      (∀ e ∈ rest, e.isAnswer = false) ∧
      (∀ j p, s.pass j = some p → p.live = true → .credit j ∈ s.link.queue ++ rest) ∧
      (∀ k, ((s.notices.get k).set ≠ [] ∨ (k = .system ∧ s.link.firstSync = true)) →
        .notice k ∈ s.link.queue ++ rest) ∧
      (s.notices.reports ≠ [] → .report ∈ s.link.queue ++ rest)

/-- R183: the fourth consecutive bad frame, or the loss of any lane's signal, takes the receiver from SYNCED to HUNT: every
live pass whose ingress is incomplete is aborted with LINK_LOST, other passes stand, NOTICE and REPORT entries are dropped,
answers and CREDIT entries stay in their order. -/
def Obligations.LinkLossAbortsIncompletePasses : Prop :=
  ∀ (c : Instr) (s : State), s.resetHeld = false → s.link.receiver = .synced →
    ((c = .badFrame ∧ s.link.stage = .none ∧ s.link.consecBad = 3) ∨ ∃ lane, c = .laneSignalLoss lane) →
    ∃ u : State, exec c s = .next (State.settle s u) ∧
      u.link.receiver = .hunt ∧ u.link.run = 0 ∧ u.link.good = s.link.good ∧
      u.link.bad = (if c = .badFrame then satInc max32 s.link.bad else s.link.bad) ∧
      u.link.queue = s.link.queue.filter (fun e => match e with
        | .notice _ | .report => false
        | .answer _ | .credit _ => true) ∧
      (∀ j p, s.pass j = some p → p.live = true → p.comp.head ≠ (s.job j).length →
        ∃ q, u.pass j = some q ∧ q.state = .aborted ∧ q.cause = some .linkLost ∧ q.number = p.number ∧
          q.comp.credits = p.comp.credits ∧ q.comp.head = p.comp.head) ∧
      (∀ j, (∀ p, s.pass j = some p → p.live = false ∨ p.comp.head = (s.job j).length) → u.pass j = s.pass j) ∧
      u.memory = s.memory ∧ u.printer = s.printer ∧ u.transport = s.transport ∧ u.profiles = s.profiles ∧
      u.notices.reports = s.notices.reports

/-- R176, R189, R190: PART RESET is answered OK behind the entries already queued; its answer carries the reset, and from then
on no frame is heard. RESET_PERFORMED, once that RESPONSE has left, is the reset of power-on with the receiver kept, and
raises RESET_DONE COMMAND. That a receiver in HUNT stays there, and without a first entry to SYNCED still to come, is the
model's choice (log 29); that the waiting rows, the clock and the sensor levels stand is the model's too (log 30), and so is that the
EMPTY marks of the input bins move with the bin sensors at the release (log 45). -/
def Obligations.PartResetIsTakenAndPerformed : Prop :=
  (∀ (h : CmdHdr) (s : State), s.takes → h.len = 4 → ∃ t, exec (.partReset h) s = .next t ∧
    State.replies { s.countGood with link := { s.countGood.link with stage := .taken } } t ⟨h.tag, .ok 0, [], true⟩) ∧
  (∀ s : State, s.resetHeld = false → s.link.stage = .answered → ∃ t, exec .resetPerformed s = .next t ∧
    State.startedFrom s t
      { Link.reset with receiver := s.link.receiver, firstSync := false, queue := t.link.queue }
      [.resetDone .command] ∧
    t.notices.system = ⟨[.resetDone .command], none⟩ ∧
    (s.link.receiver = .synced → t.link.queue.head? = some (.notice .system)) ∧
    ∀ e ∈ t.link.queue, e = .notice .system ∨ e = .notice .transport)

/-! ## The transmitter and the notice unit -/

/-- R30, R172, R175, R187: the head entry of the queue leaves as its frames; an answer's frames are its READBACKs and its
RESPONSE, a CREDIT carries C as it stands, a notice the highest pair, which becomes outstanding, a report the head report.
With PART RESET's RESPONSE the rest of the queue is discarded (R189, R190). The RESPONSE payload and the disc report are those
of 11.3 and R194 (an index above 255 is a free value, log 40). The latch of what left is the model's (log 12). -/
def Obligations.TransmitterSendsHeadEntry : Prop :=
  (∀ v, responsePayload (.ok v) = [0, 0] ++ halfBytes v) ∧ responsePayload .busy = [1, 0, 0, 0] ∧
  responsePayload .state = [2, 0, 0, 0] ∧ (∀ i, i < 256 → responsePayload (.invalid i) = [3, byteOf i, 0, 0]) ∧
  responsePayload .noSpace = [4, 0, 0, 0] ∧ responsePayload .unknown = [5, 0, 0, 0] ∧
  (∀ r : Report,
    let b := r.bytes
    let d := r.disc
    let flags := [d.job.isSome, d.port.isSome, d.pass.isSome, d.grade.isSome, d.metrics.isSome, d.serial.isSome,
      d.serial.isSome && d.void, d.cause.isSome, d.lba.isSome, r.loss.isSome, r.place.isSome]
    let code := fun (o : Option Nat) (absent : Nat) => byteOf (o.getD absent)
    b.length = 36 ∧ half b 0 = d.tag ∧ (∀ k, k < 16 → (half b 2).getLsbD k = flags.getD k false) ∧
    byteAt b 4 = code (d.job.map Fin.val) 255 ∧ byteAt b 5 = byteOf d.state.code ∧
    byteAt b 6 = code (r.bin.map fun o => (Station.out o).code) 255 ∧ byteAt b 7 = code (d.port.map Fin.val) 255 ∧
    half b 8 = d.pass.getD 0 ∧ byteAt b 10 = code (d.grade.map Grade.code) 0 ∧
    byteAt b 11 = code (d.cause.map FaultCause.code) 0 ∧
    (d.metrics = none → (b.drop 12).take 12 = List.replicate 12 0) ∧
    (∀ m, d.metrics = some m → half b 12 = halfOf m.peak ∧ half b 14 = halfOf m.mean ∧
      (m.blocks < 2 ^ 32 → word b 16 = BitVec.ofNat 32 m.blocks) ∧
      (m.sectors < 2 ^ 32 → word b 20 = BitVec.ofNat 32 m.sectors)) ∧
    (d.serial.getD 0 < 2 ^ 32 → word b 24 = BitVec.ofNat 32 (d.serial.getD 0)) ∧
    (d.lba.getD 0 < 2 ^ 32 → word b 28 = BitVec.ofNat 32 (d.lba.getD 0)) ∧
    byteAt b 32 = code (r.loss.map LossCause.code) 0 ∧ byteAt b 33 = code (r.place.map Place.code) 255 ∧
    half b 34 = 0) ∧
  ∀ (s : State) (q : List OutEntry), s.resetHeld = false →
    (∀ a, s.link.queue = .answer a :: q → exec .answerSent s = .next { s with
      link := { s.link with
        queue := if a.reset then [] else q, stage := if a.reset then .answered else s.link.stage }
      lines := { s.lines with frames :=
        (a.readbacks.zipIdx.map fun (d, i) => (⟨7, 0, a.tag, halfBytes (halfOf i) ++ [0, 0] ++ d⟩ : OutFrame)) ++
          [⟨3, 0, a.tag, responsePayload a.result⟩] } }) ∧
    (∀ j p, s.link.queue = .credit j :: q → s.pass j = some p → exec .creditSent s = .next { s with
      link := { s.link with queue := q }
      lines := { s.lines with frames :=
        [⟨4, byteOf j.val, 0, [p.number.extractLsb' 0 8, 0] ++ halfBytes p.comp.credits⟩] } }) ∧
    (∀ c x xs, s.link.queue = .notice c :: q → s.notices.get c = ⟨x :: xs, none⟩ → exec .noticeSent s = .next { s with
      link := { s.link with queue := q }
      notices := s.notices.put c ⟨x :: xs, some x⟩
      lines := { s.lines with frames :=
        [⟨5, byteOf c.code, 0, [byteOf x.cause, byteOf x.objectCode, byteOf (xs.length + 1), 0]⟩] } }) ∧
    (∀ c, s.link.queue = .notice c :: q → (s.notices.get c).set = [] → exec .noticeSent s = .next { s with
      link := { s.link with queue := q } }) ∧
    (∀ r rs, s.link.queue = .report :: q → s.notices.reports = r :: rs → s.notices.reportOut = false →
      exec .reportSent s = .next { s with
        link := { s.link with queue := q }
        notices := { s.notices with reportOut := true }
        lines := { s.lines with frames := [⟨6, byteOf (rs.length + 1), 0, r.bytes⟩] } })

/-- R170: a raise adds a pair that its set does not hold and leaves the set unchanged otherwise; a withdrawal removes a pair
that is pending and not outstanding. -/
def Obligations.RaiseAndWithdraw : Prop :=
  ∀ (c : NoticeClass) (x : Notice),
    (x ∈ c.set → c.raise x = c) ∧
    (x ∉ c.set → (c.raise x).outstanding = c.outstanding ∧ (c.raise x).set.length = c.set.length + 1 ∧
      ∀ y, y ∈ (c.raise x).set ↔ y = x ∨ y ∈ c.set) ∧
    (c.outstanding = some x → c.withdraw x = c) ∧
    (c.outstanding ≠ some x → (c.withdraw x).outstanding = c.outstanding ∧
      ∀ y, y ∈ (c.withdraw x).set ↔ y ∈ c.set ∧ y ≠ x)

/-- R173: an acknowledgement of no class, of a class with nothing outstanding or another cause, or of another object is
refused with index 0, 1 or 2, and changes nothing. -/
def Obligations.WrongAcknowledgementIsRefused : Prop :=
  ∀ (h : CmdHdr) (cls cause : Byte) (obj : Half) (s : State), s.takes → h.len = 16 →
    (6 ≤ cls.toNat → ∃ t, exec (.ackNotice h cls cause obj) s = .next t ∧
      State.replies s.countGood t ⟨h.tag, .invalid 0, [], false⟩) ∧
    (∀ c : CauseClass, cls.toNat = c.code →
      (∀ x, (s.notices.get c).outstanding = some x → cause.toNat ≠ x.cause) →
      ∃ t, exec (.ackNotice h cls cause obj) s = .next t ∧
        State.replies s.countGood t ⟨h.tag, .invalid 1, [], false⟩) ∧
    (∀ (c : CauseClass) (x : Notice), cls.toNat = c.code → (s.notices.get c).outstanding = some x →
      cause.toNat = x.cause → (obj.extractLsb' 0 8).toNat ≠ x.objectCode →
      ∃ t, exec (.ackNotice h cls cause obj) s = .next t ∧
        State.replies s.countGood t ⟨h.tag, .invalid 2, [], false⟩) ∧
    (cls.toNat = 5 → (s.notices.reports = [] ∨ s.notices.reportOut = false ∨ cause.toNat ≠ 1) →
      ∃ t, exec (.ackNotice h cls cause obj) s = .next t ∧
        State.replies s.countGood t ⟨h.tag, .invalid 1, [], false⟩) ∧
    (∀ r rs, cls.toNat = 5 → s.notices.reports = r :: rs → s.notices.reportOut = true → cause.toNat = 1 →
      obj ≠ r.disc.tag → ∃ t, exec (.ackNotice h cls cause obj) s = .next t ∧
        State.replies s.countGood t ⟨h.tag, .invalid 2, [], false⟩)

/-- R66, R174, R175: an acknowledgement removes the outstanding pair of its class, or the head report; of PASS ENDED or
ABORTED it frees the pass record, whose summary the job takes, and drops the job's waiting CREDIT entry. That of the object's
two bytes only the low one is read for a cause class is the model's choice (log 28). -/
def Obligations.AcknowledgementRemoves : Prop :=
  ∀ (h : CmdHdr) (cls cause : Byte) (obj : Half) (s : State), s.takes → h.len = 16 →
    (∀ (c : CauseClass) (x : Notice), cls.toNat = c.code → (s.notices.get c).outstanding = some x →
      cause.toNat = x.cause → (obj.extractLsb' 0 8).toNat = x.objectCode →
      (∀ j, x ≠ .passEnded j ∧ x ≠ .passAborted j) → (∀ (k : BinSensor) (v : Bool), x ≠ k.notice v) →
      exec (.ackNotice h cls cause obj) s = .next (State.settle s.countGood (State.answer { s.countGood with
        notices := s.notices.put c ⟨(s.notices.get c).set.filter (decide <| · ≠ x), none⟩ } (okTo h)))) ∧
    (∀ (x : Notice) (j : JobId) (p : Pass), cls.toNat = 1 → (x = .passEnded j ∨ x = .passAborted j) →
      s.notices.pass.outstanding = some x → cause.toNat = x.cause → (obj.extractLsb' 0 8).toNat = j.val →
      s.pass j = some p →
      exec (.ackNotice h cls cause obj) s = .next (State.settle s.countGood (State.answer { s.countGood with
        notices := { s.notices with pass := ⟨s.notices.pass.set.filter (decide <| · ≠ x), none⟩ }
        jobs := upd s.jobs j { s.job j with
          lastPass := some ⟨p.number, p.cause, p.wave.length, p.finished, p.cut, p.failed⟩ }
        passes := upd s.passes j none
        link := { s.countGood.link with queue := s.link.queue.filter fun e => decide (e ≠ .credit j) } } (okTo h)))) ∧
    (∀ (r : Report) (rs : List Report), cls.toNat = 5 → cause.toNat = 1 → s.notices.reports = r :: rs →
      s.notices.reportOut = true → obj = r.disc.tag →
      exec (.ackNotice h cls cause obj) s = .next (State.settle s.countGood (State.answer { s.countGood with
        notices := { s.notices with reports := rs, reportOut := false } } (okTo h))))

/-- R148, R174: the acknowledgement of a bin sensor's cause makes the sensor compare its live state with its latch; where
they differ it latches and raises the cause of the live state. With the sensor's other cause pending the pair is removed and
nothing else. That only the object's low byte is read is the model's choice (log 28). -/
def Obligations.SensorAcknowledgementCompares : Prop :=
  ∀ (h : CmdHdr) (cls cause : Byte) (obj : Half) (s : State) (k : BinSensor) (v : Bool), s.takes → h.len = 16 →
    cls.toNat = 3 → s.notices.transport.outstanding = some (k.notice v) → cause.toNat = (k.notice v).cause →
    (obj.extractLsb' 0 8).toNat = (k.notice v).objectCode →
    exec (.ackNotice h cls cause obj) s = .next (State.settle s.countGood (State.answer
      (if s.sensors.bins.get k = s.transport.latched.get k ∨ k.notice (!v) ∈ s.notices.transport.set then
          { s.countGood with notices := { s.notices with
            transport := ⟨s.notices.transport.set.filter (decide <| · ≠ k.notice v), none⟩ } }
        else { s.countGood with
          transport := { s.transport with latched := s.transport.latched.set k (s.sensors.bins.get k) }
          notices := { s.notices with transport := ⟨insertRanked (k.notice (s.sensors.bins.get k))
            (s.notices.transport.set.filter (decide <| · ≠ k.notice v)), none⟩ } }) (okTo h)))

/-- R188, R193: READ answers with the object's data, cut into READBACK frames of at most 2,048 bytes in their order, and the
number of frames; the clear option then acts on the roster's and the link's counts alone. READ of the link statistics gives
the seven counts and states in their order, the READ's own frame counted; an object kind the part does not hold, or a job
number above J3, is refused with index 0, a digest selector outside the table with index 1. That the object number of these
kinds is the slot's low byte, and a clear option other than 1 none, is the model's choice (log 10); of the objects' data only
the link statistics are spelled here. -/
def Obligations.ReadAnswersWithData : Prop :=
  ((∀ (h : CmdHdr) (a : ReadArgs) (s : State) (d : List Byte), s.takes → h.len = 24 →
    readData s.countGood a = .ok d → d.length ≤ 32768 → ∃ t, exec (.read h a) s = .next t ∧
      State.replies (readClear s.countGood a) t
        ⟨h.tag, .ok (halfOf ((d.length + 2047) / 2048)), readFrames d, false⟩) ∧
  (∀ d : List Byte, (readFrames d).flatten = d ∧ (readFrames d).length = (d.length + 2047) / 2048 ∧
    ∀ f ∈ readFrames d, f.length ≤ 2048) ∧
  ∀ (a : ReadArgs) (s : State), (a.clear ≠ 1 → readClear s a = s) ∧
    (a.clear = 1 → a.kind.toNat = 4 → readClear s a = { s with unreported := 0 }) ∧
    (a.clear = 1 → a.kind.toNat = 18 → readClear s a =
      { s with link := { s.link with good := 0, bad := 0, stray := 0, dropped := 0 } }) ∧
    (a.kind.toNat ≠ 4 → a.kind.toNat ≠ 18 → readClear s a = s)) ∧
  (∀ (h : CmdHdr) (a : ReadArgs) (s : State), s.takes → h.len = 24 →
    (a.kind = 18 → (a.number.extractLsb' 0 8) = 0 → ∃ t, exec (.read h a) s = .next t ∧
      State.replies (readClear s.countGood a) t ⟨h.tag, .ok 1,
        [slot (satInc max32 s.link.good) ++ slot s.link.bad ++ slot s.link.stray ++ slot s.link.dropped ++ slot 1
          ++ slot s.link.run ++ slot 0], false⟩) ∧
    ((18 < a.kind.toNat ∨ ((a.kind = 0 ∨ a.kind = 1 ∨ a.kind = 12 ∨ a.kind = 14 ∨ a.kind = 17) ∧
        4 ≤ (a.number.extractLsb' 0 8).toNat)) → ∃ t, exec (.read h a) s = .next t ∧
      State.replies s.countGood t ⟨h.tag, .invalid 0, [], false⟩) ∧
    (a.kind = 14 → (a.number.extractLsb' 0 8).toNat < 4 → 131072 ≤ a.first.toNat → ∃ t, exec (.read h a) s = .next t ∧
      State.replies s.countGood t ⟨h.tag, .invalid 1, [], false⟩))

/-! ## Refusals of commands -/

/-- R22: a job above J3, a profile or template above 7 or a port above P15 is refused INVALID with index 0, and nothing
changes. R2 to R10, R13, R20, R21, R49 (the table of 1.2.1): a job command in a state in which it is not taken is refused
STATE, and nothing changes. -/
def Obligations.CommandChecksComeFirst : Prop :=
  (∀ (c : Instr) (h : CmdHdr) (n : Nat) (s : State), c.header = some h → c.requiredLength = some n → h.len = n →
    s.takes → objectBeyond c = true →
    ∃ t, exec c s = .next t ∧ State.replies s.countGood t ⟨h.tag, .invalid 0, [], false⟩) ∧
  (∀ (c : Instr) (h : CmdHdr) (n : Nat) (s : State) (b : Byte) (j : JobId) (states : List JobState),
    c.header = some h → c.requiredLength = some n → h.len = n → s.takes → jobStates c = some (b, states) →
    b.toNat = j.val → (s.job j).state ∉ states →
    ∃ t, exec c s = .next t ∧ State.replies s.countGood t ⟨h.tag, .state, [], false⟩)

/-- R15, R17, R49, R91, R92, R133, R156, R166: what holds a resource makes the command BUSY, and nothing changes. -/
def Obligations.HeldResourceIsBusy : Prop :=
  ∀ (c : Instr) (h : CmdHdr) (n : Nat) (s : State), c.header = some h → c.requiredLength = some n → h.len = n →
    s.takes →
    ((∃ b e g j, c = .loadProfile h b e ∧ b.toNat = (g : ProfileId).val ∧ (s.job j).state.inProduction = true ∧
        (s.job j).profile = g) ∨
      (∃ b k p, c = .assignPort h b k ∧ b.toNat = (p : PortId).val ∧
        ((s.disc (.tray p)).isSome ∨ (s.waveOf p).isSome ∨ ∃ m j, s.transport.move = some m ∧ m.req.kind = .feed p j)) ∨
      (∃ b j, c = .passStart h b ∧ b.toNat = (j : JobId).val ∧ (s.job j).state = .running ∧ (s.pass j).isSome) ∨
      (∃ b p m, c = .portReset h b ∧ b.toNat = (p : PortId).val ∧ s.transport.move = some m ∧
        (m.dest = .tray p ∨ (m.source = .place (.tray p) ∧ (m.phase = .toSource ∨ m.phase = .grip)))) ∨
      (∃ b p m j, c = .portService h b ∧ b.toNat = (p : PortId).val ∧ s.serviceable p = true ∧
        s.transport.move = some m ∧ m.req.kind = .feed p j) ∨
      (c = .transportHome h ∧ s.transport.state = .paused ∧ s.transport.move.isSome) ∨
      (∃ b o ch t p d j, c = .loadTemplate h b o ch ∧ b.toNat = (t : TemplateId).val ∧ s.disc p = some d ∧
        d.state = .printing ∧ d.job = some j ∧ (s.job j).template = some t) ∨
      (∃ b i o fs t p d j, c = .setTemplate h b i o fs ∧ b.toNat = (t : TemplateId).val ∧ s.disc p = some d ∧
        d.state = .printing ∧ d.job = some j ∧ (s.job j).template = some t) ∨
      (∃ gs p d, c = .loadGlyphs h gs ∧ s.disc p = some d ∧ d.state = .printing) ∨
      (c = .printerResume h ∧ s.printer.state = .fault ∧
        ((s.disc .platter).isSome ∨ s.sensors.platter = true))) →
    ∃ t, exec c s = .next t ∧ State.replies s.countGood t ⟨h.tag, .busy, [], false⟩

/-! ## Jobs and tables -/

/-- R2: JOB OPEN in CLOSED takes a ring of 64 to 16,384 segments from the pool and writes the record; out of that range it
is refused INVALID (index 1 is the model's, log 28), beyond the free segments NO_SPACE. That the new ring holds nothing is
the model's (log 6). -/
def Obligations.JobOpenTakesRing : Prop :=
  ∀ (h : CmdHdr) (b : Byte) (r : Half) (s : State) (j : JobId), s.takes → h.len = 12 → b.toNat = j.val →
    (s.job j).state = .closed →
    (64 ≤ r.toNat → r.toNat ≤ 16384 → r.toNat ≤ s.freeSegments → ∃ t, exec (.jobOpen h b r) s = .next t ∧
      State.replies { s.countGood with
        jobs := upd s.jobs j { Job.reset with
          state := .opened, ring := r.toNat, prefill := r.toNat, passCounter := (s.job j).passCounter }
        memory := s.memory.clearRing j } t (okTo h)) ∧
    (r.toNat < 64 ∨ 16384 < r.toNat → ∃ t, exec (.jobOpen h b r) s = .next t ∧
      State.replies s.countGood t ⟨h.tag, .invalid 1, [], false⟩) ∧
    (64 ≤ r.toNat → r.toNat ≤ 16384 → s.freeSegments < r.toNat → ∃ t, exec (.jobOpen h b r) s = .next t ∧
      State.replies s.countGood t ⟨h.tag, .noSpace, [], false⟩)

/-- R3: SET JOB in OPEN writes the six fields at once, the prefill threshold clamped to 1 to R; the first field that fails
refuses it with its index. -/
def Obligations.SetJobWritesFields : Prop :=
  ∀ (h : CmdHdr) (b : Byte) (pre lag tgt : Half) (bin prof tmpl : Byte) (s : State) (j : JobId), s.takes →
    h.len = 32 → b.toNat = j.val → (s.job j).state = .opened →
    (∀ (i : BinId) (g : ProfileId) (t : Option TemplateId), lag.toNat ≤ 16383 → bin.toNat = i.val →
      prof.toNat = g.val → ((∃ k, t = some k ∧ tmpl.toNat = k.val ∧
        ∀ f ∈ (s.template k).fields, f.kind = .serial → (s.job j).serialWidth ≤ f.width) ∨
        (t = none ∧ tmpl.toNat = 255)) →
      ∃ u : State, exec (.setJob h b pre lag tgt bin prof tmpl) s = .next u ∧
        State.replies { s.countGood with jobs := upd s.jobs j { s.job j with
          prefill := max 1 (min pre.toNat (s.job j).ring), lagLimit := lag.toNat, target := tgt.toNat, bin := i
          profile := g, template := t } } u (okTo h)) ∧
    (16383 < lag.toNat → ∃ u : State, exec (.setJob h b pre lag tgt bin prof tmpl) s = .next u ∧
      State.replies s.countGood u ⟨h.tag, .invalid 2, [], false⟩) ∧
    (lag.toNat ≤ 16383 → 4 ≤ bin.toNat → ∃ u : State, exec (.setJob h b pre lag tgt bin prof tmpl) s = .next u ∧
      State.replies s.countGood u ⟨h.tag, .invalid 4, [], false⟩) ∧
    (lag.toNat ≤ 16383 → bin.toNat < 4 → 8 ≤ prof.toNat →
      ∃ u : State, exec (.setJob h b pre lag tgt bin prof tmpl) s = .next u ∧
        State.replies s.countGood u ⟨h.tag, .invalid 5, [], false⟩) ∧
    (lag.toNat ≤ 16383 → bin.toNat < 4 → prof.toNat < 8 → 8 ≤ tmpl.toNat → tmpl.toNat ≠ 255 →
      ∃ u : State, exec (.setJob h b pre lag tgt bin prof tmpl) s = .next u ∧
        State.replies s.countGood u ⟨h.tag, .invalid 6, [], false⟩) ∧
    (∀ k : TemplateId, lag.toNat ≤ 16383 → bin.toNat < 4 → prof.toNat < 8 → tmpl.toNat = k.val →
      (∃ f ∈ (s.template k).fields, f.kind = .serial ∧ f.width < (s.job j).serialWidth) →
      ∃ u : State, exec (.setJob h b pre lag tgt bin prof tmpl) s = .next u ∧
        State.replies s.countGood u ⟨h.tag, .invalid 6, [], false⟩)

/-- R4, R7, R8, R10: JOB RUN with a map, a loaded profile and a target not yet reached goes to RUNNING, else it is
refused STATE; JOB CLOSE with no record of the job goes to CLOSED without map and digests, else it is refused STATE; JOB
DRAIN in DRAINING and JOB HALT in HALTING change nothing. -/
def Obligations.JobRunCloseAndRepeats : Prop :=
  ∀ (h : CmdHdr) (b : Byte) (s : State) (j : JobId), s.takes → h.len = 8 → b.toNat = j.val →
    ((s.job j).state = .opened → (s.job j).map.isSome → (s.profile (s.job j).profile).loaded = true →
      ((s.job j).target = 0 ∨ (s.job j).counters.deliveredPass + (s.job j).counters.deliveredMarginal
        + (s.job j).counters.deliveredUnverified < (s.job j).target) →
      exec (.jobRun h b) s = .next (State.settle s.countGood (State.answer
        { s.countGood with jobs := upd s.jobs j { s.job j with state := .running } } (okTo h)))) ∧
    ((s.job j).state = .opened → ((s.job j).map = none ∨ (s.profile (s.job j).profile).loaded = false ∨
        ((s.job j).target ≠ 0 ∧ (s.job j).target ≤ (s.job j).counters.deliveredPass
          + (s.job j).counters.deliveredMarginal + (s.job j).counters.deliveredUnverified)) →
      ∃ t, exec (.jobRun h b) s = .next t ∧ State.replies s.countGood t ⟨h.tag, .state, [], false⟩) ∧
    ((s.job j).state = .opened → (∀ p d, s.disc p = some d → d.job ≠ some j) →
      ∃ t, exec (.jobClose h b) s = .next t ∧ State.replies { s.countGood with
        jobs := upd s.jobs j { s.job j with state := .closed, map := none, digest := .empty } } t (okTo h)) ∧
    ((s.job j).state = .opened → (∃ p d, s.disc p = some d ∧ d.job = some j) →
      ∃ t, exec (.jobClose h b) s = .next t ∧ State.replies s.countGood t ⟨h.tag, .state, [], false⟩) ∧
    ((s.job j).state = .draining → exec (.jobDrain h b) s =
      .next (State.settle s.countGood (s.countGood.answer (okTo h)))) ∧
    ((s.job j).state = .halting → exec (.jobHalt h b) s =
      .next (State.settle s.countGood (s.countGood.answer (okTo h))))

/-- R21, R179: DIGEST RESET in OPEN sets the digest state to EMPTY; in any other state it is refused STATE. FAULT CLEAR is taken
in every job state and makes the fault record not valid; a job above J3 is refused INVALID with index 0; the next fault
fills the record afresh. -/
def Obligations.DigestResetAndFaultClear : Prop :=
  (∀ (h : CmdHdr) (b : Byte) (s : State) (j : JobId), s.takes → h.len = 8 → b.toNat = j.val →
    ∃ t, exec (.digestReset h b) s = .next t ∧
      if (s.job j).state = .opened then State.replies { s.countGood with
        jobs := upd s.jobs j { s.job j with digest := .empty } } t (okTo h)
      else State.replies s.countGood t ⟨h.tag, .state, [], false⟩) ∧
  (∀ (h : CmdHdr) (b : Byte) (s : State), s.takes → h.len = 8 →
    (∀ j : JobId, b.toNat = j.val → ∃ t, exec (.faultClear h b) s = .next t ∧ State.replies { s.countGood with
      jobs := upd s.jobs j { s.job j with fault := none } } t (okTo h)) ∧
    (4 ≤ b.toNat → ∃ t, exec (.faultClear h b) s = .next t ∧
      State.replies s.countGood t ⟨h.tag, .invalid 0, [], false⟩) ∧
    ∀ (j : JobId) (t : State) (c : FaultCause) (n : Option Half) (p : Option PortId) (l : Option Nat) (g : Option Half),
      b.toNat = j.val → exec (.faultClear h b) s = .next t →
      ((t.faultOf j c n p l g).job j).fault = some ⟨c, n, p, l, g, 0⟩)

/-- R5, R6: JOB DRAIN in RUNNING takes the job to DRAINING; every assigned port in LOADED goes to DONE and its record to
RETURNING, other ports and records stand; a WAVE_READY that is not outstanding is withdrawn. -/
def Obligations.JobDrainGivesUpBlanks : Prop :=
  ∀ (h : CmdHdr) (b : Byte) (s : State) (j : JobId), s.takes → h.len = 8 → b.toNat = j.val →
    (s.job j).state = .running →
    ∃ u : State, exec (.jobDrain h b) s = .next (State.settle s.countGood (u.answer (okTo h))) ∧
      u.jobs = upd s.jobs j { s.job j with state := .draining } ∧
      u.notices = { s.notices with pass := s.notices.pass.withdraw (.waveReady j) } ∧
      (∀ p, s.assigned p = some j → (s.port p).state = .loaded → (u.port p).state = .done ∧
        (u.port p).errand = .none ∧ u.disc (.tray p) = (s.disc (.tray p)).map fun d => { d with state := .returning }) ∧
      (∀ p, (s.assigned p ≠ some j ∨ (s.port p).state ≠ .loaded) → u.port p = s.port p ∧
        u.disc (.tray p) = s.disc (.tray p)) ∧
      (∀ q, (∀ p, q ≠ .tray p) → u.disc q = s.disc q) ∧
      { u with jobs := s.jobs, ports := s.ports, places := s.places, notices := s.notices } = s.countGood

/-- R8, R63, R64, R111: JOB HALT in RUNNING or DRAINING takes the job to HALTING and aborts its live pass with JOB_HALT: an
ARMED member is RETURNED and gives up its blank, a WRITING one is FAILED, its write ended, its disc SCRAP at W; a digest table
that was BUILDING is EMPTY. Each of its discs in FINISHING or VERIFYING becomes SCRAP with JOB_HALT, its port DONE with its
command ended and its verify context gone; each assigned port in LOADED goes to DONE, its record to RETURNING. The abort, or
without one the first of these discs in port order (the order is the model's choice, log 49), fills a fault record that is not
valid. A WAVE_READY that is not outstanding is withdrawn. The job's other fields, other ports, their records, and other jobs
and passes stand. That a WRITING member's in-flight segment is absent after the abort is the model's choice (log 57). -/
def Obligations.JobHaltScraps : Prop :=
  ∀ (h : CmdHdr) (b : Byte) (s : State) (j : JobId), s.takes → h.len = 8 → b.toNat = j.val →
    ((s.job j).state = .running ∨ (s.job j).state = .draining) →
    let aborts := ∃ x, s.pass j = some x ∧ x.live = true
    let finishes := fun p d => ((s.port p).state = .finishing ∨ (s.port p).state = .verifying) ∧
      s.disc (.tray p) = some d ∧ d.job = some j
    ∃ u : State, exec (.jobHalt h b) s = .next (State.settle s.countGood (u.answer (okTo h))) ∧
      (aborts → u.job j = { s.job j with
        state := .halting, fault := (u.job j).fault
        digest := if (s.job j).digest = .building then .empty else (s.job j).digest }) ∧
      (¬ aborts → u.job j = { s.job j with state := .halting, fault := (u.job j).fault }) ∧
      ((∀ p d, ¬ finishes p d) → ¬ aborts → (u.job j).fault = (s.job j).fault) ∧
      (∀ p, s.pass j = some p → p.live = true → ∃ q, u.pass j = some q ∧ q.state = .aborted ∧
        q.cause = some .jobHalt ∧ q.number = p.number ∧ q.closed = p.closed ∧
        q.comp = { p.comp with accumulator := none, blocked := false } ∧ q.finished = p.finished ∧ q.cut = p.cut ∧
        ((∀ n d, finishes n d → s.waveOf n = none) → p.wave.Pairwise Member.before → p.failed ≤ 16 →
          q.failed = min 16 (p.failed + (p.wave.filter fun m => decide (m.status = .writing)).length) ∧
          q.wave = p.wave.map fun m =>
            if m.status = .armed then { m with status := .returned, inFlight := none }
            else if m.status = .writing then { m with status := .failed, inFlight := none } else m) ∧
        (∀ n m, p.member n = some m → m.status = .armed → (u.port n).state = .done ∧
          u.disc (.tray n) = (s.disc (.tray n)).map fun d => { d with pass := none, state := .returning }) ∧
        (∀ n m d, p.member n = some m → m.status = .writing → s.disc (.tray n) = some d → d.cause = none →
          (u.port n).state = .done ∧ u.disc (.tray n) = some { d with
            state := .scrap, cause := some .jobHalt, lba := some m.written } ∧
          ∀ c, (s.port n).cmd = some c → (s.port n).reissueAt = none →
            (u.port n).cmd = some c ∧ (u.port n).ending = true) ∧
        ((s.job j).fault = none → ∃ f, (u.job j).fault = some ⟨.jobHalt, some p.number, none, none, none, f⟩)) ∧
      (∀ p d, finishes p d → s.waveOf p = none → (u.port p).state = .done ∧ u.verify p = none ∧
        (∀ c, (s.port p).cmd = some c → (s.port p).reissueAt = none →
          (u.port p).cmd = some c ∧ (u.port p).ending = true) ∧
        (∃ e, u.disc (.tray p) = some e ∧ e.tag = d.tag ∧ e.state = .scrap ∧
          e.cause = some (d.cause.getD .jobHalt) ∧ (d.cause = none → e.lba = none)) ∧
        (¬ aborts → (∀ k e, k < p → ¬ finishes k e) → (s.job j).fault = none →
          ∃ f, (u.job j).fault = some ⟨.jobHalt, d.pass, some p, none, some d.tag, f⟩)) ∧
      (∀ p, s.assigned p = some j → (s.port p).state = .loaded → s.waveOf p = none → (u.port p).state = .done ∧
        (u.port p).errand = .none ∧ u.disc (.tray p) = (s.disc (.tray p)).map fun d => { d with state := .returning }) ∧
      (∀ p, (s.assigned p ≠ some j ∨ (s.port p).state ≠ .loaded) → (∀ d, ¬ finishes p d) →
        (∀ x, s.pass j = some x → x.member p = none) →
        u.port p = s.port p ∧ u.disc (.tray p) = s.disc (.tray p) ∧ u.verify p = s.verify p) ∧
      (∀ q, (∀ p, q ≠ .tray p) → u.disc q = s.disc q) ∧
      ((∀ p d, finishes p d → s.waveOf p = none) → ∀ k, k ≠ j → u.pass k = s.pass k) ∧
      (∀ k, k ≠ j → u.job k = { s.job k with fault := (u.job k).fault }) ∧
      ((∀ x n d, s.pass j = some x → x.member n ≠ none → s.disc (.tray n) = some d → d.job = some j) →
        ∀ k, k ≠ j → u.job k = s.job k) ∧
      (¬ aborts → (∀ p d, finishes p d → s.waveOf p = none) → u.pass j = s.pass j) ∧
      (aborts → u.notices = { s.notices with
        pass := (s.notices.pass.raise (.passAborted j)).withdraw (.waveReady j) }) ∧
      (¬ aborts → u.notices = { s.notices with pass := s.notices.pass.withdraw (.waveReady j) }) ∧
      { u with
        jobs := s.jobs, passes := s.passes, ports := s.ports, places := s.places, verifies := s.verifies
        notices := s.notices } = s.countGood

/-- R13: LOAD MAP in OPEN replaces the map and empties the digest state when its list passes; the first extent of a bad
kind, of no length, beyond the running total, or STREAM and unaligned before a later STREAM, gives the index; then a list of
more than 64 entries is refused with index 64, one without STREAM with the number of its entries (an index above 255 is sent
as a free value, log 40). R15: LOAD PROFILE of a profile no job in production names replaces every field, the stride clamped
to 2 to 64, and marks the profile loaded; the first field that fails refuses it with its index. -/
def Obligations.MapAndProfileAreLoaded : Prop :=
  (∀ (h : CmdHdr) (b : Byte) (es : List ExtentEntry) (s : State) (j : JobId), s.takes → h.len = 12 + 8 * es.length →
    b.toNat = j.val → (s.job j).state = .opened →
    let bad := fun i : Nat => ∃ e, es[i]? = some e ∧ ((e.kind ≠ 1 ∧ e.kind ≠ 2) ∨ e.length.toNat = 0 ∨
      33554432 < ((es.take (i + 1)).map fun x => x.length.toNat).sum ∨
      (e.kind = 1 ∧ e.length.toNat % 16 ≠ 0 ∧ ∃ x ∈ es.drop (i + 1), x.kind = 1))
    let refused := fun i => ∃ t, exec (.loadMap h b es) s = .next t ∧
      State.replies s.countGood t ⟨h.tag, .invalid i, [], false⟩
    (∀ i, bad i → (∀ k, k < i → ¬ bad k) → refused i) ∧
    ((∀ i, ¬ bad i) → 64 < es.length → refused 64) ∧
    ((∀ i, ¬ bad i) → es.length ≤ 64 → (∀ e ∈ es, e.kind ≠ 1) → refused es.length) ∧
    ((∀ i, ¬ bad i) → es.length ≤ 64 → (∃ e ∈ es, e.kind = 1) →
      ∃ t, exec (.loadMap h b es) s = .next t ∧ State.replies { s.countGood with
        jobs := upd s.jobs j { s.job j with
          digest := .empty
          map := some (es.map fun e => ⟨if e.kind = 1 then .stream else .fill, e.fill, e.length.toNat⟩) } } t
        (okTo h))) ∧
  ∀ (h : CmdHdr) (b : Byte) (e : ProfileEntry) (s : State) (g : ProfileId), s.takes → h.len = 24 → b.toNat = g.val →
    (∀ j, (s.job j).profile = g → (s.job j).state = .closed ∨ (s.job j).state = .opened) →
    let refused := fun i => ∃ t, exec (.loadProfile h b e) s = .next t ∧
      State.replies s.countGood t ⟨h.tag, .invalid i, [], false⟩
    (∀ (m : VerifyMode) (d : MarginalDest) (p : Bool), e.mode.toNat = m.code → e.peakWarn ≤ e.peakFail →
      e.meanWarn ≤ e.meanFail → e.dest.toNat = d.code → e.printMarginal.toNat = p.toNat →
      (p = true → d = .o1) →
      ∃ t, exec (.loadProfile h b e) s = .next t ∧ State.replies { s.countGood with profiles := upd s.profiles g {
        loaded := true, mode := m, stride := max 2 (min 64 e.stride.toNat), weight := e.weight.toNat
        peakWarn := e.peakWarn.toNat, peakFail := e.peakFail.toNat, meanWarn := e.meanWarn.toNat
        meanFail := e.meanFail.toNat, dest := d, printMarginal := p } } t (okTo h)) ∧
    (2 < e.mode.toNat → refused 0) ∧
    (e.mode.toNat ≤ 2 → e.peakFail < e.peakWarn → refused 3) ∧
    (e.mode.toNat ≤ 2 → e.peakWarn ≤ e.peakFail → e.meanFail < e.meanWarn → refused 5) ∧
    (e.mode.toNat ≤ 2 → e.peakWarn ≤ e.peakFail → e.meanWarn ≤ e.meanFail → 1 < e.dest.toNat → refused 7) ∧
    (e.mode.toNat ≤ 2 → e.peakWarn ≤ e.peakFail → e.meanWarn ≤ e.meanFail → e.dest.toNat ≤ 1 →
      (1 < e.printMarginal.toNat ∨ (e.printMarginal = 1 ∧ e.dest = 1)) → refused 8)

/-- R17: ASSIGN PORT with nothing at the tray, no wave and no granted FEED writes the entry; where it differs, the port's
FEED request is removed; a code that is neither a job nor NONE is refused with index 1. That it is taken also for a held
port whose FEED move failed after its grip, the blank still on the arm, is the model's reading (log 46). -/
def Obligations.AssignPortWritesEntry : Prop :=
  ∀ (h : CmdHdr) (b k : Byte) (s : State) (p : PortId), s.takes → h.len = 12 → b.toNat = p.val →
    s.disc (.tray p) = none → s.waveOf p = none → (∀ m, s.transport.move = some m → ∀ j, m.req.kind ≠ .feed p j) →
    (∀ j : Option JobId, ((∃ i, j = some i ∧ k.toNat = i.val) ∨ (j = none ∧ k.toNat = 255)) →
      exec (.assignPort h b k) s = .next (State.settle s.countGood (State.answer
        (if s.assigned p = j then s.countGood else { s.countGood with
          assign := upd s.assign p j
          transport := { s.transport with queue := s.transport.queue.filter fun r => !r.kind.isFeedFor p } })
        (okTo h)))) ∧
    (4 ≤ k.toNat → k.toNat ≠ 255 → ∃ t, exec (.assignPort h b k) s = .next t ∧
      State.replies s.countGood t ⟨h.tag, .invalid 1, [], false⟩)

/-- R18, R19: LOAD TIMING is taken in every state and writes the table, each entry clamped; a port whose idle time has
reached a non-zero interval issues its sleep, every other port stands. -/
def Obligations.LoadTimingClamps : Prop :=
  ∀ (h : CmdHdr) (e : TimingEntry) (s : State), s.takes → h.len = 48 →
    ∃ u : State, exec (.loadTiming h e) s = .next (State.settle s.countGood (u.answer (okTo h))) ∧
      u.timing = {
        probe := max 1 e.probe.toNat, tray := max 1 e.tray.toNat, check := max 1 e.check.toNat
        write := max 1 e.write.toNat, sync := max 1 e.sync.toNat, close := max 1 e.close.toNat
        read := max 1 e.read.toNat, wake := max 1 e.wake.toNat, retry := min 15 e.retry.toNat
        pause := max 1 e.pause.toNat, standby := min 240 e.standby.toNat } ∧
      { u with ports := s.ports, timing := s.timing } = s.countGood ∧
      ∀ p, u.port p = (if (s.port p).state = .idle ∧ (s.port p).cmd = none ∧ (s.port p).afterReset = none ∧
          e.standby ≠ 0 ∧ 15000 * min 240 e.standby.toNat ≤ s.now - (s.port p).idleSince
        then (s.port p).issue s.now u.timing .sleep 0 else s.port p)

/-- R20: SET SERIAL in OPEN writes base, step, width and pad and sets serial next to the base; the first check that fails
refuses it with its index, all five fields unchanged; in any other state it is refused STATE. -/
def Obligations.SetSerialWritesSeries : Prop :=
  ∀ (h : CmdHdr) (b : Byte) (base : Word) (st : Half) (w pad : Byte) (s : State), s.takes → h.len = 24 →
    (4 ≤ b.toNat → ∃ t, exec (.setSerial h b base st w pad) s = .next t ∧
      State.replies s.countGood t ⟨h.tag, .invalid 0, [], false⟩) ∧
    ∀ j : JobId, b.toNat = j.val → ∃ t, exec (.setSerial h b base st w pad) s = .next t ∧
      if (s.job j).state ≠ .opened then State.replies s.countGood t ⟨h.tag, .state, [], false⟩
      else if w.toNat < 1 ∨ 9 < w.toNat then State.replies s.countGood t ⟨h.tag, .invalid 1, [], false⟩
      else if st.toNat < 1 ∨ 1000 < st.toNat then State.replies s.countGood t ⟨h.tag, .invalid 2, [], false⟩
      else if 10 ^ w.toNat ≤ base.toNat then State.replies s.countGood t ⟨h.tag, .invalid 3, [], false⟩
      else if 2 ≤ pad.toNat then State.replies s.countGood t ⟨h.tag, .invalid 4, [], false⟩
      else if ∃ k, (s.job j).template = some k ∧ ∃ f ∈ (s.template k).fields, f.kind = .serial ∧ f.width < w.toNat then
        State.replies s.countGood t ⟨h.tag, .invalid 5, [], false⟩
      else State.replies { s.countGood with jobs := upd s.jobs j { s.job j with
        serialBase := base.toNat, serialStep := st.toNat, serialWidth := w.toNat
        serialPad := if pad = 0 then .zero else .space, serialNext := base.toNat } } t (okTo h)

/-! ## Passes -/

/-- R24, R42, R47, R49: PASS START of a RUNNING job with no pass record creates a pass in FORMING with the next number,
admits every LOADED port assigned to the job in port order, and answers the number; a WAVE_READY that is not outstanding is
withdrawn. -/
def Obligations.PassStartCreatesPass : Prop :=
  ∀ (h : CmdHdr) (b : Byte) (s : State) (j : JobId), s.takes → h.len = 8 → b.toNat = j.val →
    (s.job j).state = .running → s.pass j = none →
    ∃ (u : State) (n : Half) (wave : List Member), n = (s.job j).passCounter + 1 ∧
      exec (.passStart h b) s = .next (State.settle s.countGood (u.answer (answerTo h (.ok n)))) ∧
      u.jobs = upd s.jobs j { s.job j with
        passCounter := n, digest := if (s.job j).digest = .empty then .building else (s.job j).digest } ∧
      u.passes = upd s.passes j (some {
        number := n, state := .forming, wave := wave, closed := false, cause := none, finished := 0, cut := 0
        failed := 0
        comp := {
          head := 0, extent := some 0, frames := 0, framesInExtent := 0, credits := 0, accumulator := some 0xFFFFFFFF
          blocksDone := 0, prefillReached := false, blocked := false } }) ∧
      wave.Pairwise (fun x y => x.port < y.port) ∧
      (∀ m, m ∈ wave ↔ ∃ p d, s.assigned p = some j ∧ (s.port p).state = .loaded ∧ s.disc (.tray p) = some d ∧
        m = ⟨p, d.tag, 0, none, .armed⟩) ∧
      (∀ p d, s.assigned p = some j → (s.port p).state = .loaded → s.disc (.tray p) = some d →
        u.port p = { s.port p with state := .armed } ∧ u.disc (.tray p) = some { d with pass := some n }) ∧
      (∀ p, (s.assigned p ≠ some j ∨ (s.port p).state ≠ .loaded) →
        u.port p = s.port p ∧ u.disc (.tray p) = s.disc (.tray p)) ∧
      (∀ q, (∀ p, q ≠ .tray p) → u.disc q = s.disc q) ∧
      u.notices = { s.notices with pass := s.notices.pass.withdraw (.waveReady j) } ∧
      { u with jobs := s.jobs, passes := s.passes, ports := s.ports, places := s.places, notices := s.notices } =
        s.countGood

/-- R62 to R64: PASS ABORT of a live pass aborts it with HOST_ABORT: an ARMED member goes back to LOADED, or gives up its
blank where the job is DRAINING or HALTING; a WRITING member ends its write, its port is DONE and its disc SCRAP at W; other
ports and places stand; ABORTED is raised. Without a live pass the command is refused STATE. -/
def Obligations.PassAbortTakesWaveDown : Prop :=
  ∀ (h : CmdHdr) (b : Byte) (s : State) (j : JobId), s.takes → h.len = 8 → b.toNat = j.val →
    (∀ p, s.pass j = some p → p.live = true → ∃ (u : State) (q : Pass),
      exec (.passAbort h b) s = .next (State.settle s.countGood (u.answer (okTo h))) ∧
      u.pass j = some q ∧ q.state = .aborted ∧ q.cause = some .hostAbort ∧ q.number = p.number ∧
      q.comp.credits = p.comp.credits ∧ q.comp.head = p.comp.head ∧ (∀ k, k ≠ j → u.pass k = s.pass k) ∧
      ((s.job j).digest = .building → (u.job j).digest = .empty) ∧
      ((s.job j).digest ≠ .building → (u.job j).digest = (s.job j).digest) ∧
      ((s.job j).fault = none → ∃ k, (u.job j).fault = some ⟨.hostAbort, some p.number, none, none, none, k⟩) ∧
      (∀ n m, p.member n = some m → m.status = .armed → (s.job j).state = .running →
        u.port n = (s.port n).goto s.now .loaded ∧
        u.disc (.tray n) = (s.disc (.tray n)).map fun d => { d with pass := none }) ∧
      (∀ n m, p.member n = some m → m.status = .armed → ((s.job j).state = .draining ∨ (s.job j).state = .halting) →
        (u.port n).state = .done ∧
        u.disc (.tray n) = (s.disc (.tray n)).map fun d => { d with pass := none, state := .returning }) ∧
      (∀ n m d, p.member n = some m → m.status = .writing → s.disc (.tray n) = some d → d.cause = none →
        (u.port n).state = .done ∧ u.disc (.tray n) = some { d with
          state := .scrap, cause := some .hostAbort, lba := some m.written } ∧
        ∀ c, (s.port n).cmd = some c → (s.port n).reissueAt = none →
          (u.port n).cmd = some c ∧ (u.port n).ending = true) ∧
      (∀ n, p.member n = none → u.port n = s.port n ∧ u.disc (.tray n) = s.disc (.tray n)) ∧
      (∀ q, (∀ n, q ≠ .tray n) → u.disc q = s.disc q) ∧
      u.notices = { s.notices with pass := s.notices.pass.raise (.passAborted j) } ∧
      { u with jobs := s.jobs, passes := s.passes, ports := s.ports, places := s.places, notices := s.notices } =
        s.countGood) ∧
    ((∀ p, s.pass j = some p → p.live = false) → ∃ t, exec (.passAbort h b) s = .next t ∧
      State.replies s.countGood t ⟨h.tag, .state, [], false⟩)

/-! ## Image frames and fill -/

/-- R25, R26, R33, R36, R41 to R43: an image frame of the live pass in its turn, within its credit and of the due size, is
taken: F rises by 1, H by the frame's sectors, the cursor moves on, sector H + k goes to ring slot (H + k) mod 16R, every
other slot, ring and raster stands, and the sectors pass through the block accumulator. A block completed while BUILDING is
stored, the last one sealing the table; while SEALED it is compared, and the first that differs aborts the pass with
SOURCE_MISMATCH at its first LBA. Otherwise nothing else moves. That the rest of the frame is composed in the mismatch case
too, and that the first block that differs decides, is the model's reading (log 16); that the frames taken in the current
extent read 0 after a STREAM extent's end is its choice (log 48). -/
def Obligations.ImageFrameIsComposed : Prop :=
  ∀ (job : Byte) (pl : List Byte) (s : State) (j : JobId) (p : Pass) (e : Extent) (n : Nat), s.resetHeld = false →
    s.link.stage = .none → s.link.receiver = .synced → job.toNat = j.val → s.pass j = some p → p.live = true →
    byteAt pl 0 = p.number.extractLsb' 0 8 → (byteAt pl 1).toNat = n → p.at (s.job j) e → e.kind = .stream →
    half pl 2 = halfOf p.comp.frames → 0 < p.comp.outstanding → n = min 16 (e.length - 16 * p.comp.framesInExtent) →
    pl.length = 32 + 2048 * n → 64 ≤ (s.job j).ring → p.comp.head + n ≤ (s.job j).length →
    let x := s.job j
    let head := p.comp.head
    let sector := fun k : Nat => (pl.drop (32 + 2048 * k)).take 2048
    let ends := fun k : Nat => decide ((head + k + 1) % 256 = 0 ∨ head + k + 1 = x.length)
    let before := fun k : Nat => (List.range k).foldl
      (fun (r : Word) i => if ends i then 0xFFFFFFFF else crcRun r (sector i)) (p.comp.accumulator.getD 0xFFFFFFFF)
    let value := fun k : Nat => crcValue (crcRun (before k) (sector k))
    let block := fun k : Nat => (head + k) / 256
    ∃ (u : State) (q : Pass), exec (.imageFrame job pl) s = .next (State.settle s.countGood u) ∧
      u.pass j = some q ∧ q.number = p.number ∧ q.comp.head = head + n ∧ q.comp.frames = p.comp.frames + 1 ∧
      q.comp.credits = p.comp.credits ∧ q.comp.prefillReached = p.comp.prefillReached ∧
      (∀ k, k ≠ j → u.pass k = s.pass k) ∧
      (∀ k, k < n → u.memory.sector j ((head + k) % (16 * x.ring)) = sector k) ∧
      (∀ a, (∀ k, k < n → a ≠ (head + k) % (16 * x.ring)) → u.memory.sector j a = s.memory.sector j a) ∧
      (∀ k, k ≠ j → nth u.memory.rings k = nth s.memory.rings k ∧ nth u.memory.digests k = nth s.memory.digests k) ∧
      u.memory.rasters = s.memory.rasters ∧ (u.job j).tables = x.tables ∧
      (x.digest ≠ .building → u.memory.digests = s.memory.digests) ∧
      (∀ m i, x.map = some m → p.comp.extent = some i → m[i]? = some e → 0 < n →
        head = ((m.take i).map Extent.length).sum + 16 * p.comp.framesInExtent →
        if head + n < ((m.take (i + 1)).map Extent.length).sum
        then q.comp.extent = some i ∧ q.comp.framesInExtent = p.comp.framesInExtent + 1
        else q.comp.extent = (if i + 1 < m.length then some (i + 1) else none) ∧ q.comp.framesInExtent = 0) ∧
      ((x.digest ≠ .sealed ∨ ∀ k, k < n → ends k = true → value k = s.memory.digest j (block k)) →
        q = { p with comp := q.comp } ∧ q.comp.blocked = p.comp.blocked ∧
        q.comp.blocksDone = p.comp.blocksDone + ((List.range n).filter ends).length ∧
        (0 < n → q.comp.accumulator = some (before n)) ∧
        u.jobs = upd s.jobs j { x with
          digest := if x.digest = .building ∧ 0 < n ∧ head + n = x.length then .sealed else x.digest } ∧
        { u with passes := s.passes, memory := s.memory, jobs := s.jobs } = s.countGood) ∧
      (x.digest = .building → (∀ k, k < n → ends k = true → u.memory.digest j (block k) = value k) ∧
        ∀ b, (∀ k, k < n → ends k = true → b ≠ block k) → u.memory.digest j b = s.memory.digest j b) ∧
      (x.digest = .sealed → ∀ k, k < n → ends k = true → value k ≠ s.memory.digest j (block k) →
        (∀ i, i < k → ends i = true → value i = s.memory.digest j (block i)) →
        q.state = .aborted ∧ q.cause = some .sourceMismatch ∧ q.comp.accumulator = none ∧ q.comp.blocked = false ∧
        (x.fault = none → ∃ f, (u.job j).fault =
          some ⟨.sourceMismatch, some p.number, none, some (256 * block k), none, f⟩))

/-- R32, R34, R191: an image frame with less than its image header, or that names no live pass of its job by its low 8 bits is
stray and only counted; a frame of the live pass out of turn, without credit, or of a length that is not its sectors' aborts
the pass with STREAM_FAULT at H, no sector of it taken. That an H of 33,554,432 is stored as the LBA is the model's choice
(log 60). -/
def Obligations.StrayAndFaultyImageFrames : Prop :=
  ∀ (job : Byte) (pl : List Byte) (s : State), s.resetHeld = false → s.link.stage = .none →
    s.link.receiver = .synced →
    ((pl.length < 32 ∨ ∀ j p, job.toNat = (j : JobId).val → s.pass j = some p → p.live = true →
        byteAt pl 0 ≠ p.number.extractLsb' 0 8) →
      exec (.imageFrame job pl) s = .next (State.settle s.countGood { s with link := { s.link with
        good := satInc max32 s.link.good, consecBad := 0, stray := satInc max32 s.link.stray } })) ∧
    (∀ j p, job.toNat = (j : JobId).val → s.pass j = some p → p.live = true →
      32 ≤ pl.length → byteAt pl 0 = p.number.extractLsb' 0 8 →
      (half pl 2 ≠ halfOf p.comp.frames ∨ p.comp.outstanding = 0 ∨ pl.length ≠ 32 + 2048 * (byteAt pl 1).toNat ∨
        ∀ e, p.at (s.job j) e → e.kind = .fill ∨
          (byteAt pl 1).toNat ≠ min 16 (e.length - 16 * p.comp.framesInExtent)) →
      ∃ (u : State) (q : Pass), exec (.imageFrame job pl) s = .next (State.settle s.countGood u) ∧
        u.pass j = some q ∧ q.state = .aborted ∧ q.cause = some .streamFault ∧ q.comp.head = p.comp.head ∧
        q.comp.frames = p.comp.frames ∧ (∀ k, k ≠ j → u.pass k = s.pass k) ∧ u.memory = s.memory ∧
        ((s.job j).fault = none → ∃ k, (u.job j).fault =
          some ⟨.streamFault, some p.number, none, some p.comp.head, none, k⟩))

/-- R25, R26, R35, R36, R41 to R43: with the cursor in a FILL extent, the ring not full and the pass RUNNING or short of its
prefill point, FILL_SECTOR composes one sector of fill bytes at slot H mod 16R, H rises by 1 and the cursor moves on at the
extent's end. A sector that completes a block stores its digest while BUILDING, the last block sealing the table, and is
compared while SEALED: a difference aborts the pass with SOURCE_MISMATCH at the block's first LBA. (The frames taken in the
current extent, which no rule gives for a FILL extent, are log 48.) -/
def Obligations.FillSectorIsComposed : Prop :=
  ∀ (s : State) (j : JobId) (p : Pass) (e : Extent) (acc : Word), s.resetHeld = false → s.pass j = some p →
    p.live = true → p.at (s.job j) e → e.kind = .fill → 1 ≤ p.free (s.job j) → 64 ≤ (s.job j).ring →
    p.comp.accumulator = some acc →
    (p.state = .running ∨ p.comp.head < min (16 * (s.job j).prefill) (s.job j).length) →
    let x := s.job j
    let head := p.comp.head
    let data : Sector := List.replicate 2048 e.fill
    let ends := (head + 1) % 256 = 0 ∨ head + 1 = x.length
    let value := crcValue (crcRun acc data)
    ∃ (u : State) (q : Pass), exec (.fillSector j) s = .next (State.settle s u) ∧ u.pass j = some q ∧
      q.number = p.number ∧ q.comp.head = head + 1 ∧ q.comp.frames = p.comp.frames ∧
      q.comp.credits = p.comp.credits ∧ q.comp.prefillReached = p.comp.prefillReached ∧
      (∀ k, k ≠ j → u.pass k = s.pass k) ∧ u.memory.sector j (head % (16 * x.ring)) = data ∧
      (∀ a, a ≠ head % (16 * x.ring) → u.memory.sector j a = s.memory.sector j a) ∧
      (∀ k, k ≠ j → nth u.memory.rings k = nth s.memory.rings k ∧ nth u.memory.digests k = nth s.memory.digests k) ∧
      u.memory.rasters = s.memory.rasters ∧ (u.job j).tables = x.tables ∧
      (¬ (x.digest = .building ∧ ends) → u.memory.digests = s.memory.digests) ∧
      (∀ m i, x.map = some m → p.comp.extent = some i →
        if head + 1 < ((m.take (i + 1)).map Extent.length).sum
        then q.comp.extent = some i ∧ q.comp.framesInExtent = p.comp.framesInExtent
        else q.comp.extent = (if i + 1 < m.length then some (i + 1) else none) ∧ q.comp.framesInExtent = 0) ∧
      ((x.digest ≠ .sealed ∨ ¬ ends ∨ value = s.memory.digest j (head / 256)) →
        q = { p with comp := q.comp } ∧ q.comp.blocked = p.comp.blocked ∧
        (ends → q.comp.accumulator = some 0xFFFFFFFF ∧ q.comp.blocksDone = p.comp.blocksDone + 1) ∧
        (¬ ends → q.comp.accumulator = some (crcRun acc data) ∧ q.comp.blocksDone = p.comp.blocksDone) ∧
        u.jobs = upd s.jobs j { x with digest := (u.job j).digest } ∧
        (¬ (x.digest = .building ∧ ends) → (u.job j).digest = x.digest) ∧
        (x.digest = .building → head < x.length →
          (u.job j).digest = if head + 1 = x.length then .sealed else .building) ∧
        { u with passes := s.passes, memory := s.memory, jobs := s.jobs } = s) ∧
      (x.digest = .building → ends → u.memory.digest j (head / 256) = value ∧
        ∀ b, b ≠ head / 256 → u.memory.digest j b = s.memory.digest j b) ∧
      (x.digest = .sealed → ends → value ≠ s.memory.digest j (head / 256) →
        q.state = .aborted ∧ q.cause = some .sourceMismatch ∧ q.comp.accumulator = none ∧ q.comp.blocked = false ∧
        (x.fault = none → ∃ f, (u.job j).fault =
          some ⟨.sourceMismatch, some p.number, none, some (256 * (head / 256)), none, f⟩))

/-! ## Drive ports -/

/-- R91, R92: PORT RESET begins a link reset, discards the command, clears hold, errand and retries, removes the port's
requests and goes to CHECKING at IDENTIFY or to PROBE; a burning disc becomes SCRAP with PORT_RESET. PORT SERVICE in its
states goes to OFFLINE and holds the link down; in others, and in FAULTED with a record at its tray, it is refused STATE.
(How a command waits for the link is log 5, the idle time kept outside IDLE log 11, the ONLINE that is then due log 20.) -/
def Obligations.PortResetAndService : Prop :=
  ∀ (h : CmdHdr) (b : Byte) (s : State) (p : PortId), s.takes → h.len = 8 → b.toNat = p.val →
    ((∀ m, s.transport.move = some m → m.dest ≠ .tray p ∧
        (m.source = .place (.tray p) → m.phase ≠ .toSource ∧ m.phase ≠ .grip)) →
      ∃ u : State, exec (.portReset h b) s = .next (State.settle s.countGood (u.answer (okTo h))) ∧
        u.port p = { (s.port p).clearCmd with
          link := false, resetting := true, hold := false, retries := 0, errand := .none, afterReset := some .identify
          state := if (s.disc (.tray p)).isSome then .checking else .probe
          step := if (s.disc (.tray p)).isSome then .identify else .none, idleHeld := (s.port p).idleTime s.now } ∧
        (∀ k, k ≠ p → u.port k = s.port k) ∧
        u.transport = { s.transport with queue := s.transport.queue.filter fun r => !r.kind.ofPort p } ∧
        ((s.port p).state.burning = false →
          { u with ports := s.ports, transport := s.transport } = s.countGood) ∧
        ((s.port p).state.burning = true → u.verify p = none ∧
          (∀ d, s.disc (.tray p) = some d → d.cause = none → u.disc (.tray p) = some { d with
            state := .scrap, cause := some .portReset, lba := (s.member p).map Member.written }) ∧
          (∀ j x m, s.waveOf p = some j → s.pass j = some x → x.member p = some m → ∃ y, u.pass j = some y ∧
            y.member p = none ∧ y.failed = satInc 16 x.failed ∧ y.comp = x.comp))) ∧
    ((((s.port p).state = .offline ∨ (s.port p).state = .probe ∨ (s.port p).state = .idle ∨
        (s.port p).state = .standby) ∨ ((s.port p).state = .faulted ∧ s.disc (.tray p) = none)) →
      (∀ m j, s.transport.move = some m → m.req.kind ≠ .feed p j) →
      exec (.portService h b) s = .next (State.settle s.countGood (State.answer
        (let v := { s.countGood with
          ports := upd s.ports p { (s.port p).clearCmd with
            state := .offline, link := false, resetting := false, hold := true, errand := .none, step := .none
            announce := true, idleHeld := (s.port p).idleTime s.now }
          transport := { s.transport with queue := s.transport.queue.filter fun r => !r.kind.isFeedFor p } }
        if (s.port p).state = .offline then v else v.raise (.portOffline p)) (okTo h)))) ∧
    (((s.port p).state ∉ [.offline, .probe, .idle, .standby, .faulted] ∨
        ((s.port p).state = .faulted ∧ (s.disc (.tray p)).isSome)) →
      ∃ t, exec (.portService h b) s = .next t ∧ State.replies s.countGood t ⟨h.tag, .state, [], false⟩)

/-- R74: a link that comes up takes an OFFLINE port without hold to PROBE and lets another carry on with what it was to
issue; a link that goes down takes PROBE, IDLE, STANDBY and an empty tray at work to OFFLINE, other states to FAULTED with
the disc kept, SCRAP with DRIVE_FAULT where it was burning; OFFLINE and FAULTED stand. (What is issued after a link reset is
log 5, the DOWN in OFFLINE and FAULTED log 23, the idle time kept outside IDLE log 11, the ONLINE that is then due log 20. That
a port at work goes to OFFLINE with errand NONE is the model's choice, log 53.) -/
def Obligations.LinkUpAndDown : Prop :=
  ∀ (s : State) (p : PortId), s.resetHeld = false →
    ((s.port p).state = .offline → (s.port p).hold = false →
      exec (.linkUp p) s = .next (State.settle s { s with ports := upd s.ports p { (s.port p).clearCmd with
        link := true, resetting := false, state := .probe, errand := .none, step := .none, cmd := some .identify
        retries := 0, firstIssue := some s.now, answerDue := some (s.now + 100 * s.timing.probe) } })) ∧
    ((s.port p).state = .offline → (s.port p).hold = true → exec (.linkUp p) s = .next s) ∧
    ((s.port p).state ≠ .offline → (s.port p).afterReset = none → exec (.linkUp p) s = .next (State.settle s
      { s with ports := upd s.ports p { s.port p with link := true, resetting := false } })) ∧
    (∀ c, (s.port p).state ≠ .offline → (s.port p).afterReset = some c →
      exec (.linkUp p) s = .next (State.settle s { s with ports := upd s.ports p { (s.port p).clearCmd with
        link := true, resetting := false, cmd := some c, firstIssue := some s.now
        answerDue := some (s.now + s.timing.timeout c.cls) } })) ∧
    (((s.port p).state = .offline ∨ (s.port p).state = .faulted) → exec (.linkDown p) s = .next (State.settle s
      { s with ports := upd s.ports p { s.port p with link := false } })) ∧
    (((s.port p).state = .probe ∨ (s.port p).state = .idle ∨ (s.port p).state = .standby ∨
        (((s.port p).state = .opening ∨ (s.port p).state = .trayOpen ∨ (s.port p).state = .closing) ∧
          s.disc (.tray p) = none ∧ ∀ m j, s.transport.move = some m → m.req.kind ≠ .feed p j)) →
      exec (.linkDown p) s = .next (State.settle s (State.raise { s with
        ports := upd s.ports p { (s.port p).clearCmd with
          state := .offline, link := false, resetting := false, errand := .none, step := .none, announce := true
          idleHeld := (s.port p).idleTime s.now }
        transport := { s.transport with queue := s.transport.queue.filter fun r => !r.kind.isFeedFor p } }
        (.portOffline p)))) ∧
    ((s.port p).state ∉ [.offline, .probe, .idle, .standby, .faulted] →
      ((s.port p).state ∉ [.opening, .trayOpen, .closing] ∨ (s.disc (.tray p)).isSome ∨
        ∃ m j, s.transport.move = some m ∧ m.req.kind = .feed p j) →
      ∃ u : State, exec (.linkDown p) s = .next (State.settle s u) ∧
        u.port p = { (s.port p).clearCmd with
          state := .faulted, link := false, resetting := false, errand := .none, step := .none, announce := true } ∧
        (∀ k, k ≠ p → u.port k = s.port k) ∧
        u.notices = { s.notices with port := s.notices.port.raise (.portFaulted p) } ∧
        u.transport = { s.transport with queue := s.transport.queue.filter fun r => !r.kind.ofPort p } ∧
        ((s.port p).state.burning = false → { u with
          ports := s.ports, transport := s.transport, notices := s.notices } = s) ∧
        ((s.port p).state.burning = true → u.verify p = none ∧ ∀ d, s.disc (.tray p) = some d → d.cause = none →
          u.disc (.tray p) = some { d with
            state := .scrap, cause := some .driveFault, lba := (s.member p).map Member.written }))

/-- R75, R76, R89: an identify answered GOOD (or RECOVERED) by an optical writer: in PROBE the port goes to IDLE, closes an
open tray, or makes an ORPHAN of a disc found and goes to DONE; in recovery it goes on to TRAY_CLOSE. ONLINE is raised where
it is due (log 20). The ORPHAN takes the next tag (R115). In VERIFYING (R88, R99 to R101) the TIMEOUT that led to the
identify is reported to the verify engine as a failed attempt: the block is read again below the retry limit, and at it the
disc fails UNREADABLE. -/
def Obligations.IdentifyDecides : Prop :=
  ∀ (s : State) (p : PortId) (a : Answer) (info : IdentifyInfo), s.owes p .identify →
    (a = .good ∨ ∃ n, a = .recovered n) → info.optical = true →
    let v := if (s.port p).announce then s.raise (.portOnline p) else s
    let q := { (s.port p).took .identify a with announce := false }
    ((s.port p).state = .probe → info.disc = false → info.trayOpen = false →
      exec (.identifyAnswer p a info) s = .next (State.settle s { v with ports := upd s.ports p { q with
        state := .idle, errand := .none, step := .none, idleSince := s.now, idleHeld := 0 } })) ∧
    ((s.port p).state = .probe → info.disc = false → info.trayOpen = true →
      exec (.identifyAnswer p a info) s = .next (State.settle s { v with
        ports := upd s.ports p (q.issue s.now s.timing .closeTray 0) })) ∧
    ((s.port p).state = .probe → info.disc = true → ∃ tag : Half, s.nextTag tag ∧
      exec (.identifyAnswer p a info) s = .next (State.settle s { v with
        ports := upd s.ports p { q with state := .done, errand := .none, step := .none }
        places := upd s.places (Place.tray p).idx (some {
          tag := tag, job := none, state := .orphan, dest := none, port := some p, pass := none, grade := none
          metrics := none, serial := none, void := false, cause := none, lba := none })
        tagCounter := tag + 1 })) ∧
    ((s.port p).state = .checking → exec (.identifyAnswer p a info) s = .next (State.settle s { v with
      ports := upd s.ports p (Port.issue s.now s.timing .closeTray 0 { q with step := .trayClose }) })) ∧
    ∀ (x : Verify) (d : Disc), (s.port p).state = .verifying → s.verify p = some x → s.disc (.tray p) = some d →
      (x.reissues < s.timing.retry → exec (.identifyAnswer p a info) s = .next (State.settle s { v with
        ports := upd s.ports p (Port.issue s.now s.timing (.readBlock (256 * x.block) x.blockLen) 0 q)
        verifies := upd s.verifies p (some { x with
          crc := 0xFFFFFFFF, received := 0, reissues := x.reissues + 1, lastFailure := none }) })) ∧
      (s.timing.retry ≤ x.reissues → ∃ u : State, exec (.identifyAnswer p a info) s = .next (State.settle s u) ∧
        u.port p = { q with state := .done, errand := .none, step := .none } ∧ u.verify p = none ∧
        u.disc (.tray p) = some { d with
          state := .graded, grade := some .fail, cause := some .unreadable, lba := some (256 * x.block)
          metrics := some ⟨x.peak, if x.sectors = 0 then 0 else min 65535 ((2000 * x.sum + x.sectors) / (2 * x.sectors)),
            x.blocks, x.sectors⟩ } ∧
        u.notices = v.notices ∧ u.passes = s.passes ∧ u.memory = s.memory)

/-- R77 to R82, R89: what a tray open, a tray close, a sleep or a wake that succeeds makes of the port (NO_DISC succeeds for
a tray); a sleep or wake that fails otherwise than by HARDWARE. The idle time kept at the entry to STANDBY is log 11, the
media check for no sectors of a record without a job or map log 39. That a sleep answered GOOD leads to STANDBY also under an
interval of 0 loaded meanwhile is the model's reading (log 47), and so is that a tray closed over a record is followed by the
media check also after a FEED that stalled in RELEASE (log 18). -/
def Obligations.TraySleepAndWakeAnswers : Prop :=
  ∀ (s : State) (p : PortId) (a : Answer),
    let q := fun c => (s.port p).took c a
    let idle := fun c => { q c with
      state := PortState.idle, errand := .none, step := .none, idleSince := s.now, idleHeld := 0 }
    let noFeed := ∀ r ∈ s.transport.queue, ∀ j, r.kind ≠ .feed p j
    let fails := (∃ l, a = .mediaError l) ∨ a = .noDisc ∨ a = .notBlank ∨ a = .tooSmall ∨ a = .aborted
    let len := fun d : Disc => (d.job.map fun j => (s.job j).length).getD 0
    (s.owes p .openTray → (a = .good ∨ a = .noDisc ∨ ∃ n, a = .recovered n) → (s.port p).state = .opening →
      ((s.port p).errand ≠ .feed ∨ ¬ noFeed → exec (.trayAnswer p a) s = .next (State.settle s { s with
        ports := upd s.ports p { (q .openTray) with state := .trayOpen } })) ∧
      ((s.port p).errand = .feed → noFeed → exec (.trayAnswer p a) s = .next (State.settle s { s with
        ports := upd s.ports p (Port.issue s.now s.timing .closeTray 0 { (q .openTray) with state := .closing }) }))) ∧
    (s.owes p .closeTray → (a = .good ∨ a = .noDisc ∨ ∃ n, a = .recovered n) →
      ((s.port p).state = .probe ∨ (((s.port p).state = .closing ∨ (s.port p).state = .checking) ∧
          s.disc (.tray p) = none) →
        exec (.trayAnswer p a) s = .next (State.settle s { s with ports := upd s.ports p (idle .closeTray) })) ∧
      (∀ d, s.disc (.tray p) = some d → ((s.port p).state = .closing ∨
          ((s.port p).state = .checking ∧ (d.state = .feeding ∨ d.state = .loaded))) →
        exec (.trayAnswer p a) s = .next (State.settle s { s with
          ports := upd s.ports p (Port.issue s.now s.timing (.mediaCheck (len d)) 0 { (q .closeTray) with
            state := .checking, errand := .none, step := .none }) })) ∧
      (∀ d, s.disc (.tray p) = some d → (s.port p).state = .checking → d.state ≠ .feeding → d.state ≠ .loaded →
        exec (.trayAnswer p a) s = .next (State.settle s { s with ports := upd s.ports p { (q .closeTray) with
          state := .done, errand := .none, step := .none } }))) ∧
    (s.owes p .sleep →
      ((a = .good ∨ ∃ n, a = .recovered n) → exec (.sleepAnswer p a) s = .next (State.settle s { s with
        ports := upd s.ports p { (q .sleep) with state := .standby, idleHeld := (s.port p).idleTime s.now } })) ∧
      (fails → exec (.sleepAnswer p a) s = .next (State.settle s { s with
        ports := upd s.ports p { (q .sleep) with idleSince := s.now } }))) ∧
    (s.owes p .wake → (s.port p).state = .standby →
      ((a = .good ∨ ∃ n, a = .recovered n) → noFeed → exec (.wakeAnswer p a) s = .next (State.settle s { s with
        ports := upd s.ports p (idle .wake) })) ∧
      ((a = .good ∨ ∃ n, a = .recovered n) → ¬ noFeed → exec (.wakeAnswer p a) s = .next (State.settle s { s with
        ports := upd s.ports p (Port.issue s.now s.timing .openTray 0 { (q .wake) with
          state := .opening, errand := .feed }) })) ∧
      (fails → exec (.wakeAnswer p a) s = .next (State.settle s { s with
        ports := upd s.ports p (Port.issue s.now s.timing .identify 0 { (q .wake) with
          state := .probe, errand := .none, step := .none })
        transport := { s.transport with queue := s.transport.queue.filter fun r => !r.kind.isFeedFor p } })))

/-- R50, R83, R124: a media check that succeeds makes the blank LOADED, or ARMED in a FORMING wave, while its job is RUNNING,
and RETURNING when the job drains or halts; NOT_BLANK and TOO_SMALL scrap it; NO_DISC loses it. R71, R75, R82, R83, R90:
NOT_READY keeps any command in flight for 100 ms (a WRITE) or 500 ms; a failing answer to a class the port retries is issued
again below the retry limit, and at it decides; HARDWARE takes the port to FAULTED. A record without a fault cause is taken
to have no fault LBA (R116). The earlier entries of a port armed again in the same pass stand (R48); that of 16 entries the
first that has left the wave gives way to a new one is the model's choice (log 17), and so is when ONLINE is due again
(log 20); that another kind of device is retried in VERIFYING is its reading (log 24). -/
def Obligations.MediaChecksAndRetries : Prop :=
  (∀ (s : State) (p : PortId) (n : Nat) (a : Answer) (d : Disc) (j : JobId), s.owes p (.mediaCheck n) →
    (s.port p).state = .checking → s.disc (.tray p) = some d → d.job = some j → d.cause = none →
    d.lba = none →
    let q := (s.port p).took (.mediaCheck n) a
    let ends := fun (st : PortState) (e : Disc) => { s with
      ports := upd s.ports p { q with state := st, errand := .none, step := .none }
      places := upd s.places (Place.tray p).idx (some e) }
    ((a = .good ∨ ∃ k, a = .recovered k) →
      ((s.job j).state = .running → (∀ x, s.pass j = some x → x.state ≠ .forming) →
        exec (.mediaCheckAnswer p a) s = .next (State.settle s { s with
          ports := upd s.ports p { q with state := .loaded }
          places := upd s.places (Place.tray p).idx (some { d with state := .loaded }) })) ∧
      (∀ x, (s.job j).state = .running → s.pass j = some x → x.state = .forming →
        let left := fun m : Member => decide (m.status ≠ .armed ∧ m.status ≠ .writing)
        let kept := if x.wave.length < 16 then x.wave else x.wave.eraseP left
        (x.member p = none → exec (.mediaCheckAnswer p a) s = .next (State.settle s { s with
          ports := upd s.ports p { q with state := .armed }
          places := upd s.places (Place.tray p).idx (some { d with state := .loaded, pass := some x.number })
          passes := upd s.passes j (some { x with
            wave := kept.filter (fun m => decide (m.port ≤ p)) ++ [⟨p, d.tag, 0, none, .armed⟩] ++
              kept.filter (fun m => decide (p < m.port)) }) })) ∧
        (x.member p ≠ none → exec (.mediaCheckAnswer p a) s = .next (State.settle s { s with
          ports := upd s.ports p { q with state := .loaded }
          places := upd s.places (Place.tray p).idx (some { d with state := .loaded }) }))) ∧
      ((s.job j).state ≠ .running → exec (.mediaCheckAnswer p a) s =
        .next (State.settle s (ends .done { d with state := .returning })))) ∧
    (a = .notBlank → exec (.mediaCheckAnswer p a) s = .next (State.settle s
      (ends .done { d with state := .scrap, cause := some .notBlank }))) ∧
    (a = .tooSmall → exec (.mediaCheckAnswer p a) s = .next (State.settle s
      (ends .done { d with state := .scrap, cause := some .tooSmall }))) ∧
    (a = .noDisc → ∃ u : State, exec (.mediaCheckAnswer p a) s = .next (State.settle s u) ∧
      u.port p = { q with
        state := .idle, errand := .none, step := .none, idleSince := s.now, idleHeld := 0 } ∧
      u.disc (.tray p) = none ∧ (∀ r, r ≠ .tray p → u.disc r = s.disc r) ∧
      (u.job j).counters = { (s.job j).counters with lost := satInc max32 (s.job j).counters.lost } ∧
      (s.notices.reports.length + (if s.notices.reserved then 1 else 0) < Config.reportRoom →
        u.notices = { s.notices with reports := s.notices.reports ++
          [⟨{ d with dest := none }, none, some .noDisc, some (.tray p)⟩] } ∧ u.unreported = s.unreported))) ∧
  ∀ (s : State) (p : PortId) (c : DriveCmd) (info : IdentifyInfo), s.owes p c →
    let inProbe := (s.port p).state = .probe ∨ (s.port p).state = .checking ∨ (s.port p).state = .verifying
    let errs := fun a : Answer => (∃ l, a = .mediaError l) ∨ a = .notBlank ∨ a = .tooSmall ∨ a = .aborted
    let other := fun a : Answer => (a = .good ∨ ∃ k, a = .recovered k) ∧ info.optical = false
    let fails := fun a : Answer =>
      (c = .identify ∧ inProbe ∧ (errs a ∨ a = .noDisc ∨ (other a ∧ (s.port p).state ≠ .checking))) ∨
      ((c = .openTray ∨ c = .closeTray) ∧ errs a) ∨
      ((∃ n, c = .mediaCheck n) ∧ ((∃ l, a = .mediaError l) ∨ a = .aborted))
    let faults := fun (a : Answer) (u : State) => exec (answerRow p a info c) s = .next (State.settle s u) ∧
      u.port p = { ((s.port p).took c a).goto s.now .faulted with errand := .none, step := .none, announce := true } ∧
      u.notices = { s.notices with port := s.notices.port.raise (.portFaulted p) } ∧
      (∀ k, k ≠ p → u.port k = s.port k) ∧ ∀ q, q ≠ .tray p → u.disc q = s.disc q
    exec (answerRow p .notReady info c) s = .next (State.settle s { s with ports := upd s.ports p { s.port p with
      lastOutcome := some (c.cls, .answer .notReady), reissueAt := some (s.now + if c.cls = .write then 100 else 500)
      answerDue := none, transferred := 0, paused := false, pauseDue := none, answerHeld := none } }) ∧
    (∀ a, fails a → (s.port p).retries < s.timing.retry →
      exec (answerRow p a info c) s = .next (State.settle s { s with
        ports := upd s.ports p
          (Port.issue s.now s.timing c ((s.port p).retries + 1) ((s.port p).took c a)) })) ∧
    (∀ a, (fails a ∧ s.timing.retry ≤ (s.port p).retries ∧
          ((c = .identify ∧ (s.port p).state ≠ .verifying) ∨ c = .openTray ∨ c = .closeTray)) ∨
        (c = .identify ∧ (s.port p).state = .checking ∧ other a) →
      (s.port p).state ≠ .faulted → ∃ u : State, faults a u ∧ u.places = s.places) ∧
    (∀ a d, c = .identify → (s.port p).state = .verifying → s.disc (.tray p) = some d → d.cause = none →
      (a = .hardware ∨ (fails a ∧ s.timing.retry ≤ (s.port p).retries)) → ∃ u : State, faults a u ∧
        u.verify p = none ∧ u.disc (.tray p) = some { d with
          state := .scrap, cause := some .driveFault, lba := none }) ∧
    (∀ a n d, c = .mediaCheck n → fails a → s.timing.retry ≤ (s.port p).retries →
      s.disc (.tray p) = some d → d.cause = none → d.lba = none → (s.port p).state = .checking →
      exec (answerRow p a info c) s = .next (State.settle s { s with
        ports := upd s.ports p { (s.port p).took c a with state := .done, errand := .none, step := .none }
        places := upd s.places (Place.tray p).idx
          (some { d with state := .scrap, cause := some .checkError }) })) ∧
    ((c = .identify → inProbe) → (s.port p).state ≠ .faulted →
      ∃ u : State, exec (answerRow p .hardware info c) s = .next (State.settle s u) ∧
        (u.port p).state = .faulted ∧ (u.port p).cmd = none ∧ (u.port p).lastOutcome = some (c.cls, .answer .hardware) ∧
        u.notices = { s.notices with port := s.notices.port.raise (.portFaulted p) } ∧
        (∀ k, k ≠ p → u.port k = s.port k) ∧ ∀ q, q ≠ .tray p → u.disc q = s.disc q)

/-- R54 to R56, R85, R87, R96: a write that succeeds raises the member's W by its segment's sectors, and at L takes the
member to FINISHED and the port to synchronise; a MEDIA_ERROR scraps the disc with WRITE_ERROR; synchronise leads to
finalise; finalise grades the disc UNVERIFIED or hands it to the verify engine; their MEDIA_ERROR is a FINISH_ERROR. -/
def Obligations.WriteAndFinishAnswers : Prop :=
  ∀ (s : State) (p : PortId) (a : Answer),
    (∀ seg j x m, s.owes p (.writeSegment seg) → (s.port p).state = .writing → s.waveOf p = some j →
      s.pass j = some x → x.member p = some m → m.inFlight = some seg →
      let q := (s.port p).took (.writeSegment seg) a
      let w := m.written + min 16 ((s.job j).length - 16 * seg)
      let y := x.mapMember p fun m => { m with
        written := m.written + min 16 ((s.job j).length - 16 * seg), inFlight := none }
      ((a = .good ∨ ∃ k, a = .recovered k) → w ≠ (s.job j).length → exec (.writeAnswer p a) s =
        .next (State.settle s { s with ports := upd s.ports p q, passes := upd s.passes j (some y) })) ∧
      ((a = .good ∨ ∃ k, a = .recovered k) → w = (s.job j).length → exec (.writeAnswer p a) s =
        .next (State.settle s { s with
          ports := upd s.ports p (Port.issue s.now s.timing .synchronise 0 { q with state := .finishing })
          passes := upd s.passes j (some { (y.mapMember p fun m => { m with status := .finished }) with
            finished := satInc 16 x.finished }) })) ∧
      (∀ l d, a = .mediaError l → s.disc (.tray p) = some d → d.cause = none →
        ∃ (u : State) (y : Pass), exec (.writeAnswer p a) s = .next (State.settle s u) ∧
          u.port p = { q with state := .done, errand := .none, step := .none } ∧
          u.disc (.tray p) = some { d with
            state := .scrap, cause := some .writeError, lba := some (l.getD (16 * seg)) } ∧
          u.pass j = some y ∧ y.member p = none ∧ y.failed = satInc 16 x.failed ∧ y.comp = x.comp)) ∧
    (s.owes p .synchronise → (a = .good ∨ ∃ k, a = .recovered k) → exec (.syncAnswer p a) s =
      .next (State.settle s { s with
        ports := upd s.ports p (Port.issue s.now s.timing .finalise 0 ((s.port p).took .synchronise a)) })) ∧
    (∀ d j, s.owes p .finalise → (s.port p).state = .finishing → s.disc (.tray p) = some d → d.job = some j →
      (a = .good ∨ ∃ k, a = .recovered k) →
      let q := (s.port p).took .finalise a
      let g := s.profile (s.job j).profile
      (g.mode = .none → exec (.finaliseAnswer p a) s = .next (State.settle s { s with
        ports := upd s.ports p { q with state := .done, errand := .none, step := .none }
        places := upd s.places (Place.tray p).idx (some { d with state := .graded, grade := some .unverified }) })) ∧
      (g.mode ≠ .none →
        let n := blockLength (s.job j).length 0
        exec (.finaliseAnswer p a) s = .next (State.settle s { s with
          ports := upd s.ports p (Port.issue s.now s.timing (.readBlock 0 n) 0 { q with state := .verifying })
          places := upd s.places (Place.tray p).idx (some { d with state := .verifying })
          verifies := upd s.verifies p (some {
            job := j, tag := d.tag, sampled := decide (g.mode = .sampled), stride := g.stride
            planned := plannedCount (decide (g.mode = .sampled)) g.stride (blockCount (s.job j).length), position := 0
            block := 0, blockLen := n, reissues := 0, crc := 0xFFFFFFFF, received := 0, lastFailure := none, peak := 0
            sum := 0, sectors := 0, blocks := 0 }) }))) ∧
    (∀ c d l, (c = .synchronise ∨ c = .finalise) → s.owes p c → (s.port p).state = .finishing → s.waveOf p = none →
      s.disc (.tray p) = some d → d.cause = none → a = .mediaError l →
      ∃ u : State, exec (answerRow p a noInfo c) s = .next (State.settle s u) ∧
        u.port p = { (s.port p).took c a with state := .done, errand := .none, step := .none } ∧
        u.disc (.tray p) = some { d with state := .scrap, cause := some .finishError, lba := l } ∧
        u.passes = s.passes)

/-- R97 to R108, R178: a sector of a read is absorbed; a complete read is counted, then a CRC that differs from the digest
table fails the disc with MISMATCH, a peak above the peak fail level with PEAK; otherwise the next block of the coverage is
read, or at its end the mean and the levels decide FAIL with MEAN, MARGINAL or PASS. A failed attempt (MEDIA_ERROR, another
failing outcome, or a good answer after fewer sectors) is read again below the retry limit, and at it fails the disc
UNREADABLE; a TIMEOUT first resets the link and identifies. A FAIL is handed to the fault record of the disc's job. (The clock
of the TIMEOUT is log 1's, the identify's wait for the link log 5's.) -/
def Obligations.VerifyReadsAndGrades : Prop :=
  ∀ (s : State) (p : PortId) (v : Verify) (d : Disc), s.verify p = some v → s.disc (.tray p) = some d →
    (s.port p).state = .verifying →
    let len := (s.job v.job).length
    let g := s.profile (s.job v.job).profile
    let graded := fun (l n : Nat) (a : Answer) (m : Metrics) (e : Disc) => ∃ u : State,
      exec (.readAnswer p a) s = .next (State.settle s u) ∧
      u.port p = { (s.port p).took (.readBlock l n) a with state := .done, errand := .none, step := .none } ∧
      u.verify p = none ∧ u.disc (.tray p) = some { e with state := .graded, metrics := some m } ∧
      u.passes = s.passes ∧ u.memory = s.memory ∧
      ∀ j, u.job j = if e.grade = some .fail ∧ d.job = some j
        then { s.job j with fault := some (match (s.job j).fault with
          | none => ⟨e.cause.getD .mismatch, d.pass, some p, e.lba, some d.tag, 0⟩
          | some f => { f with further := satInc 255 f.further }) }
        else s.job j
    (∀ data l n, s.resetHeld = false → (s.port p).cmd = some (.readBlock l n) → (s.port p).ending = false →
      (s.port p).paused = false → (s.port p).reissueAt = none → v.received < v.blockLen →
      exec (.readSector p data) s = .next { s with
        ports := upd s.ports p { s.port p with transferred := min 256 ((s.port p).transferred + 1) }
        verifies := upd s.verifies p (some { v with crc := crcRun v.crc data, received := v.received + 1 }) }) ∧
    (∀ l n a k, s.owes p (.readBlock l n) → ((a = .good ∧ k = 0) ∨ a = .recovered k) → v.received = v.blockLen →
      let load := min 65535 (min 65535 k + g.weight * v.reissues)
      let sum := v.sum + load
      let sectors := v.sectors + v.blockLen
      let peak := max v.peak load
      let mean := if sectors = 0 then 0 else min 65535 ((2000 * sum + sectors) / (2 * sectors))
      let m : Metrics := ⟨peak, mean, v.blocks + 1, sectors⟩
      let fails := fun c lba => graded l n a m { d with grade := some .fail, cause := some c, lba := lba }
      (crcValue v.crc ≠ s.memory.digest v.job v.block → fails .mismatch (some (256 * v.block))) ∧
      (crcValue v.crc = s.memory.digest v.job v.block →
        (g.peakFail < peak → fails .peak (some (256 * v.block))) ∧
        (peak ≤ g.peakFail → v.position + 1 < v.planned →
          let b := coverageBlock v.sampled v.stride (blockCount len) (v.position + 1)
          exec (.readAnswer p a) s = .next (State.settle s { s with
            ports := upd s.ports p (Port.issue s.now s.timing (.readBlock (256 * b) (blockLength len b)) 0
              ((s.port p).took (.readBlock l n) a))
            verifies := upd s.verifies p (some { v with
              block := b, blockLen := blockLength len b, position := v.position + 1, reissues := 0
              lastFailure := none, crc := 0xFFFFFFFF, received := 0, blocks := v.blocks + 1, sectors := sectors
              sum := sum, peak := peak }) })) ∧
        (peak ≤ g.peakFail → v.planned ≤ v.position + 1 →
          (g.meanFail < mean → fails .mean none) ∧
          (mean ≤ g.meanFail → (g.peakWarn < peak ∨ g.meanWarn < mean) →
            graded l n a m { d with grade := some .marginal }) ∧
          (mean ≤ g.meanFail → peak ≤ g.peakWarn → mean ≤ g.meanWarn →
            graded l n a m { d with grade := some .pass })))) ∧
    (∀ l n a f, s.owes p (.readBlock l n) →
      (a = .mediaError f ∨ (f = none ∧ ((a = .noDisc ∨ a = .notBlank ∨ a = .tooSmall ∨ a = .aborted) ∨
        ((a = .good ∨ ∃ k, a = .recovered k) ∧ v.received ≠ v.blockLen)))) →
      let at_ := f.filter fun x => decide (256 * v.block ≤ x ∧ x < 256 * v.block + v.blockLen)
      (v.reissues < s.timing.retry → exec (.readAnswer p a) s = .next (State.settle s { s with
        ports := upd s.ports p (Port.issue s.now s.timing (.readBlock (256 * v.block) v.blockLen) 0
          ((s.port p).took (.readBlock l n) a))
        verifies := upd s.verifies p (some { v with
          crc := 0xFFFFFFFF, received := 0, reissues := v.reissues + 1, lastFailure := at_ }) })) ∧
      (s.timing.retry ≤ v.reissues → graded l n a
        ⟨v.peak, if v.sectors = 0 then 0 else min 65535 ((2000 * v.sum + v.sectors) / (2 * v.sectors)), v.blocks,
          v.sectors⟩
        { d with grade := some .fail, cause := some .unreadable, lba := some (at_.getD (256 * v.block)) })) ∧
    ∀ l n, s.resetHeld = false → (s.port p).cmd = some (.readBlock l n) → (s.port p).ending = false →
      (s.port p).paused = false → (s.port p).reissueAt = none → (s.port p).afterReset = none →
      exec (.commandTimeout p) s = .next (State.settle s { s with
        now := max s.now ((s.port p).answerDue.getD 0)
        ports := upd s.ports p { (s.port p).clearCmd with
          link := false, resetting := true, afterReset := some .identify, retries := 0
          lastOutcome := some (.read, .timeout) } })

/-- R97: the coverage of a verify: the planned count, and the blocks in ascending order, each at most once, the last block
of the image among them. -/
def Obligations.CoverageIsPlanned : Prop :=
  (∀ b : Nat, 0 < b → ∀ k, plannedCount false k b = b ∧ ∀ i, coverageBlock false k b i = i) ∧
  ∀ k b : Nat, 2 ≤ k → 0 < b →
    plannedCount true k b = (b - 1) / k + 1 + (if (b - 1) % k = 0 then 0 else 1) ∧
    (∀ i, i + 1 < plannedCount true k b → coverageBlock true k b i < coverageBlock true k b (i + 1)) ∧
    coverageBlock true k b (plannedCount true k b - 1) = b - 1 ∧
    ∀ n, (∃ i, i < plannedCount true k b ∧ coverageBlock true k b i = n) ↔ (n < b ∧ k ∣ n) ∨ n = b - 1

/-- R70 to R73, R86: a timeout, at its answer time, at a pause's limit, or at the end of a NOT_READY wait that has used up
the class's time, is the outcome TIMEOUT and resets the link. Then: a write's disc is SCRAP with WRITE_TIMEOUT at W, that of
synchronise and finalise with FINISH_ERROR, and the port recovers; identify, tray and media check are issued again below the
limit, at which the port is FAULTED, a disc in VERIFYING SCRAP with DRIVE_FAULT, a checked blank SCRAP with CHECK_ERROR (R75,
R79 to R83, R87 to R90); a sleep leaves the port IDLE with idle time 0, a wake sends it to PROBE without its FEED requests
(R77, R78), a read identifies first (R88). A NOT_READY wait with time left reissues the command. An answer to
an ended command, or none in time, clears it. (The clock is log 1's; the wait for the link log 5's; that the reissue of a
READ leaves its verify context's CRC and count standing is log 42.) -/
def Obligations.DriveTimeouts : Prop :=
  ∀ (s : State) (p : PortId) (c : DriveCmd), s.resetHeld = false → (s.port p).cmd = some c →
    let timedOut := fun (e : Instr) (at_ : Nat) => ∃ u : State, exec e s = .next (State.settle s u) ∧
      u.now = max s.now at_ ∧ (u.port p).link = false ∧ (u.port p).resetting = true ∧ (u.port p).cmd = none ∧
      (u.port p).lastOutcome = some (c.cls, .timeout) ∧ (∀ k, k ≠ p → u.port k = s.port k) ∧
      (∀ q, q ≠ .tray p → u.disc q = s.disc q) ∧ u.memory = s.memory ∧
      (∀ seg d, c = .writeSegment seg → s.disc (.tray p) = some d → d.cause = none →
        (u.port p).state = .checking ∧ (u.port p).step = .identify ∧ (u.port p).afterReset = some .identify ∧
        u.disc (.tray p) = some { d with
          state := .scrap, cause := some .writeTimeout, lba := (s.member p).map Member.written }) ∧
      (∀ d, (c = .synchronise ∨ c = .finalise) → s.disc (.tray p) = some d → d.cause = none →
        (u.port p).state = .checking ∧ (u.port p).step = .identify ∧ (u.port p).afterReset = some .identify ∧
        u.disc (.tray p) = some { d with state := .scrap, cause := some .finishError, lba := none } ∧
        (s.waveOf p = none → u.passes = s.passes)) ∧
      ((c = .openTray ∨ c = .closeTray ∨ (∃ n, c = .mediaCheck n) ∨
          (c = .identify ∧ (s.port p).state ∈ [.probe, .checking, .verifying])) →
        (s.port p).retries < s.timing.retry → (u.port p).state = (s.port p).state ∧
        (u.port p).afterReset = some c ∧ (u.port p).retries = (s.port p).retries + 1 ∧ u.places = s.places ∧
        u.transport = s.transport ∧ u.notices = s.notices) ∧
      (s.timing.retry ≤ (s.port p).retries → (s.port p).state ≠ .faulted →
        ((c = .openTray ∨ c = .closeTray ∨ (c = .identify ∧ (s.port p).state ∈ [.probe, .checking, .verifying])) →
          (u.port p).state = .faulted ∧ (u.port p).errand = .none ∧ (u.port p).step = .none ∧
          (u.port p).afterReset = none ∧
          u.notices = { s.notices with port := s.notices.port.raise (.portFaulted p) } ∧
          u.transport = { s.transport with queue := s.transport.queue.filter fun r => !r.kind.ofPort p }) ∧
        ((c = .openTray ∨ c = .closeTray ∨ (c = .identify ∧ (s.port p).state ∈ [.probe, .checking])) →
          u.places = s.places) ∧
        (∀ d, c = .identify → (s.port p).state = .verifying → s.disc (.tray p) = some d → d.cause = none →
          u.verify p = none ∧ u.disc (.tray p) = some { d with
            state := .scrap, cause := some .driveFault, lba := none }) ∧
        (∀ n d, c = .mediaCheck n → s.disc (.tray p) = some d → d.cause = none →
          (u.port p).state = .done ∧ (u.port p).afterReset = none ∧ u.disc (.tray p) = some { d with
            state := .scrap, cause := some .checkError, lba := none } ∧ u.jobs = s.jobs)) ∧
      (c = .sleep → (u.port p).state = (s.port p).state ∧ (u.port p).afterReset = none ∧
        ((s.port p).state = .idle → (u.port p).idleTime u.now = 0) ∧ u.places = s.places ∧ u.transport = s.transport) ∧
      (c = .wake → (u.port p).state = .probe ∧ (u.port p).afterReset = some .identify ∧ u.places = s.places ∧
        u.transport = { s.transport with queue := s.transport.queue.filter fun r => !r.kind.isFeedFor p }) ∧
      (∀ l n, c = .readBlock l n → (u.port p).state = (s.port p).state ∧ (u.port p).afterReset = some .identify ∧
        u.places = s.places ∧ u.verifies = s.verifies)
    ((s.port p).ending = false → (s.port p).paused = false → (s.port p).reissueAt = none →
      (s.port p).afterReset = none → timedOut (.commandTimeout p) ((s.port p).answerDue.getD 0)) ∧
    ((s.port p).paused = true → timedOut (.pauseLimitExpiry p) ((s.port p).pauseDue.getD 0)) ∧
    (∀ t f, (s.port p).reissueAt = some t → (s.port p).firstIssue = some f →
      (max s.now t - f < s.timing.timeout c.cls → exec (.notReadyReissue p) s = .next (State.settle s { s with
        now := max s.now t
        ports := upd s.ports p { s.port p with
          reissueAt := none, transferred := 0, answerDue := some (max s.now t + s.timing.timeout c.cls) } })) ∧
      (s.timing.timeout c.cls ≤ max s.now t - f → timedOut (.notReadyReissue p) t)) ∧
    ((s.port p).ending = true →
      (∀ a, exec (.endedCommandAnswer p a) s = .next (State.settle s { s with
        ports := upd s.ports p (s.port p).clearCmd })) ∧
      exec (.endingTimeout p) s = .next (State.settle s { s with
        now := max s.now ((s.port p).endingDue.getD 0)
        ports := upd s.ports p { (s.port p).clearCmd with link := false, resetting := true } }))

/-- R26, R73, R77, R85: a data phase pauses and resumes with its answer time held; a sector of a write goes from its ring
slot; an idle port whose interval is reached issues sleep. The latch of what was sent is the model's (log 12), and so is the
clock that the interval's end moves on (log 1). -/
def Obligations.DataPhasesAndStandby : Prop :=
  ∀ (s : State) (p : PortId), s.resetHeld = false →
    (∀ c, (s.port p).cmd = some c → (c.cls = .write ∨ c.cls = .read) → (s.port p).ending = false →
      (s.port p).reissueAt = none → (s.port p).paused = false →
      exec (.dataPhasePause p) s = .next { s with ports := upd s.ports p { s.port p with
        paused := true, answerHeld := (s.port p).answerDue.map fun d => d - s.now, answerDue := none
        pauseDue := some (s.now + 100 * s.timing.pause) } }) ∧
    ((s.port p).paused = true → exec (.dataPhaseResume p) s = .next { s with ports := upd s.ports p { s.port p with
      paused := false, pauseDue := none, answerDue := (s.port p).answerHeld.map fun d => s.now + d
      answerHeld := none } }) ∧
    (∀ seg j, (s.port p).cmd = some (.writeSegment seg) → s.waveOf p = some j → (s.port p).ending = false →
      (s.port p).paused = false → (s.port p).reissueAt = none →
      (s.port p).transferred < min 16 ((s.job j).length - 16 * seg) →
      exec (.writeSectorTransferred p) s = .next { s with
        ports := upd s.ports p { s.port p with transferred := (s.port p).transferred + 1 }
        lines := { s.lines with drive := upd s.lines.drive p (some (16 * seg + (s.port p).transferred,
          s.memory.sector j ((16 * seg + (s.port p).transferred) % (16 * (s.job j).ring)))) } }) ∧
    ((s.port p).state = .idle → (s.port p).cmd = none → (s.port p).afterReset = none → s.timing.standby ≠ 0 →
      let t := max s.now ((s.port p).idleSince + 15000 * s.timing.standby)
      exec (.standbyIntervalReached p) s = .next (State.settle s { s with
        now := t, ports := upd s.ports p (Port.issue t s.timing .sleep 0 (s.port p)) }))

/-! ## Transport -/

/-- R133, R135, R136, R142, R146: HOME, PAUSE, RESUME and HOST MOVE in the states in which they are taken, and STATE in the
others; a RESUME with no move reads the gripper: a disc that no record names becomes an ORPHAN with the next tag (R115), a
disc on the arm gets a RECOVER request, and a record at ARM that is not sensed is lost. A HOST MOVE's destination is one at
which R119's table lets the record arrive. The latch of the arm line is the model's (log 12). -/
def Obligations.TransportCommandsAct : Prop :=
  (∀ (s : State) (d : Disc) (st : Station), s.mayArrive d st = true ↔ (match st with
    | .tray _ => False
    | .shelf _ | .platter => d.state = .graded ∧ ∃ j, d.job = some j ∧ (s.job j).template.isSome ∧
        (d.grade = some .pass ∨ d.grade = some .unverified ∨
          (d.grade = some .marginal ∧ (s.profile (s.job j).profile).printMarginal = true))
    | .out .x => True
    | .out .o0 => (d.state = .graded ∨ d.state = .finished) ∧ (d.grade = some .pass ∨ d.grade = some .unverified)
    | .out .o1 => (d.state = .graded ∨ d.state = .finished) ∧ d.grade = some .marginal
    | .bin i => (d.state = .feeding ∨ d.state = .returning) ∧ ∃ j, d.job = some j ∧ (s.job j).bin = i)) ∧
  ∀ (h : CmdHdr) (s : State), s.takes →
    let ok := fun c u => exec c s = .next (State.settle s.countGood (State.answer u (okTo h)))
    let refused := fun c r => ∃ t, exec c s = .next t ∧ State.replies s.countGood t ⟨h.tag, r, [], false⟩
    let with_ := fun t => { s.countGood with transport := t }
    (h.len = 4 →
      ((s.transport.state = .unhomed ∨ s.transport.state = .fault ∨
          (s.transport.state = .paused ∧ s.transport.move = none)) →
        ok (.transportHome h) { s.countGood with
          transport := { s.transport with
            state := .homing, pausePending := false, cause := none, station := none
            homingDue := some (s.now + 20000) }
          lines := { s.lines with arm := some .home } }) ∧
      ((s.transport.state = .ready ∨ s.transport.state = .homing) → refused (.transportHome h) .state) ∧
      (s.transport.state = .ready → s.transport.move = none →
        ok (.transportPause h) (with_ { s.transport with state := .paused })) ∧
      (s.transport.state = .ready → s.transport.move.isSome →
        ok (.transportPause h) (with_ { s.transport with pausePending := true })) ∧
      (s.transport.state = .paused → ok (.transportPause h) s.countGood) ∧
      (s.transport.state ∉ [.ready, .paused] → refused (.transportPause h) .state) ∧
      (s.transport.state = .ready → ok (.transportResume h) (with_ { s.transport with pausePending := false })) ∧
      ((s.transport.state = .paused ∨ s.transport.state = .fault) →
        (s.transport.move.isSome ∨ (s.disc .arm = none ∧ s.sensors.gripPresent = false)) →
        ok (.transportResume h) (with_ { s.transport with
          state := .ready, cause := none, station := none, pausePending := false
          held := if s.transport.state = .fault then [] else s.transport.held })) ∧
      ((s.transport.state = .paused ∨ s.transport.state = .fault) → s.transport.move = none →
        let reads := fun u : State =>
          exec (.transportResume h) s = .next (State.settle s.countGood (State.answer u (okTo h))) ∧
          u.transport.state = .ready ∧ u.transport.cause = none ∧ u.transport.station = none ∧
          u.transport.pausePending = false ∧ u.ports = s.ports ∧ u.sensors = s.sensors ∧
          ∀ q, q ≠ .arm → u.disc q = s.disc q
        (s.disc .arm = none → s.sensors.gripPresent = true →
          ∃ u d, reads u ∧ u.disc .arm = some d ∧ d.state = .orphan ∧ d.job = none ∧ s.nextTag d.tag ∧
            u.tagCounter = d.tag + 1 ∧ ∃ r ∈ u.transport.queue, r.kind = .recover .arm d.tag) ∧
        (∀ d, s.disc .arm = some d → s.sensors.gripPresent = true →
          ∃ u, reads u ∧ u.disc .arm = some d ∧ ∃ r ∈ u.transport.queue, r.kind = .recover .arm d.tag) ∧
        (∀ d, s.disc .arm = some d → s.sensors.gripPresent = false → ∃ u, reads u ∧ u.disc .arm = none ∧
          (s.notices.reports.length + (if s.notices.reserved then 1 else 0) < Config.reportRoom →
            u.notices.reports = s.notices.reports ++
              [⟨{ d with dest := none }, none, some .discMissing, some .arm⟩]))) ∧
      ((s.transport.state = .unhomed ∨ s.transport.state = .homing) → refused (.transportResume h) .state)) ∧
    (∀ src dst : Byte, h.len = 12 →
      (s.transport.state ∉ [.paused, .fault] → refused (.hostMove h src dst) .state) ∧
      (s.transport.state ∈ [.paused, .fault] →
        ((∀ q : Place, src.toNat = q.code → s.disc q = none) → (∃ st : Station, dst.toNat = st.code ∧
          ∀ n, st ≠ .tray n) → refused (.hostMove h src dst) (.invalid 0)) ∧
        (∀ (q : Place) (st : Station) (d : Disc), src.toNat = q.code → dst.toNat = st.code → s.disc q = some d →
          (s.mayArrive d st = false → refused (.hostMove h src dst) (.invalid 1)) ∧
          (s.mayArrive d st = true → 2 ≤ (s.transport.queue.filter fun r => r.kind.isHost).length →
            refused (.hostMove h src dst) .noSpace) ∧
          (s.mayArrive d st = true → (s.transport.queue.filter fun r => r.kind.isHost).length < 2 →
            ok (.hostMove h src dst) (with_ { s.transport with
              queue := s.transport.queue ++ [⟨.host q st d.tag, s.transport.arrival⟩]
              arrival := s.transport.arrival + 1 })))))

/-- R117, R119, R120, R122, R123, R133, R144 to R146, R161, R165: what the arm's reports make of the move. An arrival leads to
GRIP and to RELEASE. A grip at an input bin creates a record at ARM with the next tag (R115), a SCRAP one at a double pick,
or finds no disc and marks the bin EMPTY; a grip at a place lifts its record, a tray then closes and a platter is emptied. A
release delivers, returns, prints, stores or lays the blank at its tray, which closes; a FAULTED port stands. A phase timeout
ends a grip or release alike. The clock is the model's (log 1), and so is the latch of the arm and print lines (log 12). That
a double pick's FEED request comes before its RECOVER request is the model's reading (log 14), and that a disc lost from the
platter keeps its grade its choice (log 51). -/
def Obligations.MovesGoThroughTheirPhases : Prop :=
  ∀ (s : State) (m : Move), s.resetHeld = false → s.transport.move = some m → s.transport.state ≠ .homing →
    let goes := fun (ph : Phase) (now ms : Nat) => some { m with phase := ph, due := now + ms }
    (m.phase = .toSource → exec .armArrived s = .next (State.settle s { s with
      transport := { s.transport with move := goes .grip s.now 1500 }, lines := { s.lines with arm := some .grip } })) ∧
    (m.phase = .toDest → exec .armArrived s = .next (State.settle s { s with
      transport := { s.transport with move := goes .release s.now 1500 }
      lines := { s.lines with arm := some .release } })) ∧
    ∀ (c : Instr) (now : Nat), (m.phase = .grip ∧ c = .gripDone ∨ m.phase = .release ∧ c = .releaseDone) ∧ now = s.now ∨
        (m.phase = .grip ∧ c = .gripTimeout ∨ m.phase = .release ∧ c = .releaseTimeout) ∧ now = max s.now m.due →
      let fresh := fun (tag : Half) (j : JobId) (st : DiscState) (dest : Station) (cause : Option FaultCause) => ({
        tag := tag, job := some j, state := st, dest := some dest, port := none, pass := none, grade := none
        metrics := none, serial := none, void := false, cause := cause, lba := none } : Disc)
      let picked := fun j => upd s.jobs j { s.job j with counters := { (s.job j).counters with
        picked := satInc max32 (s.job j).counters.picked } }
      let stops := fun u : State => exec c s = .next (State.settle s u) ∧ u.now = now ∧ u.transport.move = none ∧
        u.transport.pausePending = false ∧ u.notices.reserved = false ∧ u.sensors = s.sensors ∧
        u.transport.state = (if s.transport.pausePending = true ∧ s.transport.state = .ready then .paused
          else s.transport.state)
      let lost := fun (u : State) (d : Disc) (q : Place) =>
        s.notices.reports.length < Config.reportRoom → u.notices.reports = s.notices.reports ++
          [⟨{ d with dest := none }, none, some .discMissing, some q⟩]
      let printing := s.printer.state = .loaded ∨ s.printer.state = .waitRibbon ∨ s.printer.state = .printing
      let emptied : Printer := if s.printer.state = .done
        then { s.printer with state := .empty, label := none, timerDue := none, tag := none }
        else { s.printer with tag := none }
      let spoiled : Printer := { s.printer with state := .fault, label := none, timerDue := none, tag := none }
      (∀ i p j, m.phase = .grip → m.source = .bin i → m.req.kind = .feed p j → s.sensors.gripPresent = true →
        s.sensors.gripDouble = false → ∃ tag : Half, s.nextTag tag ∧
          exec c s = .next (State.settle s { s with
            now := now
            places := upd s.places Place.arm.idx (some (fresh tag j .feeding (.tray p) none))
            tagCounter := tag + 1, jobs := picked j
            transport := { s.transport with move := goes .toDest now 6000 }
            lines := { s.lines with arm := some (.goTo m.dest) } })) ∧
      (∀ i p j, m.phase = .grip → m.source = .bin i → m.req.kind = .feed p j → s.sensors.gripPresent = true →
        s.sensors.gripDouble = true → s.assigned p = some j →
        ∃ (tag : Half) (u : State), s.nextTag tag ∧ stops u ∧ u.tagCounter = tag + 1 ∧ u.jobs = picked j ∧
          u.places = upd s.places Place.arm.idx (some (fresh tag j .scrap (.out .x) (some .doublePick))) ∧
          let feeds := (s.port p).state = .trayOpen ∧ (s.port p).errand = .feed ∧ (s.job j).state = .running ∧
            ((s.job j).target = 0 ∨ (u.discsOf j).length + (s.job j).counters.deliveredPass
              + (s.job j).counters.deliveredMarginal + (s.job j).counters.deliveredUnverified
              + (s.transport.queue.filter fun r => r.kind.isFeedOf j).length < (s.job j).target)
          let has := ∃ r ∈ s.transport.queue, r.kind = .recover .arm tag
          (feeds → ¬ has → u.transport.queue = s.transport.queue ++ [⟨.feed p j, s.transport.arrival⟩,
            ⟨.recover .arm tag, s.transport.arrival + 1⟩]) ∧
          (¬ feeds → ¬ has → u.transport.queue = s.transport.queue ++ [⟨.recover .arm tag, s.transport.arrival⟩]) ∧
          (feeds → has → u.transport.queue = s.transport.queue ++ [⟨.feed p j, s.transport.arrival⟩]) ∧
          (¬ feeds → has → u.transport.queue = s.transport.queue)) ∧
      (∀ i p j, m.phase = .grip → m.source = .bin i → m.req.kind = .feed p j → s.sensors.gripPresent = false →
        ∃ u : State, stops u ∧ nth u.transport.marks i = true ∧ m.req ∈ u.transport.queue ∧
          u.notices.transport = s.notices.transport.raise (.binEmpty i) ∧ u.places = s.places ∧ u.jobs = s.jobs) ∧
      (∀ n d, m.phase = .grip → m.source = .place (.tray n) → s.disc (.tray n) = some d → s.sensors.gripPresent = true →
        (s.port n).state = .trayOpen → exec c s = .next (State.settle s { s with
          now := now
          places := upd (upd s.places (Place.tray n).idx none) Place.arm.idx (some { d with dest := some m.dest })
          ports := upd s.ports n (Port.issue now s.timing .closeTray 0 { s.port n with state := .closing })
          transport := { s.transport with move := goes .toDest now 6000 }
          lines := { s.lines with arm := some (.goTo m.dest) } })) ∧
      (∀ q d, m.phase = .grip → m.source = .place q → (q = .arm ∨ (∃ k, q = .shelf k) ∨
          ∃ n, q = .tray n ∧ (s.port n).state = .faulted) → s.disc q = some d →
        s.sensors.gripPresent = true → exec c s = .next (State.settle s { s with
          now := now
          places := upd (upd s.places q.idx none) Place.arm.idx (some { d with dest := some m.dest })
          transport := { s.transport with
            move := goes .toDest now 6000
            shelfOrder := s.transport.shelfOrder.filter fun k => decide (q ≠ .shelf k) }
          lines := { s.lines with arm := some (.goTo m.dest) } })) ∧
      (∀ d, m.phase = .grip → m.source = .place .platter → s.disc .platter = some d → s.sensors.gripPresent = true →
        let lifted := fun e : Disc => upd (upd s.places Place.platter.idx none) Place.arm.idx (some e)
        (¬ printing → exec c s = .next (State.settle s { s with
          now := now, places := lifted { d with dest := some m.dest }, printer := emptied
          transport := { s.transport with move := goes .toDest now 6000 }
          lines := { s.lines with arm := some (.goTo m.dest) } })) ∧
        (printing → d.cause = none → exec c s = .next (State.settle s { s with
          now := now, printer := spoiled
          places := lifted { d with
            dest := some m.dest, state := .scrap, cause := some .printFault, lba := none, grade := none
            void := d.serial.isSome }
          notices := { s.notices with printer := s.notices.printer.raise .printerFault }
          transport := { s.transport with move := goes .toDest now 6000 }
          lines := { s.lines with arm := some (.goTo m.dest) } }))) ∧
      (∀ q d, m.phase = .grip → m.source = .place q → q ≠ .platter → s.disc q = some d → s.sensors.gripPresent = false →
        ∃ u : State, stops u ∧ u.disc q = none ∧ (∀ r, r ≠ q → u.disc r = s.disc r) ∧ lost u d q ∧
          ∀ n, u.port n = if q = .tray n ∧ (s.port n).state = .trayOpen
            then Port.issue now s.timing .closeTray 0 { s.port n with state := .closing } else s.port n) ∧
      (∀ d, m.phase = .grip → m.source = .place .platter → s.disc .platter = some d → s.sensors.gripPresent = false →
        ∃ u : State, stops u ∧ u.disc .platter = none ∧ (∀ r, r ≠ .platter → u.disc r = s.disc r) ∧
          (¬ printing → u.printer = emptied ∧ lost u d .platter) ∧
          (printing → u.printer = spoiled ∧ lost u { d with void := d.serial.isSome } .platter ∧
            u.notices.printer = s.notices.printer.raise .printerFault)) ∧
      (∀ b d j, m.phase = .release → m.dest = .out b → s.disc .arm = some d → d.job = some j →
        s.sensors.gripPresent = false → s.notices.reserved = true → ∃ u : State, stops u ∧ u.disc .arm = none ∧
          (u.job j).counters = (let x := (s.job j).counters
            match b with
            | .x => { x with rejected := satInc max32 x.rejected }
            | .o1 => { x with deliveredMarginal := satInc max32 x.deliveredMarginal }
            | .o0 => if d.grade = some .unverified
              then { x with deliveredUnverified := satInc max32 x.deliveredUnverified }
              else { x with deliveredPass := satInc max32 x.deliveredPass }) ∧
          (b ≠ .x → (s.job j).state = .running → (s.job j).target ≠ 0 → (u.job j).counters.deliveredPass
            + (u.job j).counters.deliveredMarginal + (u.job j).counters.deliveredUnverified = (s.job j).target →
            (u.job j).state = .draining) ∧
          u.notices.reports = s.notices.reports ++ [⟨{ d with dest := none }, some b, none, none⟩]) ∧
      (∀ b d, m.phase = .release → m.dest = .out b → s.disc .arm = some d → d.job = none →
        s.sensors.gripPresent = false → s.notices.reserved = true → ∃ u : State, stops u ∧
          u.places = upd s.places Place.arm.idx none ∧ u.jobs = s.jobs ∧
          u.notices.reports = s.notices.reports ++ [⟨{ d with dest := none }, some b, none, none⟩]) ∧
      (∀ i d j, m.phase = .release → m.dest = .bin i → s.disc .arm = some d → d.job = some j →
        s.sensors.gripPresent = false → ∃ u : State, stops u ∧ u.places = upd s.places Place.arm.idx none ∧
          u.jobs = upd s.jobs j { s.job j with counters := { (s.job j).counters with
            returned := satInc max32 (s.job j).counters.returned } } ∧
          u.notices.reports = s.notices.reports ∧ u.unreported = s.unreported) ∧
      (∀ n d, m.phase = .release → m.dest = .tray n → s.disc .arm = some d → s.sensors.gripPresent = false →
        ∃ u : State, stops u ∧ u.disc .arm = none ∧ u.disc (.tray n) = some { d with dest := none, port := some n } ∧
          ((s.port n).state = .trayOpen →
            u.port n = Port.issue now s.timing .closeTray 0 { s.port n with state := .closing }) ∧
          ((s.port n).state = .faulted → u.port n = s.port n)) ∧
      (∀ k d, m.phase = .release → m.dest = .shelf k → s.disc .arm = some d → s.sensors.gripPresent = false →
        ∃ u : State, stops u ∧
          u.places = upd (upd s.places Place.arm.idx none) (Place.shelf k).idx (some { d with dest := none }) ∧
          u.transport.shelfOrder = s.transport.shelfOrder ++ (if d.state = .graded then [k] else []) ∧
          u.jobs = s.jobs ∧ u.notices.reports = s.notices.reports) ∧
      (∀ d, m.phase = .release → m.dest = .platter → s.disc .arm = some d → s.sensors.gripPresent = false →
        let laid := fun e : Disc => upd (upd s.places Place.arm.idx none) Place.platter.idx (some e)
        (d.state = .graded → ∃ u : State, stops u ∧ u.places = laid { d with dest := none, state := .printing } ∧
          u.printer = { s.printer with
            state := .loaded, tag := some d.tag, timerDue := some (now + 60000), label := none } ∧
          u.lines = { s.lines with print := some .announce } ∧ u.jobs = s.jobs) ∧
        (d.state ≠ .graded → d.state ≠ .printing → ∃ u : State, stops u ∧ u.places = laid { d with dest := none } ∧
          u.printer = s.printer ∧ u.lines = s.lines)) ∧
      (m.phase = .release → s.sensors.gripPresent = true → ∃ u : State, exec c s = .next (State.settle s u) ∧
        u.transport.state = .fault ∧ u.transport.cause = some .releaseFail ∧ u.transport.station = some m.dest ∧
        u.transport.move = none ∧ u.places = s.places ∧ u.notices.reserved = false)

/-- R144, R146, R147: a stall or a travel timeout ends the move in FAULT with ARM_STALL, the request back in the queue before
the grip, the record kept at ARM after it; a gripper sensor that clears in TO_DEST loses the disc as DROPPED. A stall in GRIP
or RELEASE ends the phase: the sensors decide as at its end, a record at ARM keeps its destination, the reservation is given
up, and transport is in FAULT with ARM_STALL at the phase's station. That a FEED's port is then held whatever the sensors show
is the model's reading (log 18), that a disc lost from the platter keeps its grade its choice (log 51), and so is that a HOST
request goes back beside two others (log 54); the latch of the print line is the model's (log 12). -/
def Obligations.MovesFail : Prop :=
  ∀ (s : State) (m : Move), s.resetHeld = false → s.transport.move = some m → s.transport.state ≠ .homing →
    let faults := fun (c : Instr) (cause : TransportCause) (st : Option Station) (kept : Prop) => ∃ u : State,
      exec c s = .next (State.settle s u) ∧ u.transport.state = .fault ∧ u.transport.cause = some cause ∧
      u.transport.station = st ∧ u.transport.move = none ∧ u.transport.pausePending = false ∧
      u.notices.transport = s.notices.transport.raise (.transportFault st) ∧ u.notices.reserved = false ∧
      u.ports = s.ports ∧ (kept → u.places = s.places ∧ u.notices.reports = s.notices.reports ∧ u.jobs = s.jobs) ∧
      (m.phase = .toSource → u.transport.queue = s.transport.requeue m.req) ∧
      (m.phase = .toDest → u.transport.queue = s.transport.queue ∧ ∀ p j, m.req.kind = .feed p j →
        p ∈ u.transport.held)
    (∀ c, c = .armStalled ∨ c = .travelTimeout →
      (m.phase = .toSource → faults c .armStall m.source.station True) ∧
      (m.phase = .toDest → faults c .armStall (some m.dest) True)) ∧
    (m.phase = .toDest → s.sensors.gripPresent = true → ∀ d, s.disc .arm = some d →
      faults (.gripperSensorChange .present false) .dropped (some m.dest) False ∧
      ∃ u : State, exec (.gripperSensorChange .present false) s = .next (State.settle s u) ∧ u.disc .arm = none ∧
        u.sensors = { s.sensors with gripPresent := false } ∧ (∀ q, q ≠ .arm → u.disc q = s.disc q) ∧
        ((if s.notices.reserved then m.reserved = true else s.notices.reports.length < Config.reportRoom) →
          u.notices.reports = s.notices.reports ++ [⟨{ d with dest := none }, none, some .dropped, some .arm⟩])) ∧
    let stalls := fun (u : State) (st : Option Station) => exec .armStalled s = .next (State.settle s u) ∧
      u.transport.state = .fault ∧ u.transport.cause = some .armStall ∧ u.transport.station = st ∧
      u.transport.move = none ∧ u.transport.pausePending = false ∧ u.notices.reserved = false ∧ u.sensors = s.sensors ∧
      (∀ p j, m.req.kind = .feed p j → p ∈ u.transport.held) ∧ u.pendingPair (.transportFault st) = true
    let fresh := fun (tag : Half) (j : JobId) (st : DiscState) (dest : Station) (cause : Option FaultCause) => ({
      tag := tag, job := some j, state := st, dest := some dest, port := none, pass := none, grade := none
      metrics := none, serial := none, void := false, cause := cause, lba := none } : Disc)
    let lost := fun (u : State) (d : Disc) (q : Place) =>
      s.notices.reports.length < Config.reportRoom → u.notices.reports = s.notices.reports ++
        [⟨{ d with dest := none }, none, some .discMissing, some q⟩]
    let printing := s.printer.state = .loaded ∨ s.printer.state = .waitRibbon ∨ s.printer.state = .printing
    let emptied : Printer := if s.printer.state = .done
      then { s.printer with state := .empty, label := none, timerDue := none, tag := none }
      else { s.printer with tag := none }
    let spoiled : Printer := { s.printer with state := .fault, label := none, timerDue := none, tag := none }
    let atTray := fun (u : State) (q : Place) => ∀ n, u.port n = if q = .tray n ∧ (s.port n).state = .trayOpen
      then Port.issue s.now s.timing .closeTray 0 { s.port n with state := .closing } else s.port n
    (∀ i p j, m.phase = .grip → m.source = .bin i → m.req.kind = .feed p j →
      (s.sensors.gripPresent = false → ∃ u : State, stalls u (some (.bin i)) ∧ nth u.transport.marks i = true ∧
        u.transport.queue = s.transport.requeue m.req ∧ u.pendingPair (.binEmpty i) = true ∧ u.places = s.places ∧
        u.ports = s.ports ∧ u.jobs = s.jobs) ∧
      (s.sensors.gripPresent = true → ∃ (tag : Half) (u : State), s.nextTag tag ∧ stalls u (some (.bin i)) ∧
        u.tagCounter = tag + 1 ∧ u.ports = s.ports ∧ u.jobs = upd s.jobs j { s.job j with counters := { (s.job j).counters with
          picked := satInc max32 (s.job j).counters.picked } } ∧
        (s.sensors.gripDouble = false → u.transport.queue = s.transport.queue ∧
          u.places = upd s.places Place.arm.idx (some (fresh tag j .feeding (.tray p) none))) ∧
        (s.sensors.gripDouble = true →
          u.places = upd s.places Place.arm.idx (some (fresh tag j .scrap (.out .x) (some .doublePick))) ∧
          ∃ r ∈ u.transport.queue, r.kind = .recover .arm tag))) ∧
    (∀ q d, m.phase = .grip → m.source = .place q → s.disc q = some d → s.sensors.gripPresent = true →
      let lifted := fun e : Disc => upd (upd s.places q.idx none) Place.arm.idx (some { e with dest := some m.dest })
      ∃ u : State, stalls u q.station ∧ u.transport.queue = s.transport.queue ∧ u.jobs = s.jobs ∧ atTray u q ∧
        u.notices.reports = s.notices.reports ∧
        u.transport.shelfOrder = (s.transport.shelfOrder.filter fun k => decide (q ≠ .shelf k)) ∧
        (q ≠ .platter → u.places = lifted d ∧ u.printer = s.printer) ∧
        (q = .platter → ¬ printing → u.places = lifted d ∧ u.printer = emptied) ∧
        (q = .platter → printing → d.cause = none → u.printer = spoiled ∧ u.places = lifted { d with
          state := .scrap, cause := some .printFault, lba := none, grade := none, void := d.serial.isSome })) ∧
    (∀ q d, m.phase = .grip → m.source = .place q → s.disc q = some d → s.sensors.gripPresent = false →
      ∃ u : State, stalls u q.station ∧ u.transport.queue = s.transport.queue ∧ u.disc q = none ∧
        (∀ r, r ≠ q → u.disc r = s.disc r) ∧ atTray u q ∧
        (q ≠ .platter → lost u d q ∧ u.printer = s.printer) ∧
        (q = .platter → ¬ printing → lost u d .platter ∧ u.printer = emptied) ∧
        (q = .platter → printing → lost u { d with void := d.serial.isSome } .platter ∧ u.printer = spoiled)) ∧
    (m.phase = .release → s.sensors.gripPresent = true → ∃ u : State, stalls u (some m.dest) ∧
      u.transport.queue = s.transport.queue ∧ u.places = s.places ∧ u.ports = s.ports ∧ u.jobs = s.jobs ∧
      u.notices.reports = s.notices.reports) ∧
    ∀ d, m.phase = .release → s.sensors.gripPresent = false → s.disc .arm = some d →
      let laid := fun (q : Place) (e : Disc) =>
        upd (upd s.places Place.arm.idx none) q.idx (some { e with dest := none })
      ∃ u : State, stalls u (some m.dest) ∧ u.transport.queue = s.transport.queue ∧
        (∀ b, m.dest = .out b → s.notices.reserved = true → u.disc .arm = none ∧
          (d.job = none → u.jobs = s.jobs) ∧
          (∀ j, d.job = some j → (u.job j).counters = (let x := (s.job j).counters
            match b with
            | .x => { x with rejected := satInc max32 x.rejected }
            | .o1 => { x with deliveredMarginal := satInc max32 x.deliveredMarginal }
            | .o0 => if d.grade = some .unverified
              then { x with deliveredUnverified := satInc max32 x.deliveredUnverified }
              else { x with deliveredPass := satInc max32 x.deliveredPass })) ∧
          u.notices.reports = s.notices.reports ++ [⟨{ d with dest := none }, some b, none, none⟩]) ∧
        (∀ i, m.dest = .bin i → u.places = upd s.places Place.arm.idx none ∧ u.ports = s.ports ∧
          u.notices.reports = s.notices.reports ∧ (∀ j, d.job = some j → u.jobs = upd s.jobs j { s.job j with
            counters := { (s.job j).counters with returned := satInc max32 (s.job j).counters.returned } })) ∧
        (∀ n, m.dest = .tray n → u.places = laid (.tray n) { d with port := some n } ∧ u.ports = s.ports ∧
          u.jobs = s.jobs ∧ u.notices.reports = s.notices.reports) ∧
        (∀ k, m.dest = .shelf k → u.places = laid (.shelf k) d ∧ u.ports = s.ports ∧ u.jobs = s.jobs ∧
          u.transport.shelfOrder = s.transport.shelfOrder ++ (if d.state = .graded then [k] else [])) ∧
        (m.dest = .platter → u.ports = s.ports ∧ u.jobs = s.jobs ∧
          (d.state = .graded → u.places = laid .platter { d with state := .printing } ∧ u.printer = { s.printer with
            state := .loaded, tag := some d.tag, timerDue := some (s.now + 60000), label := none } ∧
            u.lines = { s.lines with print := some .announce }) ∧
          (d.state ≠ .graded → d.state ≠ .printing → u.places = laid .platter d ∧ u.printer = s.printer ∧
            u.lines = s.lines))

/-- R133, R134, R136, R141: homing ends READY at the arm's arrival, with the EMPTY marks of the live sensors and an inventory
that loses what is not sensed, and makes an ORPHAN of what no record names, place after place, each with the next tag
(R115); each ORPHAN there, and the record at ARM, has a RECOVER request then; it ends in FAULT at a stall or after its time (the clock is the model's, log 1). A record lost is counted for its job
and reported DISC_MISSING at its place, or counted as unreported (R124, R127); one lost from the platter empties the printer,
or spoils its label and sets VOID (R165). That an ORPHAN found at ARM has no destination is the model's reading (log 21), and
that a disc lost from the platter keeps its grade in its report is its choice (log 51). -/
def Obligations.HomingEnds : Prop :=
  ∀ s : State, s.resetHeld = false → s.transport.state = .homing →
    (∃ u : State, exec .armArrived s = .next (State.settle s u) ∧
      u.transport.state = .ready ∧ u.transport.homingDue = none ∧ u.transport.held = [] ∧
      u.transport.marks = s.sensors.bins.empty ∧ u.ports = s.ports ∧ u.sensors = s.sensors ∧
      u.notices.transport = s.notices.transport.raise .homed ∧
      (∀ n, u.disc (.tray n) = s.disc (.tray n)) ∧
      (∀ q v, (q = .arm ∧ v = s.sensors.gripPresent) ∨ (q = .platter ∧ v = s.sensors.platter) ∨
          (∃ k, q = .shelf k ∧ v = nth s.sensors.shelf k) →
        (v = false → u.disc q = none) ∧
        (∀ d, v = true → s.disc q = some d → u.disc q = some d) ∧
        (v = true → s.disc q = none → ∃ d, u.disc q = some d ∧ d.state = .orphan ∧ d.job = none ∧
          (∀ r e, r ≠ q → u.disc r = some e → e.tag ≠ d.tag) ∧
          (s.transport.move = none → ∃ r ∈ u.transport.queue, r.kind = .recover q d.tag)) ∧
        (∀ d, v = true → s.disc q = some d → (d.state = .orphan ∨ q = .arm) → s.transport.move = none →
          ∃ r ∈ u.transport.queue, r.kind = .recover q d.tag)) ∧
      (let lost := s.sensors.platter = false ∧ s.disc .platter ≠ none
      let printing := s.printer.state = .loaded ∨ s.printer.state = .waitRibbon ∨ s.printer.state = .printing
      (¬ lost → u.printer = s.printer ∧ u.notices.printer = s.notices.printer) ∧
      (lost → ¬ printing → u.notices.printer = s.notices.printer ∧ u.printer = (if s.printer.state = .done
        then { s.printer with state := .empty, label := none, timerDue := none, tag := none }
        else { s.printer with tag := none })) ∧
      (lost → printing → u.notices.printer = s.notices.printer.raise .printerFault ∧
        u.printer = { s.printer with state := .fault, label := none, timerDue := none, tag := none })) ∧
      ∃ w : Nat → State, w 0 = s ∧ (w 6).places = u.places ∧ (w 6).tagCounter = u.tagCounter ∧
        (w 6).notices.reports = u.notices.reports ∧ (w 6).unreported = u.unreported ∧ (w 6).jobs = u.jobs ∧
        ∀ (i : Nat) (q : Place) (v : Bool), [(Place.shelf 0, nth s.sensors.shelf 0), (.shelf 1, nth s.sensors.shelf 1),
            (.shelf 2, nth s.sensors.shelf 2), (.shelf 3, nth s.sensors.shelf 3), (.platter, s.sensors.platter),
            (.arm, s.sensors.gripPresent)][i]? = some (q, v) →
          (∀ r, r ≠ q → (w (i + 1)).disc r = (w i).disc r) ∧
          ((v = false ∨ (s.disc q).isSome) → (w (i + 1)).tagCounter = (w i).tagCounter) ∧
          ((v = true ∨ s.disc q = none) → (w (i + 1)).notices.reports = (w i).notices.reports ∧
            (w (i + 1)).unreported = (w i).unreported ∧ (w (i + 1)).jobs = (w i).jobs) ∧
          (∀ d, v = false → s.disc q = some d →
            let printing := s.printer.state = .loaded ∨ s.printer.state = .waitRibbon ∨ s.printer.state = .printing
            let room := (w i).notices.reports.length + (if s.notices.reserved then 1 else 0) < Config.reportRoom
            let reports := fun e : Disc => (w (i + 1)).notices.reports = (w i).notices.reports ++
              [⟨{ e with dest := none }, none, some .discMissing, some q⟩] ∧ (w (i + 1)).unreported = (w i).unreported
            (room → ¬ (q = .platter ∧ printing) → reports d) ∧
            (room → q = .platter → printing → reports { d with void := d.serial.isSome }) ∧
            (¬ room → (w (i + 1)).notices.reports = (w i).notices.reports ∧
              (w (i + 1)).unreported = satInc 65535 (w i).unreported) ∧
            ∀ j, (w (i + 1)).job j = if d.job = some j then { (w i).job j with counters := { ((w i).job j).counters with
              lost := satInc max32 ((w i).job j).counters.lost } } else (w i).job j) ∧
          (v = true → s.disc q = none → ∃ tag, (w i).nextTag tag ∧ (w (i + 1)).tagCounter = tag + 1 ∧
            (w (i + 1)).disc q = some {
              tag := tag, job := none, state := .orphan, dest := none, port := none, pass := none, grade := none
              metrics := none, serial := none, void := false, cause := none, lba := none })) ∧
    ∀ c now, (c = .armStalled ∧ now = s.now) ∨ (c = .homingTimeout ∧ now = max s.now (s.transport.homingDue.getD 0)) →
      exec c s = .next (State.settle s (State.raise { s with
        now := now
        transport := { s.transport with
          state := .fault, cause := some .armStall, station := none, homingDue := none, move := none
          pausePending := false }
        notices := { s.notices with reserved := false } } (.transportFault none)))

/-- R131, R139, R141, R148, R149: a bin sensor that changes marks an input bin and, when quiet and unlike its latch, latches
and raises its cause; the present sensors of the shelf and the platter and the double sensor only move their level; a
gripper that closes on no record makes an ORPHAN with the next tag (R115) and a RECOVER request, and a record at ARM that
the gripper no longer senses is lost as DROPPED, transport in FAULT. That the row of the gripper's sensors carries the double
sensor too, which then moves its level alone, is the model's choice (log 22). -/
def Obligations.SensorsChange : Prop :=
  ∀ s : State, s.resetHeld = false →
    (∀ (k : BinSensor) (v : Bool) (c : Instr), (∃ i, k = .input i ∧ c = .inputBinSensorChange i v) ∨
        (∃ b, k = .full b ∧ c = .fullSensorChange b v) → s.sensors.bins.get k ≠ v →
      let quiet := s.pendingPair (k.notice true) = false ∧ s.pendingPair (k.notice false) = false
      ∃ u : State, exec c s = .next (State.settle s u) ∧
        u.sensors = { s.sensors with bins := s.sensors.bins.set k v } ∧ u.sensors.bins.get k = v ∧
        (∀ i, nth u.transport.marks i = if k = .input i then v else nth s.transport.marks i) ∧
        u.transport = { s.transport with marks := u.transport.marks, latched := u.transport.latched } ∧
        (quiet → v ≠ s.transport.latched.get k → u.transport.latched = s.transport.latched.set k v ∧
          u.notices = { s.notices with transport := s.notices.transport.raise (k.notice v) }) ∧
        ((¬ quiet ∨ v = s.transport.latched.get k) → u.transport.latched = s.transport.latched ∧
          u.notices = s.notices) ∧
        { u with transport := s.transport, sensors := s.sensors, notices := s.notices } = s) ∧
    (∀ k v, exec (.placeSensorChange (.shelf k) v) s = .next (State.settle s { s with
      sensors := { s.sensors with shelf := upd s.sensors.shelf k v } })) ∧
    (∀ v, exec (.placeSensorChange .platter v) s = .next (State.settle s { s with
      sensors := { s.sensors with platter := v } })) ∧
    (∀ v, exec (.gripperSensorChange .double v) s = .next { s with sensors := { s.sensors with gripDouble := v } }) ∧
    (s.sensors.gripPresent = false → s.transport.move = none → s.disc .arm = none →
      s.transport.state ∈ [.ready, .paused, .fault] →
      ∃ (u : State) (d : Disc), exec (.gripperSensorChange .present true) s = .next (State.settle s u) ∧
        u.disc .arm = some d ∧ d.state = .orphan ∧ d.job = none ∧ s.nextTag d.tag ∧ u.tagCounter = d.tag + 1 ∧
        (∃ r ∈ u.transport.queue, r.kind = .recover .arm d.tag) ∧
        u.sensors = { s.sensors with gripPresent := true } ∧ (∀ q, q ≠ .arm → u.disc q = s.disc q)) ∧
    ∀ d, s.sensors.gripPresent = true → s.transport.move = none → s.disc .arm = some d →
      s.transport.state ∈ [.ready, .paused, .fault] → ∃ u : State,
        exec (.gripperSensorChange .present false) s = .next (State.settle s u) ∧ u.disc .arm = none ∧
        u.sensors = { s.sensors with gripPresent := false } ∧ (∀ q, q ≠ .arm → u.disc q = s.disc q) ∧
        u.transport.state = .fault ∧ (s.transport.state ≠ .fault → u.transport.cause = some .dropped ∧
          u.transport.station = none ∧ u.notices.transport = s.notices.transport.raise (.transportFault none)) ∧
        (s.transport.state = .fault → u.transport = s.transport) ∧
        (s.notices.reports.length + (if s.notices.reserved then 1 else 0) < Config.reportRoom →
          u.notices.reports = s.notices.reports ++ [⟨{ d with dest := none }, none, some .dropped, some .arm⟩])

/-! ## Labels and the printer -/

/-- R154 to R156: a chunk of a raster replaces the bytes from its offset on, other bytes and templates stand; SET TEMPLATE
replaces the radii and the field list, the outer radius clamped to 511; LOAD GLYPHS replaces the table. A refusal carries
the index of its check. (A glyph count above 16 in a field other than TEXT, which no check judges, is taken: log 50.) -/
def Obligations.LabelTablesAreLoaded : Prop :=
  ∀ (h : CmdHdr) (s : State), s.takes → (∀ p d, s.disc p = some d → d.state ≠ .printing) →
    (∀ (b : Byte) (t : TemplateId) (o : Word) (ch : List Byte), b.toNat = t.val → h.len = 16 + ch.length →
      (1 ≤ ch.length → ch.length ≤ 4096 → o.toNat + ch.length ≤ 131072 →
        ∃ (u w : State), exec (.loadTemplate h b o ch) s = .next w ∧ State.replies u w (okTo h) ∧
          { u with memory := s.memory } = s.countGood ∧ u.memory.rings = s.memory.rings ∧
          u.memory.digests = s.memory.digests ∧
          ∀ k a, u.memory.raster k a = if k = t ∧ o.toNat ≤ a ∧ a < o.toNat + ch.length
            then ch.getD (a - o.toNat) 0 else s.memory.raster k a) ∧
      ((ch.length = 0 ∨ 4096 < ch.length ∨ 131072 < o.toNat + ch.length) →
        ∃ w, exec (.loadTemplate h b o ch) s = .next w ∧
          State.replies s.countGood w ⟨h.tag, .invalid 1, [], false⟩)) ∧
    (∀ (b : Byte) (t : TemplateId) (i o : Half) (fs : List FieldEntry), b.toNat = t.val →
      h.len = 20 + 24 * fs.length →
      let good := fun f : FieldEntry => 1 ≤ f.kind.toNat ∧ f.kind.toNat ≤ 5 ∧ f.x.toNat ≤ 1023 ∧ f.y.toNat ≤ 1023 ∧
        1 ≤ f.scale.toNat ∧ f.scale.toNat ≤ 4 ∧ 1 ≤ f.width.toNat ∧ f.width.toNat ≤ 16 ∧
        (f.kind = 1 → ∀ j, (s.job j).state ≠ .closed → (s.job j).template = some t →
          (s.job j).serialWidth ≤ f.width.toNat) ∧
        (f.kind = 3 → 1 ≤ f.count.toNat ∧ f.count.toNat ≤ f.width.toNat ∧
          ∀ g ∈ f.glyphs.toList.take f.count.toNat, g.toNat ≤ 15)
      (i.toNat < min 511 o.toNat → fs.length ≤ 8 → (∀ f ∈ fs, good f) → ∃ (l : List MergeField) (w : State),
        exec (.setTemplate h b i o fs) s = .next w ∧
        State.replies { s.countGood with templates := upd s.templates t ⟨i.toNat, min 511 o.toNat, l⟩ } w (okTo h) ∧
        l.length = fs.length ∧ ∀ (n : Nat) (f : FieldEntry) (x : MergeField), fs[n]? = some f → l[n]? = some x →
          x.x = f.x.toNat ∧ x.y = f.y.toNat ∧ x.scale = f.scale.toNat ∧ x.width = f.width.toNat ∧
          x.kind = (match f.kind.toNat with
            | 1 => .serial
            | 2 => .grade
            | 3 => .text
            | 4 => .pass
            | _ => .tag) ∧
          (f.kind = 3 → x.glyphs = f.glyphs.toList.take f.count.toNat)) ∧
      (min 511 o.toNat ≤ i.toNat → ∃ w, exec (.setTemplate h b i o fs) s = .next w ∧
        State.replies s.countGood w ⟨h.tag, .invalid 2, [], false⟩) ∧
      (i.toNat < min 511 o.toNat → 8 < fs.length → ∃ w, exec (.setTemplate h b i o fs) s = .next w ∧
        State.replies s.countGood w ⟨h.tag, .invalid 3, [], false⟩) ∧
      (∀ n f, i.toNat < min 511 o.toNat → fs.length ≤ 8 → fs[n]? = some f → ¬ good f →
        (∀ k e, k < n → fs[k]? = some e → good e) → ∃ w, exec (.setTemplate h b i o fs) s = .next w ∧
          State.replies s.countGood w ⟨h.tag, .invalid (4 + n), [], false⟩)) ∧
    (∀ gs, h.len = 772 → ∃ w, exec (.loadGlyphs h gs) s = .next w ∧
      State.replies { s.countGood with glyphs := gs } w (okTo h))

/-- R163, R166: RIBBON LOAD is taken in every printer state and sets the counter; a waiting label is committed by a count
that is not 0, and a RIBBON_OUT that is not outstanding withdrawn. PRINTER RESUME in FAULT with a free platter empties the
printer; with a disc on it it is refused BUSY, outside FAULT STATE. -/
def Obligations.RibbonLoadAndPrinterResume : Prop :=
  ∀ (h : CmdHdr) (s : State), s.takes →
    (∀ n : Half, h.len = 8 →
      let r := { s.countGood with printer := { s.printer with ribbon := n.toNat } }
      ((s.printer.state ≠ .waitRibbon ∨ n = 0) →
        exec (.ribbonLoad h n) s = .next (State.settle s.countGood (State.answer r (okTo h)))) ∧
      (∀ d j t, s.printer.state = .waitRibbon → n ≠ 0 → s.disc .platter = some d → d.job = some j →
        (s.job j).template = some t → ∃ (u : State) (cells : List (List (Option Nat))),
        exec (.ribbonLoad h n) s = .next (State.settle s.countGood (u.answer (okTo h))) ∧
        u.printer = { s.printer with
          ribbon := n.toNat - 1, state := .printing, rows := 0, timerDue := some (s.now + 60000)
          label := some ⟨t, cells⟩, lastWrap := u.printer.lastWrap } ∧
        cells.length = (s.template t).fields.length ∧ cells = (s.template t).fields.map (fieldCells (u.job j)
          ((u.disc .platter).getD d)) ∧
        (Notice.ribbonOut ∈ u.notices.printer.set ↔ s.notices.printer.outstanding = some .ribbonOut ∧
          Notice.ribbonOut ∈ s.notices.printer.set) ∧
        ((s.template t).fields.all (fun f => decide (f.kind ≠ .serial)) = true → u.jobs = s.jobs ∧
          u.places = s.places ∧ u.printer.lastWrap = s.printer.lastWrap) ∧
        ((s.template t).fields.any (fun f => decide (f.kind = .serial)) = true →
          u.disc .platter = some { d with serial := some (s.job j).serialNext, void := false } ∧
          u.jobs = upd s.jobs j { s.job j with
            serialNext := ((s.job j).serialNext + (s.job j).serialStep) % 10 ^ (s.job j).serialWidth } ∧
          (10 ^ (s.job j).serialWidth ≤ (s.job j).serialNext + (s.job j).serialStep →
            u.printer.lastWrap = some j ∧ Notice.serialWrap ∈ u.notices.printer.set)))) ∧
    (h.len = 4 →
      (s.printer.state = .fault → s.disc .platter = none → s.sensors.platter = false →
        exec (.printerResume h) s = .next (State.settle s.countGood (State.answer { s.countGood with
          printer := { s.printer with state := .empty, tag := none, timerDue := none } } (okTo h)))) ∧
      (s.printer.state = .fault → ((s.disc .platter).isSome ∨ s.sensors.platter = true) →
        ∃ t, exec (.printerResume h) s = .next t ∧ State.replies s.countGood t ⟨h.tag, .busy, [], false⟩) ∧
      (s.printer.state ≠ .fault →
        ∃ t, exec (.printerResume h) s = .next t ∧ State.replies s.countGood t ⟨h.tag, .state, [], false⟩))

/-- R157 to R164: READY in LOADED commits the label or waits for ribbon; a row leaves as the label gives it and is counted;
DONE after row 1,023 finishes the record; an early DONE, a FAULT report or the timer spoils the print; any report in
another state is discarded. A field's cells hold its content right-justified, a text from the left, and a content that needs
more cells glyph 10 in each (R158); a dot of the label is that of the last field whose box covers it, else the raster's,
within the annulus (R157, R159). The latch of the print line is the model's (log 12), the clock too (log 1). -/
def Obligations.PrinterReports : Prop :=
  (∀ (x : Job) (d : Disc) (f : MergeField),
    let digits := fun n : Nat => if n = 0 then [0] else (Nat.digits 10 n).reverse
    let fit := fun cs : List (Option Nat) => if f.width < cs.length then List.replicate f.width (some 10)
      else List.replicate (f.width - cs.length) none ++ cs
    (∀ n, f.kind = .serial → d.serial = some n → n < 10 ^ 9 → fieldCells x d f = fit
      (List.replicate (x.serialWidth - (digits n).length) (if x.serialPad = .zero then some 0 else none)
        ++ (digits n).map some)) ∧
    (∀ n, f.kind = .pass → d.pass = some n → fieldCells x d f = fit ((digits n.toNat).map some)) ∧
    (f.kind = .tag → fieldCells x d f = fit ((digits d.tag.toNat).map some)) ∧
    (∀ g, f.kind = .grade → d.grade = some g → g ≠ .fail → fieldCells x d f = fit [some (match g with
      | .pass => 12
      | .marginal => 13
      | _ => 14)]) ∧
    (f.kind = .text → fieldCells x d f =
      f.glyphs.map (fun g => some g.toNat) ++ List.replicate (f.width - f.glyphs.length) none)) ∧
  (∀ (raster : Nat → Byte) (gs : Vector Glyph 16) (t : Template) (cells : List (List (Option Nat))) (x y : Nat),
    let covers := fun f : MergeField =>
      f.x ≤ x ∧ x < f.x + 16 * f.scale * f.width ∧ f.y ≤ y ∧ y < f.y + 24 * f.scale
    let r : Int := ((x : Int) - 512) ^ 2 + ((y : Int) - 512) ^ 2
    let inside := (t.inner : Int) ^ 2 ≤ r ∧ r ≤ (t.outer : Int) ^ 2
    ((∀ f ∈ t.fields, ¬ covers f) → (labelDot raster gs t cells x y = true ↔
      inside ∧ (raster (128 * y + x / 8)).getLsbD (7 - x % 8) = true)) ∧
    ∀ (i : Nat) (f : MergeField) (cs : List (Option Nat)), t.fields[i]? = some f → cells[i]? = some cs → covers f →
      (∀ (k : Nat) (g : MergeField), i < k → t.fields[k]? = some g → ¬ covers g) →
      (labelDot raster gs t cells x y = true ↔ inside ∧ ∃ (g : Fin 16) (gy : Fin 24),
        cs[(x - f.x) / (16 * f.scale)]? = some (some g.val) ∧ gy.val = (y - f.y) / f.scale ∧
        (nth (nth gs g) gy).getLsbD (15 - (x - f.x) % (16 * f.scale) / f.scale) = true)) ∧
  (∀ (dot : Nat → Bool) (i k : Nat), k < 8 → (packByte dot i).getLsbD (7 - k) = dot (8 * i + k)) ∧
  (∀ s : State, s.resetHeld = false → (s.printer.state ≠ .loaded → exec .printerReady s = .next s) ∧
    (s.printer.state ≠ .printing → exec .printerDone s = .next s) ∧
    (s.printer.state ∉ [.loaded, .waitRibbon, .printing] → exec .printerFaultReport s = .next s)) ∧
  ∀ (s : State) (d : Disc), s.resetHeld = false → s.disc .platter = some d →
    (s.printer.state = .loaded → s.printer.ribbon = 0 → exec .printerReady s = .next (State.settle s (State.raise
      { s with printer := { s.printer with state := .waitRibbon, timerDue := none } } .ribbonOut))) ∧
    (∀ j t, s.printer.state = .loaded → s.printer.ribbon ≠ 0 → d.job = some j → (s.job j).template = some t →
      ∃ (u : State) (cells : List (List (Option Nat))), exec .printerReady s = .next (State.settle s u) ∧
        u.printer = { s.printer with
          ribbon := s.printer.ribbon - 1, state := .printing, rows := 0, timerDue := some (s.now + 60000)
          label := some ⟨t, cells⟩, lastWrap := u.printer.lastWrap } ∧
        cells = (s.template t).fields.map (fieldCells (u.job j) ((u.disc .platter).getD d)) ∧
        ((s.template t).fields.any (fun f => decide (f.kind = .serial)) = true →
          u.disc .platter = some { d with serial := some (s.job j).serialNext, void := false })) ∧
    (∀ l, s.printer.state = .printing → s.printer.rows < 1024 → s.printer.label = some l →
      exec .printRowSent s = .next { s with
        printer := { s.printer with rows := s.printer.rows + 1 }
        lines := { s.lines with print := some (.row s.printer.rows ((List.range 128).map (packByte fun x =>
          labelDot (s.memory.raster l.template) s.glyphs (s.template l.template) l.cells x s.printer.rows))) } }) ∧
    (s.printer.state = .printing → s.printer.rows = 1024 → exec .printerDone s = .next (State.settle s { s with
      places := upd s.places Place.platter.idx (some { d with state := .finished })
      printer := { s.printer with state := .done, timerDue := none, label := none }
      transport := { s.transport with
        queue := s.transport.queue ++ [⟨.printUnload d.tag, s.transport.arrival⟩]
        arrival := s.transport.arrival + 1 } })) ∧
    ∀ c now, (s.printer.state = .printing ∧ s.printer.rows ≠ 1024 ∧ c = .printerDone ∧ now = s.now) ∨
        (s.printer.state ∈ [.loaded, .waitRibbon, .printing] ∧ c = .printerFaultReport ∧ now = s.now) ∨
        (s.printer.state ∈ [.loaded, .printing] ∧ c = .printTimerExpiry ∧
          now = max s.now (s.printer.timerDue.getD 0)) →
      d.cause = none → exec c s = .next (State.settle s (State.raise { s with
        now := now
        places := upd s.places Place.platter.idx (some { d with
          state := .scrap, cause := some .printFault, lba := none, grade := none, void := d.serial.isSome })
        printer := { s.printer with state := .fault, timerDue := none, label := none }
        transport := { s.transport with
          queue := s.transport.queue ++ [⟨.printUnload d.tag, s.transport.arrival⟩]
          arrival := s.transport.arrival + 1 } } .printerFault))

/-! ## What the blocks do at the end of an event -/

/-- R7, R9, R51, R53, R54, R57, R58, R60, R61, R187: what the end of an event does for the passes, the jobs and the link, in
that order (the order is the model's, log 2). A pass whose wave is empty ends, or is aborted with WAVE_EMPTY. The examination
follows; ingress newly blocked cuts the stragglers at W, handed over in wave order (the model's choice, log 52), and the pass
is examined again. A FORMING pass with its prefill reached and a member launches. Each WRITING member issues the segment that
is in the ring. After transport has been served, a DRAINING or HALTING job with nothing left goes to OPEN, WAVE_READY is raised
where it comes to hold, and CREDIT, NOTICE and REPORT entries are asked for in their order. -/
def Obligations.EndOfEventRunsPasses : Prop :=
  let jobs : List JobId := [0, 1, 2, 3]
  (∀ s0 s : State, State.settle s0 s = State.outbound s0 (jobs.foldl (State.raiseWaveReady s0)
    (jobs.foldl State.completeJob (jobs.foldl State.settleJob s).settleTransport))) ∧
  (∀ (s : State) (j : JobId),
    let a := (s.endPass j).examine j
    let launches := ∃ p, a.pass j = some p ∧ p.state = .forming ∧ p.comp.prefillReached = true ∧
      ∃ m ∈ p.wave, m.status = .armed ∨ m.status = .writing
    let writes := fun b : State => (List.finRange 16).foldl (fun t n => t.issueWrite j n) b
    (launches → s.settleJob j = writes ((a.launch j).examine j)) ∧ (¬ launches → s.settleJob j = writes a)) ∧
  (∀ (s : State) (j : JobId) (p : Pass), s.pass j = some p →
    let x := s.job j
    let empty := ∀ m ∈ p.wave, m.status ≠ .armed ∧ m.status ≠ .writing
    let ends := { s with
      passes := upd s.passes j (some { p with state := .ended, comp := { p.comp with blocked := false } })
      notices := { s.notices with pass := s.notices.pass.raise (.passEnded j) } }
    let aborts := { s with
      passes := upd s.passes j (some { p with
        state := .aborted, cause := some .waveEmpty
        comp := { p.comp with accumulator := none, blocked := false } })
      jobs := upd s.jobs j { x with
        digest := if x.digest = .building then .empty else x.digest
        fault := match x.fault with
          | none => some ⟨.waveEmpty, some p.number, none, none, none, 0⟩
          | some f => some { f with further := satInc 255 f.further } }
      notices := { s.notices with pass := s.notices.pass.raise (.passAborted j) } }
    (¬ empty → s.endPass j = s) ∧ (p.state = .ended ∨ p.state = .aborted → s.endPass j = s) ∧
    (empty → p.state = .running → p.comp.head = x.length → s.endPass j = ends) ∧
    (empty → p.state = .running → p.comp.head ≠ x.length → s.endPass j = aborts) ∧
    (empty → p.state = .forming → x.state = .draining → s.endPass j = aborts) ∧
    (empty → p.state = .forming → x.state ≠ .draining → s.endPass j = s)) ∧
  (∀ (s : State) (j : JobId), (s.pass j = none → s.endPass j = s) ∧
    ((∀ p, s.pass j = some p → p.live = false) → s.examine j = s)) ∧
  (∀ (s : State) (j : JobId) (p : Pass), s.pass j = some p → p.live = true →
    let q := p.examine (s.job j)
    let cut := q.stragglers (s.job j).lagLimit
    let blocks := q.comp.blocked = true ∧ p.comp.blocked = false ∧ p.state = .running
    ((¬ blocks ∨ cut = []) → s.examine j = { s with passes := upd s.passes j (some q) }) ∧
    (blocks → cut ≠ [] → p.wave.Pairwise Member.before → p.cut ≤ 16 →
      let t := s.examine j
      t.pass j = some (Pass.examine (s.job j) { q with
        cut := min 16 (p.cut + cut.length)
        wave := p.wave.map fun m => if m ∈ cut then { m with status := .cut, inFlight := none } else m }) ∧
      (∀ m ∈ cut, (t.port m.port).state = .done ∧
        (∀ c, (s.port m.port).cmd = some c → (s.port m.port).reissueAt = none →
          (t.port m.port).cmd = some c ∧ (t.port m.port).ending = true) ∧
        ∀ d, s.disc (.tray m.port) = some d → d.cause = none → t.disc (.tray m.port) = some { d with
          state := .scrap, cause := some .straggler, lba := some m.written }) ∧
      (∀ m rest d, cut = m :: rest → s.disc (.tray m.port) = some d → d.job = some j → (s.job j).fault = none →
        ∃ f, (t.job j).fault = some ⟨.straggler, d.pass, some m.port, some m.written, some d.tag, f⟩) ∧
      (∀ n, (∀ m ∈ cut, m.port ≠ n) → t.port n = s.port n ∧ t.disc (.tray n) = s.disc (.tray n)) ∧
      (∀ r, (∀ n, r ≠ .tray n) → t.disc r = s.disc r) ∧ (∀ k, k ≠ j → t.pass k = s.pass k) ∧
      (∀ k, t.job k = { s.job k with fault := (t.job k).fault }) ∧
      { t with jobs := s.jobs, passes := s.passes, ports := s.ports, places := s.places } = s)) ∧
  (∀ (s : State) (j : JobId) (p : Pass), s.pass j = some p → p.wave.Pairwise Member.before →
    let t := s.launch j
    t.passes = upd s.passes j (some { p with
      state := .running, closed := true
      wave := p.wave.map fun m => if m.status = .armed then { m with status := .writing } else m }) ∧
    (∀ n m, p.member n = some m → m.status = .armed → t.port n = (s.port n).goto s.now .writing ∧
      t.disc (.tray n) = (s.disc (.tray n)).map fun d => { d with state := .burning }) ∧
    (∀ n, (∀ m, p.member n = some m → m.status ≠ .armed) →
      t.port n = s.port n ∧ t.disc (.tray n) = s.disc (.tray n)) ∧
    (∀ r, (∀ n, r ≠ .tray n) → t.disc r = s.disc r) ∧
    t.notices = { s.notices with pass := s.notices.pass.raise (.passLaunched j) } ∧
    { t with passes := s.passes, ports := s.ports, places := s.places, notices := s.notices } = s) ∧
  (∀ (s : State) (j : JobId) (n : PortId) (p : Pass) (m : Member), s.pass j = some p → p.member n = some m →
    let seg := m.written / 16
    let issues := m.status = .writing ∧ m.inFlight = none ∧ m.written < (s.job j).length ∧ p.state = .running ∧
      (16 * (seg + 1) ≤ p.comp.head ∨ p.comp.head = (s.job j).length)
    (issues → s.issueWrite j n = { s with
      passes := upd s.passes j (some (p.mapMember n fun k => { k with inFlight := some seg }))
      ports := upd s.ports n (Port.issue s.now s.timing (.writeSegment seg) 0 (s.port n)) }) ∧
    (¬ issues → s.issueWrite j n = s)) ∧
  (∀ (s : State) (j : JobId),
    let nothing := (∀ r d, s.disc r = some d → d.job ≠ some j) ∧ s.pass j = none ∧
      ∀ m p, s.transport.move = some m → m.req.kind = .feed p j → m.phase ≠ .toSource ∧ m.phase ≠ .grip
    let opens := fun x : Notice => { s with
      jobs := upd s.jobs j { s.job j with state := .opened }
      notices := { s.notices with system := s.notices.system.raise x } }
    (nothing → (s.job j).state = .draining → s.completeJob j = opens (.jobComplete j)) ∧
    (nothing → (s.job j).state = .halting → s.completeJob j = opens (.jobHalted j)) ∧
    ((¬ nothing ∨ ((s.job j).state ≠ .draining ∧ (s.job j).state ≠ .halting)) → s.completeJob j = s)) ∧
  (∀ (s0 s : State) (j : JobId),
    let ready := fun t : State => (t.job j).state = .running ∧ t.pass j = none ∧
      ∃ n, t.assigned n = some j ∧ (t.port n).state = .loaded
    (ready s → ¬ ready s0 → s.raiseWaveReady s0 j =
      { s with notices := { s.notices with pass := s.notices.pass.raise (.waveReady j) } }) ∧
    ((¬ ready s ∨ ready s0) → s.raiseWaveReady s0 j = s)) ∧
  ∀ s0 s : State, (s.link.stage = .answered → State.outbound s0 s = s) ∧
    (s.link.stage ≠ .answered →
      let credits := fun (t : State) (j : JobId) => ((t.pass j).map fun p => p.comp.credits).getD 0
      let asks : List OutEntry :=
        ((jobs.filter fun j => decide ((s.pass j).isSome ∧ credits s j ≠ credits s0 j ∧
            OutEntry.credit j ∉ s.link.queue)).map OutEntry.credit)
        ++ ((([.system, .pass, .port, .transport, .printer] : List CauseClass).filter fun c =>
            decide ((s.notices.get c).set ≠ [] ∧ (s.notices.get c).outstanding = none ∧
              s.link.receiver = .synced ∧ OutEntry.notice c ∉ s.link.queue)).map OutEntry.notice)
        ++ (if s.notices.reports ≠ [] ∧ s.notices.reportOut = false ∧ s.link.receiver = .synced ∧
            OutEntry.report ∉ s.link.queue then [.report] else [])
      State.outbound s0 s = { s with link := { s.link with queue := s.link.queue ++ asks } })

/-- R12, R137 to R144: what the end of an event does for the move queue: requests whose reason has gone leave it, UNLOAD, FEED
and PRINT_LOAD requests are created, ports open, wake or close for theirs, and the arbiter grants the eligible request of the
highest class, the first in the queue (the order of these is the model's, log 2; what removes a request, and the ports that
leave the set held, log 19, 44, 59, 61). A grant reserves a report for an output bin and sends the arm to the source; at ARM the
grip is read at once. The latch of the arm line is the model's (log 12). -/
def Obligations.EndOfEventServesTransport : Prop :=
  (∀ s : State,
    let ports := List.finRange 16
    s.settleTransport = State.arbitrate (ports.foldl State.servePort (State.createPrintLoad
      (ports.foldl State.feedPort (ports.foldl State.createUnload s.pruneRequests))))) ∧
  (∀ s : State,
    (s.pruneRequests = { s with transport := { s.transport with
      queue := s.transport.queue.filter fun r => s.keeps r.kind
      held := s.transport.held.filter fun n => decide ((s.port n).state = .trayOpen) } }) ∧
    (∀ n j, s.keeps (.feed n j) = true ↔ (s.job j).state = .running ∧ s.assigned n = some j ∧
      (s.port n).state ∈ [.idle, .standby, .opening, .trayOpen]) ∧
    (∀ n tag, s.keeps (.unload n tag) = true ↔ ∃ d, s.disc (.tray n) = some d ∧ d.tag = tag) ∧
    (s.keeps .printLoad = true ↔ s.transport.shelfOrder ≠ []) ∧
    (∀ tag, s.keeps (.printUnload tag) = true ↔
      ∃ d, s.disc .platter = some d ∧ d.tag = tag ∧ (d.state = .finished ∨ d.state = .scrap)) ∧
    (∀ q tag, s.keeps (.recover q tag) = true ↔
      ∃ d, s.disc q = some d ∧ d.tag = tag ∧ (q = .arm ∨ d.state = .orphan)) ∧
    (∀ q st tag, s.keeps (.host q st tag) = true ↔ ∃ d, s.disc q = some d ∧ d.tag = tag ∧ s.mayArrive d st = true)) ∧
  (∀ (s : State) (n : PortId),
    let queued := fun f : ReqKind → Prop => ∃ r ∈ s.transport.queue, f r.kind
    let granted := fun f : ReqKind → Prop => ∃ m, s.transport.move = some m ∧ f m.req.kind
    let feed := fun k : ReqKind => ∃ j, k = .feed n j
    let unload := fun k : ReqKind => ∃ tag, k = .unload n tag
    let create := fun k => { s with transport := { s.transport with
      queue := s.transport.queue ++ [⟨k, s.transport.arrival⟩], arrival := s.transport.arrival + 1 } }
    let mayFeed := fun j => s.assigned n = some j ∧ (s.job j).state = .running ∧ ((s.job j).target = 0 ∨
      ∃ moving : Nat, (moving = 1 ↔ ∃ m p, s.transport.move = some m ∧ m.req.kind = .feed p j ∧
          (m.phase = .toSource ∨ m.phase = .grip)) ∧ moving ≤ 1 ∧
        (s.discsOf j).length + (s.job j).counters.deliveredPass + (s.job j).counters.deliveredMarginal
          + (s.job j).counters.deliveredUnverified + (s.transport.queue.filter fun r => r.kind.isFeedOf j).length
          + moving < (s.job j).target)
    (∀ d, (s.port n).state = .done → ¬ queued feed → ¬ queued unload → s.disc (.tray n) = some d →
      s.createUnload n = create (.unload n d.tag)) ∧
    (((s.port n).state ≠ .done ∨ queued feed ∨ queued unload ∨ s.disc (.tray n) = none) → s.createUnload n = s) ∧
    (∀ j, ((s.port n).state = .idle ∨ (s.port n).state = .standby) → ¬ queued feed → ¬ queued unload →
      ¬ granted feed → ¬ granted unload → mayFeed j → s.feedPort n = create (.feed n j)) ∧
    (((s.port n).state ∉ [.idle, .standby] ∨ queued feed ∨ queued unload ∨ granted feed ∨ granted unload ∨
      ∀ j, ¬ mayFeed j) → s.feedPort n = s) ∧
    (s.transport.shelfOrder ≠ [] → ¬ queued (· = .printLoad) → ¬ granted (· = .printLoad) →
      s.createPrintLoad = create .printLoad) ∧
    ((s.transport.shelfOrder = [] ∨ queued (· = .printLoad) ∨ granted (· = .printLoad)) → s.createPrintLoad = s) ∧
    let issued := fun (c : DriveCmd) (q : Port) => { s with ports := upd s.ports n (Port.issue s.now s.timing c 0 q) }
    let free := (s.port n).cmd = none ∧ (s.port n).afterReset = none
    let opening := fun e => { (s.port n).goto s.now .opening with errand := e }
    (free → (s.port n).state = .idle → queued feed → s.servePort n = issued .openTray (opening .feed)) ∧
    (free → (s.port n).state = .standby → queued feed → s.servePort n = issued .wake (s.port n)) ∧
    (free → (s.port n).state = .done → queued unload → s.servePort n = issued .openTray (opening .unload)) ∧
    (free → (s.port n).state = .trayOpen → (s.port n).errand = .feed → ¬ queued feed → ¬ granted feed →
      n ∉ s.transport.held → s.servePort n = issued .closeTray { s.port n with state := .closing }) ∧
    ((¬ free ∨ (s.port n).state ∉ [.idle, .standby, .done, .trayOpen] ∨
        ((s.port n).state ∈ [.idle, .standby] ∧ ¬ queued feed) ∨ ((s.port n).state = .done ∧ ¬ queued unload) ∨
        ((s.port n).state = .trayOpen ∧
          ((s.port n).errand ≠ .feed ∨ queued feed ∨ granted feed ∨ n ∈ s.transport.held))) →
      s.servePort n = s)) ∧
  (∀ (s : State) (d : Disc) (j : JobId),
    let printer := s.disc .platter = none ∧ s.sensors.platter = false ∧ s.printer.state = .empty
    let slot := fun k : SlotId => s.disc (.shelf k) = none ∧ nth s.sensors.shelf k = false
    let printable := (s.job j).template.isSome ∧ (d.grade = some .pass ∨ d.grade = some .unverified ∨
      (d.grade = some .marginal ∧ (s.profile (s.job j).profile).printMarginal = true))
    (s.available .platter = true ↔ printer) ∧ (∀ k, s.available (.shelf k) = true ↔ slot k) ∧
    (∀ i, s.available (.bin i) = true) ∧
    (∀ b, s.available (.out b) = true ↔ s.sensors.bins.get (.full b) = false ∧ s.notices.reports.length < 32) ∧
    ((d.state = .scrap ∨ d.state = .orphan) → s.unloadDest d = some (.out .x)) ∧
    (d.job = some j → d.state = .returning → s.unloadDest d = some (.bin (s.job j).bin)) ∧
    (d.job = some j → d.state = .graded →
      (printable → printer → s.unloadDest d = some .platter) ∧
      (∀ k, printable → ¬ printer → slot k → (∀ i, i < k → ¬ slot i) → s.unloadDest d = some (.shelf k)) ∧
      (printable → ¬ printer → (∀ k, ¬ slot k) → s.unloadDest d = none) ∧
      (¬ printable → (d.grade = some .pass ∨ d.grade = some .unverified) → s.unloadDest d = some (.out .o0)) ∧
      (¬ printable → d.grade = some .marginal → s.unloadDest d =
        some (.out (if (s.profile (s.job j).profile).dest = .o1 then .o1 else .x))) ∧
      (d.grade = some .fail → s.unloadDest d = some (.out .x)))) ∧
  (∀ s : State,
    let arm := fun q : Place => (q = .arm → s.sensors.gripPresent = true) ∧ (q ≠ .arm → s.disc .arm = none)
    (∀ n j, s.eligible (.feed n j) = true ↔ (s.port n).state = .trayOpen ∧ (s.port n).errand = .feed ∧
      nth s.transport.marks (s.job j).bin = false ∧ s.disc .arm = none) ∧
    (∀ n tag, s.eligible (.unload n tag) = true ↔ (s.port n).state = .trayOpen ∧ (s.port n).errand = .unload ∧
      s.disc .arm = none ∧
      ∃ d st, s.disc (.tray n) = some d ∧ s.unloadDest d = some st ∧ s.available st = true) ∧
    (s.eligible .printLoad = true ↔
      s.transport.shelfOrder ≠ [] ∧ s.available .platter = true ∧ s.disc .arm = none) ∧
    (∀ tag, s.eligible (.printUnload tag) = true ↔ s.disc .arm = none ∧ ∃ d, s.disc .platter = some d ∧
      s.available (if d.state = .finished then (if d.grade = some .marginal then .out .o1 else .out .o0)
        else .out .x) = true) ∧
    (∀ q tag, s.eligible (.recover q tag) = true ↔ s.available (.out .x) = true ∧ arm q) ∧
    (∀ q st tag, s.eligible (.host q st tag) = true ↔ s.available st = true ∧ arm q ∧
      ∀ n, q = .tray n → (s.port n).state = .trayOpen ∨ (s.port n).state = .faulted)) ∧
  (∀ s : State,
    let rank := fun k : ReqKind => match k with
      | .host _ _ _ => 0
      | .recover _ _ => 1
      | .printUnload _ => 2
      | .unload _ _ => 3
      | .printLoad => 4
      | .feed _ _ => 5
    let grants := s.transport.move = none ∧ s.transport.pausePending = false ∧
      (s.transport.state = .ready ∨ s.transport.state = .paused)
    let ready := fun r : Request => s.eligible r.kind = true ∧ (s.transport.state = .ready ∨ rank r.kind = 0)
    (¬ grants ∨ (∀ r ∈ s.transport.queue, ¬ ready r) → s.arbitrate = s) ∧
    (∀ r before after, grants → s.transport.queue = before ++ r :: after → ready r →
      (∀ q ∈ before, ready q → rank r.kind < rank q.kind) → (∀ q ∈ after, ready q → rank r.kind ≤ rank q.kind) →
      s.arbitrate = s.grantRequest r) ∧
    (∀ n j, s.resolve (.feed n j) = some (.bin (s.job j).bin, .tray n, none)) ∧
    (∀ n tag d, s.disc (.tray n) = some d → s.resolve (.unload n tag) =
      (s.unloadDest d).map fun st => (.place (.tray n), st, some tag)) ∧
    (∀ k rest, s.transport.shelfOrder = k :: rest → s.resolve .printLoad =
      some (.place (.shelf k), .platter, (s.disc (.shelf k)).map Disc.tag)) ∧
    (∀ tag d, s.disc .platter = some d → s.resolve (.printUnload tag) = some (.place .platter,
      (if d.state = .finished then (if d.grade = some .marginal then .out .o1 else .out .o0) else .out .x), some tag)) ∧
    (∀ q tag, s.resolve (.recover q tag) = some (.place q, .out .x, some tag)) ∧
    (∀ q st tag, s.resolve (.host q st tag) = some (.place q, st, some tag)) ∧
    ∀ (r : Request) (src : Source) (dest : Station) (tag : Option Half), s.resolve r.kind = some (src, dest, tag) →
      let out := decide (dest = .out .o0 ∨ dest = .out .o1 ∨ dest = .out .x)
      let moves := fun (ph : Phase) => { s.transport with
        queue := s.transport.queue.filter fun q => decide (q ≠ r)
        move := some ⟨r, src, dest, tag, ph, out, s.now + 6000⟩ }
      (src ≠ .place .arm → s.grantRequest r = { s with
        transport := moves .toSource, notices := { s.notices with reserved := s.notices.reserved || out }
        lines := { s.lines with arm := src.station.map .goTo } }) ∧
      ∀ d, src = .place .arm → s.sensors.gripPresent = true → s.disc .arm = some d → s.grantRequest r = { s with
        transport := moves .toDest, notices := { s.notices with reserved := s.notices.reserved || out }
        places := upd s.places Place.arm.idx (some { d with dest := some dest })
        lines := { s.lines with arm := some (.goTo dest) } })

/-- R29, R38, R39, R57: an examination grants credits until a condition fails and never beyond 8 outstanding; it reports
ingress blocked and prefill reached; the members a cut takes are those in WRITING whose lag exceeds a limit that is not 0,
never all of them. R24, R27, R28, R35: what makes a credit or fill wanted, the outstanding count, the tail, the free space and
the lag are spelled out. -/
def Obligations.ExaminationOfAPass : Prop :=
  (∀ (x : Job) (p : Pass),
    let point := min (16 * x.prefill) x.length
    p.comp.outstanding = (p.comp.credits - halfOf p.comp.frames).toNat ∧ x.prefillPoint = point ∧
    (p.wantsCredit x = true ↔ (p.state = .forming ∨ p.state = .running) ∧ p.comp.outstanding < 8 ∧
      (∃ e, p.at x e ∧ e.kind = .stream ∧ p.comp.outstanding < (e.length + 15) / 16 - p.comp.framesInExtent) ∧
      (p.state = .running ∨ p.comp.head + 16 * p.comp.outstanding < point)) ∧
    (p.creditRoom x = true ↔ 16 * p.comp.outstanding + 16 ≤ p.free x) ∧
    (p.wantsFill x = true ↔ (p.state = .forming ∨ p.state = .running) ∧ (∃ e, p.at x e ∧ e.kind = .fill) ∧
      (p.state = .running ∨ p.comp.head < point)) ∧
    p.free x = 16 * x.ring - (p.comp.head - p.tail) ∧ (p.state = .forming → p.tail = 0) ∧
    (p.state ≠ .forming → (∀ m ∈ p.wave, m.status ≠ .armed ∧ m.status ≠ .writing) → p.tail = p.comp.head) ∧
    (p.state ≠ .forming → ∀ m ∈ p.wave, (m.status = .armed ∨ m.status = .writing) → p.tail ≤ m.written ∧
      ∃ k ∈ p.wave, (k.status = .armed ∨ k.status = .writing) ∧ p.tail = k.written) ∧
    (∀ m ∈ p.wave, m.status = .writing → ∃ k ∈ p.wave, k.status = .writing ∧ m.written ≤ k.written ∧
      p.lag m = (k.written - m.written) / 16 ∧ ∀ l ∈ p.wave, l.status = .writing → l.written ≤ k.written)) ∧
  ∀ (x : Job) (p : Pass), p.comp.outstanding ≤ 8 →
    (p.examine x).comp.outstanding ≤ 8 ∧ p.comp.outstanding ≤ (p.examine x).comp.outstanding ∧
    ((p.examine x).wantsCredit x = true → (p.examine x).creditRoom x = false) ∧
    (p.examine x).comp.head = p.comp.head ∧ (p.examine x).comp.frames = p.comp.frames ∧
    (p.examine x).wave = p.wave ∧ (p.examine x).state = p.state ∧
    ((p.examine x).comp.blocked = true ↔
      ((p.examine x).wantsCredit x = true ∧ (p.examine x).creditRoom x = false) ∨
      ((p.examine x).wantsFill x = true ∧ p.free x = 0)) ∧
    ((p.examine x).comp.prefillReached = true ↔ p.comp.prefillReached = true ∨ x.prefillPoint ≤ p.comp.head ∨
      ((p.examine x).comp.blocked = true ∧ p.state = .forming)) ∧
    (p.live = false → (p.examine x).comp.credits = p.comp.credits) ∧
    (p.stragglers 0 = []) ∧
    (∀ limit m, m ∈ p.stragglers limit ↔ limit ≠ 0 ∧ m ∈ p.wave ∧ m.status = .writing ∧ limit < p.lag m) ∧
    (∀ limit, (∃ m ∈ p.wave, m.status = .writing) → ∃ m ∈ p.wave, m.status = .writing ∧ m ∉ p.stragglers limit)

/-! ## Encodings -/

/-- R192: the command a COMMAND payload spells is the command it was written from, every field at every value, for each
command whose header's length is its own. That READ's object number is carried in two bytes and its selectors in four is the
model's choice (log 10). -/
def Obligations.CommandsDecodeAsEncoded : Prop :=
  ∀ (c : Instr) (h : CmdHdr) (p : List Byte), c.wf = true → c.header = some h → encodeCommand c = some p →
    h.len = p.length → decodeCommand h.tag p = c

/-! ## Invariants -/

/-- The part at reset meets the invariants. -/
def Obligations.InvariantsAtReset : Prop :=
  State.reset.memoryOk ∧ State.reset.reportsOk ∧ State.reset.queueOk ∧ State.reset.tagsOk ∧ State.reset.noticesOk ∧
    State.reset.wavesOk

/-- Every step keeps image memory in its canonical form. -/
def Obligations.StepsKeepMemoryCanonical : Prop :=
  ∀ s t : State, s.memoryOk → step s = .next t → t.memoryOk

/-- R127, R185, R187: every step keeps the reports and the reserved entry within 32, the unsent answers within 8, and every
other outbound entry single. R171: every step keeps each class's pending set strictly rising in rank, of its class alone. R47,
R48: every step keeps a wave in port order, at most the last entry of a port ARMED or WRITING, and the wave and the three
counts within 16 (which entry of a full wave gives way, and that counts hold, is log 17). -/
def Obligations.StepsKeepQueuesInRoom : Prop :=
  (∀ s t : State, s.reportsOk → s.queueOk → step s = .next t → t.reportsOk ∧ t.queueOk) ∧
  (∀ s t : State, s.noticesOk → step s = .next t → t.noticesOk) ∧
  ∀ s t : State, s.wavesOk → step s = .next t → t.wavesOk

/-- R115: every step keeps the tags of the roster's records distinct. -/
def Obligations.StepsKeepTagsDistinct : Prop :=
  ∀ s t : State, s.tagsOk → step s = .next t → t.tagsOk

end
end

