-- ==== Sys2Proof/Laws/State.lean ====
section
/-! SUPPORT. One lemma per field per update of the state, each true by rfl, and reading back a numbered thing. -/

namespace Sys2Proof.Machine

/-! ## Numbered things -/

@[simp] theorem nth_upd_self (v : Vector α n) (i : Fin n) (x : α) : nth (upd v i x) i = x := by simp [nth, upd]

theorem nth_upd_ne (v : Vector α n) {i k : Fin n} (x : α) (h : k ≠ i) : nth (upd v i x) k = nth v k := by
  unfold nth upd
  exact Vector.getElem_set_ne i.isLt k.isLt (fun e => h (Fin.ext e.symm))

theorem nth_upd (v : Vector α n) (i k : Fin n) (x : α) : nth (upd v i x) k = if k = i then x else nth v k := by
  split
  · next h => subst h; simp
  · next h => exact nth_upd_ne v x h

theorem mem_numbers (i : Fin n) : i ∈ numbers n := by
  unfold numbers
  simp only [List.mem_filterMap, List.mem_range]
  exact ⟨i.val, i.isLt, by simp [i.isLt]⟩

theorem Place.idx_inj {p q : Place} (h : p.idx = q.idx) : p = q := by
  cases p <;> cases q <;> simp [Place.idx, Fin.ext_iff] at h ⊢ <;> omega

/-! ## Updates -/

@[simp] theorem modJob_pending (s : State) (j : JobId) (f : Job → Job) : (s.modJob j f).pending = s.pending := rfl
@[simp] theorem modJob_now (s : State) (j : JobId) (f : Job → Job) : (s.modJob j f).now = s.now := rfl
@[simp] theorem modJob_resetHeld (s : State) (j : JobId) (f : Job → Job) : (s.modJob j f).resetHeld = s.resetHeld := rfl
@[simp] theorem modJob_passes (s : State) (j : JobId) (f : Job → Job) : (s.modJob j f).passes = s.passes := rfl
@[simp] theorem modJob_memory (s : State) (j : JobId) (f : Job → Job) : (s.modJob j f).memory = s.memory := rfl
@[simp] theorem modJob_profiles (s : State) (j : JobId) (f : Job → Job) : (s.modJob j f).profiles = s.profiles := rfl
@[simp] theorem modJob_assign (s : State) (j : JobId) (f : Job → Job) : (s.modJob j f).assign = s.assign := rfl
@[simp] theorem modJob_timing (s : State) (j : JobId) (f : Job → Job) : (s.modJob j f).timing = s.timing := rfl
@[simp] theorem modJob_templates (s : State) (j : JobId) (f : Job → Job) : (s.modJob j f).templates = s.templates := rfl
@[simp] theorem modJob_glyphs (s : State) (j : JobId) (f : Job → Job) : (s.modJob j f).glyphs = s.glyphs := rfl
@[simp] theorem modJob_ports (s : State) (j : JobId) (f : Job → Job) : (s.modJob j f).ports = s.ports := rfl
@[simp] theorem modJob_verifies (s : State) (j : JobId) (f : Job → Job) : (s.modJob j f).verifies = s.verifies := rfl
@[simp] theorem modJob_places (s : State) (j : JobId) (f : Job → Job) : (s.modJob j f).places = s.places := rfl
@[simp] theorem modJob_tagCounter (s : State) (j : JobId) (f : Job → Job) : (s.modJob j f).tagCounter = s.tagCounter := rfl
@[simp] theorem modJob_unreported (s : State) (j : JobId) (f : Job → Job) : (s.modJob j f).unreported = s.unreported := rfl
@[simp] theorem modJob_transport (s : State) (j : JobId) (f : Job → Job) : (s.modJob j f).transport = s.transport := rfl
@[simp] theorem modJob_sensors (s : State) (j : JobId) (f : Job → Job) : (s.modJob j f).sensors = s.sensors := rfl
@[simp] theorem modJob_printer (s : State) (j : JobId) (f : Job → Job) : (s.modJob j f).printer = s.printer := rfl
@[simp] theorem modJob_notices (s : State) (j : JobId) (f : Job → Job) : (s.modJob j f).notices = s.notices := rfl
@[simp] theorem modJob_link (s : State) (j : JobId) (f : Job → Job) : (s.modJob j f).link = s.link := rfl
@[simp] theorem modJob_lines (s : State) (j : JobId) (f : Job → Job) : (s.modJob j f).lines = s.lines := rfl

@[simp] theorem setPass_pending (s : State) (j : JobId) (x : Option Pass) : (s.setPass j x).pending = s.pending := rfl
@[simp] theorem setPass_now (s : State) (j : JobId) (x : Option Pass) : (s.setPass j x).now = s.now := rfl
@[simp] theorem setPass_resetHeld (s : State) (j : JobId) (x : Option Pass) : (s.setPass j x).resetHeld = s.resetHeld := rfl
@[simp] theorem setPass_jobs (s : State) (j : JobId) (x : Option Pass) : (s.setPass j x).jobs = s.jobs := rfl
@[simp] theorem setPass_memory (s : State) (j : JobId) (x : Option Pass) : (s.setPass j x).memory = s.memory := rfl
@[simp] theorem setPass_profiles (s : State) (j : JobId) (x : Option Pass) : (s.setPass j x).profiles = s.profiles := rfl
@[simp] theorem setPass_assign (s : State) (j : JobId) (x : Option Pass) : (s.setPass j x).assign = s.assign := rfl
@[simp] theorem setPass_timing (s : State) (j : JobId) (x : Option Pass) : (s.setPass j x).timing = s.timing := rfl
@[simp] theorem setPass_templates (s : State) (j : JobId) (x : Option Pass) : (s.setPass j x).templates = s.templates := rfl
@[simp] theorem setPass_glyphs (s : State) (j : JobId) (x : Option Pass) : (s.setPass j x).glyphs = s.glyphs := rfl
@[simp] theorem setPass_ports (s : State) (j : JobId) (x : Option Pass) : (s.setPass j x).ports = s.ports := rfl
@[simp] theorem setPass_verifies (s : State) (j : JobId) (x : Option Pass) : (s.setPass j x).verifies = s.verifies := rfl
@[simp] theorem setPass_places (s : State) (j : JobId) (x : Option Pass) : (s.setPass j x).places = s.places := rfl
@[simp] theorem setPass_tagCounter (s : State) (j : JobId) (x : Option Pass) : (s.setPass j x).tagCounter = s.tagCounter := rfl
@[simp] theorem setPass_unreported (s : State) (j : JobId) (x : Option Pass) : (s.setPass j x).unreported = s.unreported := rfl
@[simp] theorem setPass_transport (s : State) (j : JobId) (x : Option Pass) : (s.setPass j x).transport = s.transport := rfl
@[simp] theorem setPass_sensors (s : State) (j : JobId) (x : Option Pass) : (s.setPass j x).sensors = s.sensors := rfl
@[simp] theorem setPass_printer (s : State) (j : JobId) (x : Option Pass) : (s.setPass j x).printer = s.printer := rfl
@[simp] theorem setPass_notices (s : State) (j : JobId) (x : Option Pass) : (s.setPass j x).notices = s.notices := rfl
@[simp] theorem setPass_link (s : State) (j : JobId) (x : Option Pass) : (s.setPass j x).link = s.link := rfl
@[simp] theorem setPass_lines (s : State) (j : JobId) (x : Option Pass) : (s.setPass j x).lines = s.lines := rfl

@[simp] theorem modPass_pending (s : State) (j : JobId) (f : Pass → Pass) : (s.modPass j f).pending = s.pending := rfl
@[simp] theorem modPass_now (s : State) (j : JobId) (f : Pass → Pass) : (s.modPass j f).now = s.now := rfl
@[simp] theorem modPass_resetHeld (s : State) (j : JobId) (f : Pass → Pass) : (s.modPass j f).resetHeld = s.resetHeld := rfl
@[simp] theorem modPass_jobs (s : State) (j : JobId) (f : Pass → Pass) : (s.modPass j f).jobs = s.jobs := rfl
@[simp] theorem modPass_memory (s : State) (j : JobId) (f : Pass → Pass) : (s.modPass j f).memory = s.memory := rfl
@[simp] theorem modPass_profiles (s : State) (j : JobId) (f : Pass → Pass) : (s.modPass j f).profiles = s.profiles := rfl
@[simp] theorem modPass_assign (s : State) (j : JobId) (f : Pass → Pass) : (s.modPass j f).assign = s.assign := rfl
@[simp] theorem modPass_timing (s : State) (j : JobId) (f : Pass → Pass) : (s.modPass j f).timing = s.timing := rfl
@[simp] theorem modPass_templates (s : State) (j : JobId) (f : Pass → Pass) : (s.modPass j f).templates = s.templates := rfl
@[simp] theorem modPass_glyphs (s : State) (j : JobId) (f : Pass → Pass) : (s.modPass j f).glyphs = s.glyphs := rfl
@[simp] theorem modPass_ports (s : State) (j : JobId) (f : Pass → Pass) : (s.modPass j f).ports = s.ports := rfl
@[simp] theorem modPass_verifies (s : State) (j : JobId) (f : Pass → Pass) : (s.modPass j f).verifies = s.verifies := rfl
@[simp] theorem modPass_places (s : State) (j : JobId) (f : Pass → Pass) : (s.modPass j f).places = s.places := rfl
@[simp] theorem modPass_tagCounter (s : State) (j : JobId) (f : Pass → Pass) : (s.modPass j f).tagCounter = s.tagCounter := rfl
@[simp] theorem modPass_unreported (s : State) (j : JobId) (f : Pass → Pass) : (s.modPass j f).unreported = s.unreported := rfl
@[simp] theorem modPass_transport (s : State) (j : JobId) (f : Pass → Pass) : (s.modPass j f).transport = s.transport := rfl
@[simp] theorem modPass_sensors (s : State) (j : JobId) (f : Pass → Pass) : (s.modPass j f).sensors = s.sensors := rfl
@[simp] theorem modPass_printer (s : State) (j : JobId) (f : Pass → Pass) : (s.modPass j f).printer = s.printer := rfl
@[simp] theorem modPass_notices (s : State) (j : JobId) (f : Pass → Pass) : (s.modPass j f).notices = s.notices := rfl
@[simp] theorem modPass_link (s : State) (j : JobId) (f : Pass → Pass) : (s.modPass j f).link = s.link := rfl
@[simp] theorem modPass_lines (s : State) (j : JobId) (f : Pass → Pass) : (s.modPass j f).lines = s.lines := rfl

@[simp] theorem modPort_pending (s : State) (p : PortId) (f : Port → Port) : (s.modPort p f).pending = s.pending := rfl
@[simp] theorem modPort_now (s : State) (p : PortId) (f : Port → Port) : (s.modPort p f).now = s.now := rfl
@[simp] theorem modPort_resetHeld (s : State) (p : PortId) (f : Port → Port) : (s.modPort p f).resetHeld = s.resetHeld := rfl
@[simp] theorem modPort_jobs (s : State) (p : PortId) (f : Port → Port) : (s.modPort p f).jobs = s.jobs := rfl
@[simp] theorem modPort_passes (s : State) (p : PortId) (f : Port → Port) : (s.modPort p f).passes = s.passes := rfl
@[simp] theorem modPort_memory (s : State) (p : PortId) (f : Port → Port) : (s.modPort p f).memory = s.memory := rfl
@[simp] theorem modPort_profiles (s : State) (p : PortId) (f : Port → Port) : (s.modPort p f).profiles = s.profiles := rfl
@[simp] theorem modPort_assign (s : State) (p : PortId) (f : Port → Port) : (s.modPort p f).assign = s.assign := rfl
@[simp] theorem modPort_timing (s : State) (p : PortId) (f : Port → Port) : (s.modPort p f).timing = s.timing := rfl
@[simp] theorem modPort_templates (s : State) (p : PortId) (f : Port → Port) : (s.modPort p f).templates = s.templates := rfl
@[simp] theorem modPort_glyphs (s : State) (p : PortId) (f : Port → Port) : (s.modPort p f).glyphs = s.glyphs := rfl
@[simp] theorem modPort_verifies (s : State) (p : PortId) (f : Port → Port) : (s.modPort p f).verifies = s.verifies := rfl
@[simp] theorem modPort_places (s : State) (p : PortId) (f : Port → Port) : (s.modPort p f).places = s.places := rfl
@[simp] theorem modPort_tagCounter (s : State) (p : PortId) (f : Port → Port) : (s.modPort p f).tagCounter = s.tagCounter := rfl
@[simp] theorem modPort_unreported (s : State) (p : PortId) (f : Port → Port) : (s.modPort p f).unreported = s.unreported := rfl
@[simp] theorem modPort_transport (s : State) (p : PortId) (f : Port → Port) : (s.modPort p f).transport = s.transport := rfl
@[simp] theorem modPort_sensors (s : State) (p : PortId) (f : Port → Port) : (s.modPort p f).sensors = s.sensors := rfl
@[simp] theorem modPort_printer (s : State) (p : PortId) (f : Port → Port) : (s.modPort p f).printer = s.printer := rfl
@[simp] theorem modPort_notices (s : State) (p : PortId) (f : Port → Port) : (s.modPort p f).notices = s.notices := rfl
@[simp] theorem modPort_link (s : State) (p : PortId) (f : Port → Port) : (s.modPort p f).link = s.link := rfl
@[simp] theorem modPort_lines (s : State) (p : PortId) (f : Port → Port) : (s.modPort p f).lines = s.lines := rfl

@[simp] theorem setVerify_pending (s : State) (p : PortId) (x : Option Verify) : (s.setVerify p x).pending = s.pending := rfl
@[simp] theorem setVerify_now (s : State) (p : PortId) (x : Option Verify) : (s.setVerify p x).now = s.now := rfl
@[simp] theorem setVerify_resetHeld (s : State) (p : PortId) (x : Option Verify) : (s.setVerify p x).resetHeld = s.resetHeld := rfl
@[simp] theorem setVerify_jobs (s : State) (p : PortId) (x : Option Verify) : (s.setVerify p x).jobs = s.jobs := rfl
@[simp] theorem setVerify_passes (s : State) (p : PortId) (x : Option Verify) : (s.setVerify p x).passes = s.passes := rfl
@[simp] theorem setVerify_memory (s : State) (p : PortId) (x : Option Verify) : (s.setVerify p x).memory = s.memory := rfl
@[simp] theorem setVerify_profiles (s : State) (p : PortId) (x : Option Verify) : (s.setVerify p x).profiles = s.profiles := rfl
@[simp] theorem setVerify_assign (s : State) (p : PortId) (x : Option Verify) : (s.setVerify p x).assign = s.assign := rfl
@[simp] theorem setVerify_timing (s : State) (p : PortId) (x : Option Verify) : (s.setVerify p x).timing = s.timing := rfl
@[simp] theorem setVerify_templates (s : State) (p : PortId) (x : Option Verify) : (s.setVerify p x).templates = s.templates := rfl
@[simp] theorem setVerify_glyphs (s : State) (p : PortId) (x : Option Verify) : (s.setVerify p x).glyphs = s.glyphs := rfl
@[simp] theorem setVerify_ports (s : State) (p : PortId) (x : Option Verify) : (s.setVerify p x).ports = s.ports := rfl
@[simp] theorem setVerify_places (s : State) (p : PortId) (x : Option Verify) : (s.setVerify p x).places = s.places := rfl
@[simp] theorem setVerify_tagCounter (s : State) (p : PortId) (x : Option Verify) : (s.setVerify p x).tagCounter = s.tagCounter := rfl
@[simp] theorem setVerify_unreported (s : State) (p : PortId) (x : Option Verify) : (s.setVerify p x).unreported = s.unreported := rfl
@[simp] theorem setVerify_transport (s : State) (p : PortId) (x : Option Verify) : (s.setVerify p x).transport = s.transport := rfl
@[simp] theorem setVerify_sensors (s : State) (p : PortId) (x : Option Verify) : (s.setVerify p x).sensors = s.sensors := rfl
@[simp] theorem setVerify_printer (s : State) (p : PortId) (x : Option Verify) : (s.setVerify p x).printer = s.printer := rfl
@[simp] theorem setVerify_notices (s : State) (p : PortId) (x : Option Verify) : (s.setVerify p x).notices = s.notices := rfl
@[simp] theorem setVerify_link (s : State) (p : PortId) (x : Option Verify) : (s.setVerify p x).link = s.link := rfl
@[simp] theorem setVerify_lines (s : State) (p : PortId) (x : Option Verify) : (s.setVerify p x).lines = s.lines := rfl

@[simp] theorem modTransport_pending (s : State) (f : Transport → Transport) : (s.modTransport f).pending = s.pending := rfl
@[simp] theorem modTransport_now (s : State) (f : Transport → Transport) : (s.modTransport f).now = s.now := rfl
@[simp] theorem modTransport_resetHeld (s : State) (f : Transport → Transport) : (s.modTransport f).resetHeld = s.resetHeld := rfl
@[simp] theorem modTransport_jobs (s : State) (f : Transport → Transport) : (s.modTransport f).jobs = s.jobs := rfl
@[simp] theorem modTransport_passes (s : State) (f : Transport → Transport) : (s.modTransport f).passes = s.passes := rfl
@[simp] theorem modTransport_memory (s : State) (f : Transport → Transport) : (s.modTransport f).memory = s.memory := rfl
@[simp] theorem modTransport_profiles (s : State) (f : Transport → Transport) : (s.modTransport f).profiles = s.profiles := rfl
@[simp] theorem modTransport_assign (s : State) (f : Transport → Transport) : (s.modTransport f).assign = s.assign := rfl
@[simp] theorem modTransport_timing (s : State) (f : Transport → Transport) : (s.modTransport f).timing = s.timing := rfl
@[simp] theorem modTransport_templates (s : State) (f : Transport → Transport) : (s.modTransport f).templates = s.templates := rfl
@[simp] theorem modTransport_glyphs (s : State) (f : Transport → Transport) : (s.modTransport f).glyphs = s.glyphs := rfl
@[simp] theorem modTransport_ports (s : State) (f : Transport → Transport) : (s.modTransport f).ports = s.ports := rfl
@[simp] theorem modTransport_verifies (s : State) (f : Transport → Transport) : (s.modTransport f).verifies = s.verifies := rfl
@[simp] theorem modTransport_places (s : State) (f : Transport → Transport) : (s.modTransport f).places = s.places := rfl
@[simp] theorem modTransport_tagCounter (s : State) (f : Transport → Transport) : (s.modTransport f).tagCounter = s.tagCounter := rfl
@[simp] theorem modTransport_unreported (s : State) (f : Transport → Transport) : (s.modTransport f).unreported = s.unreported := rfl
@[simp] theorem modTransport_sensors (s : State) (f : Transport → Transport) : (s.modTransport f).sensors = s.sensors := rfl
@[simp] theorem modTransport_printer (s : State) (f : Transport → Transport) : (s.modTransport f).printer = s.printer := rfl
@[simp] theorem modTransport_notices (s : State) (f : Transport → Transport) : (s.modTransport f).notices = s.notices := rfl
@[simp] theorem modTransport_link (s : State) (f : Transport → Transport) : (s.modTransport f).link = s.link := rfl
@[simp] theorem modTransport_lines (s : State) (f : Transport → Transport) : (s.modTransport f).lines = s.lines := rfl

@[simp] theorem modPrinter_pending (s : State) (f : Printer → Printer) : (s.modPrinter f).pending = s.pending := rfl
@[simp] theorem modPrinter_now (s : State) (f : Printer → Printer) : (s.modPrinter f).now = s.now := rfl
@[simp] theorem modPrinter_resetHeld (s : State) (f : Printer → Printer) : (s.modPrinter f).resetHeld = s.resetHeld := rfl
@[simp] theorem modPrinter_jobs (s : State) (f : Printer → Printer) : (s.modPrinter f).jobs = s.jobs := rfl
@[simp] theorem modPrinter_passes (s : State) (f : Printer → Printer) : (s.modPrinter f).passes = s.passes := rfl
@[simp] theorem modPrinter_memory (s : State) (f : Printer → Printer) : (s.modPrinter f).memory = s.memory := rfl
@[simp] theorem modPrinter_profiles (s : State) (f : Printer → Printer) : (s.modPrinter f).profiles = s.profiles := rfl
@[simp] theorem modPrinter_assign (s : State) (f : Printer → Printer) : (s.modPrinter f).assign = s.assign := rfl
@[simp] theorem modPrinter_timing (s : State) (f : Printer → Printer) : (s.modPrinter f).timing = s.timing := rfl
@[simp] theorem modPrinter_templates (s : State) (f : Printer → Printer) : (s.modPrinter f).templates = s.templates := rfl
@[simp] theorem modPrinter_glyphs (s : State) (f : Printer → Printer) : (s.modPrinter f).glyphs = s.glyphs := rfl
@[simp] theorem modPrinter_ports (s : State) (f : Printer → Printer) : (s.modPrinter f).ports = s.ports := rfl
@[simp] theorem modPrinter_verifies (s : State) (f : Printer → Printer) : (s.modPrinter f).verifies = s.verifies := rfl
@[simp] theorem modPrinter_places (s : State) (f : Printer → Printer) : (s.modPrinter f).places = s.places := rfl
@[simp] theorem modPrinter_tagCounter (s : State) (f : Printer → Printer) : (s.modPrinter f).tagCounter = s.tagCounter := rfl
@[simp] theorem modPrinter_unreported (s : State) (f : Printer → Printer) : (s.modPrinter f).unreported = s.unreported := rfl
@[simp] theorem modPrinter_transport (s : State) (f : Printer → Printer) : (s.modPrinter f).transport = s.transport := rfl
@[simp] theorem modPrinter_sensors (s : State) (f : Printer → Printer) : (s.modPrinter f).sensors = s.sensors := rfl
@[simp] theorem modPrinter_notices (s : State) (f : Printer → Printer) : (s.modPrinter f).notices = s.notices := rfl
@[simp] theorem modPrinter_link (s : State) (f : Printer → Printer) : (s.modPrinter f).link = s.link := rfl
@[simp] theorem modPrinter_lines (s : State) (f : Printer → Printer) : (s.modPrinter f).lines = s.lines := rfl

@[simp] theorem modLink_pending (s : State) (f : Link → Link) : (s.modLink f).pending = s.pending := rfl
@[simp] theorem modLink_now (s : State) (f : Link → Link) : (s.modLink f).now = s.now := rfl
@[simp] theorem modLink_resetHeld (s : State) (f : Link → Link) : (s.modLink f).resetHeld = s.resetHeld := rfl
@[simp] theorem modLink_jobs (s : State) (f : Link → Link) : (s.modLink f).jobs = s.jobs := rfl
@[simp] theorem modLink_passes (s : State) (f : Link → Link) : (s.modLink f).passes = s.passes := rfl
@[simp] theorem modLink_memory (s : State) (f : Link → Link) : (s.modLink f).memory = s.memory := rfl
@[simp] theorem modLink_profiles (s : State) (f : Link → Link) : (s.modLink f).profiles = s.profiles := rfl
@[simp] theorem modLink_assign (s : State) (f : Link → Link) : (s.modLink f).assign = s.assign := rfl
@[simp] theorem modLink_timing (s : State) (f : Link → Link) : (s.modLink f).timing = s.timing := rfl
@[simp] theorem modLink_templates (s : State) (f : Link → Link) : (s.modLink f).templates = s.templates := rfl
@[simp] theorem modLink_glyphs (s : State) (f : Link → Link) : (s.modLink f).glyphs = s.glyphs := rfl
@[simp] theorem modLink_ports (s : State) (f : Link → Link) : (s.modLink f).ports = s.ports := rfl
@[simp] theorem modLink_verifies (s : State) (f : Link → Link) : (s.modLink f).verifies = s.verifies := rfl
@[simp] theorem modLink_places (s : State) (f : Link → Link) : (s.modLink f).places = s.places := rfl
@[simp] theorem modLink_tagCounter (s : State) (f : Link → Link) : (s.modLink f).tagCounter = s.tagCounter := rfl
@[simp] theorem modLink_unreported (s : State) (f : Link → Link) : (s.modLink f).unreported = s.unreported := rfl
@[simp] theorem modLink_transport (s : State) (f : Link → Link) : (s.modLink f).transport = s.transport := rfl
@[simp] theorem modLink_sensors (s : State) (f : Link → Link) : (s.modLink f).sensors = s.sensors := rfl
@[simp] theorem modLink_printer (s : State) (f : Link → Link) : (s.modLink f).printer = s.printer := rfl
@[simp] theorem modLink_notices (s : State) (f : Link → Link) : (s.modLink f).notices = s.notices := rfl
@[simp] theorem modLink_lines (s : State) (f : Link → Link) : (s.modLink f).lines = s.lines := rfl

@[simp] theorem modNotices_pending (s : State) (f : Notices → Notices) : (s.modNotices f).pending = s.pending := rfl
@[simp] theorem modNotices_now (s : State) (f : Notices → Notices) : (s.modNotices f).now = s.now := rfl
@[simp] theorem modNotices_resetHeld (s : State) (f : Notices → Notices) : (s.modNotices f).resetHeld = s.resetHeld := rfl
@[simp] theorem modNotices_jobs (s : State) (f : Notices → Notices) : (s.modNotices f).jobs = s.jobs := rfl
@[simp] theorem modNotices_passes (s : State) (f : Notices → Notices) : (s.modNotices f).passes = s.passes := rfl
@[simp] theorem modNotices_memory (s : State) (f : Notices → Notices) : (s.modNotices f).memory = s.memory := rfl
@[simp] theorem modNotices_profiles (s : State) (f : Notices → Notices) : (s.modNotices f).profiles = s.profiles := rfl
@[simp] theorem modNotices_assign (s : State) (f : Notices → Notices) : (s.modNotices f).assign = s.assign := rfl
@[simp] theorem modNotices_timing (s : State) (f : Notices → Notices) : (s.modNotices f).timing = s.timing := rfl
@[simp] theorem modNotices_templates (s : State) (f : Notices → Notices) : (s.modNotices f).templates = s.templates := rfl
@[simp] theorem modNotices_glyphs (s : State) (f : Notices → Notices) : (s.modNotices f).glyphs = s.glyphs := rfl
@[simp] theorem modNotices_ports (s : State) (f : Notices → Notices) : (s.modNotices f).ports = s.ports := rfl
@[simp] theorem modNotices_verifies (s : State) (f : Notices → Notices) : (s.modNotices f).verifies = s.verifies := rfl
@[simp] theorem modNotices_places (s : State) (f : Notices → Notices) : (s.modNotices f).places = s.places := rfl
@[simp] theorem modNotices_tagCounter (s : State) (f : Notices → Notices) : (s.modNotices f).tagCounter = s.tagCounter := rfl
@[simp] theorem modNotices_unreported (s : State) (f : Notices → Notices) : (s.modNotices f).unreported = s.unreported := rfl
@[simp] theorem modNotices_transport (s : State) (f : Notices → Notices) : (s.modNotices f).transport = s.transport := rfl
@[simp] theorem modNotices_sensors (s : State) (f : Notices → Notices) : (s.modNotices f).sensors = s.sensors := rfl
@[simp] theorem modNotices_printer (s : State) (f : Notices → Notices) : (s.modNotices f).printer = s.printer := rfl
@[simp] theorem modNotices_link (s : State) (f : Notices → Notices) : (s.modNotices f).link = s.link := rfl
@[simp] theorem modNotices_lines (s : State) (f : Notices → Notices) : (s.modNotices f).lines = s.lines := rfl

@[simp] theorem modLines_pending (s : State) (f : Lines → Lines) : (s.modLines f).pending = s.pending := rfl
@[simp] theorem modLines_now (s : State) (f : Lines → Lines) : (s.modLines f).now = s.now := rfl
@[simp] theorem modLines_resetHeld (s : State) (f : Lines → Lines) : (s.modLines f).resetHeld = s.resetHeld := rfl
@[simp] theorem modLines_jobs (s : State) (f : Lines → Lines) : (s.modLines f).jobs = s.jobs := rfl
@[simp] theorem modLines_passes (s : State) (f : Lines → Lines) : (s.modLines f).passes = s.passes := rfl
@[simp] theorem modLines_memory (s : State) (f : Lines → Lines) : (s.modLines f).memory = s.memory := rfl
@[simp] theorem modLines_profiles (s : State) (f : Lines → Lines) : (s.modLines f).profiles = s.profiles := rfl
@[simp] theorem modLines_assign (s : State) (f : Lines → Lines) : (s.modLines f).assign = s.assign := rfl
@[simp] theorem modLines_timing (s : State) (f : Lines → Lines) : (s.modLines f).timing = s.timing := rfl
@[simp] theorem modLines_templates (s : State) (f : Lines → Lines) : (s.modLines f).templates = s.templates := rfl
@[simp] theorem modLines_glyphs (s : State) (f : Lines → Lines) : (s.modLines f).glyphs = s.glyphs := rfl
@[simp] theorem modLines_ports (s : State) (f : Lines → Lines) : (s.modLines f).ports = s.ports := rfl
@[simp] theorem modLines_verifies (s : State) (f : Lines → Lines) : (s.modLines f).verifies = s.verifies := rfl
@[simp] theorem modLines_places (s : State) (f : Lines → Lines) : (s.modLines f).places = s.places := rfl
@[simp] theorem modLines_tagCounter (s : State) (f : Lines → Lines) : (s.modLines f).tagCounter = s.tagCounter := rfl
@[simp] theorem modLines_unreported (s : State) (f : Lines → Lines) : (s.modLines f).unreported = s.unreported := rfl
@[simp] theorem modLines_transport (s : State) (f : Lines → Lines) : (s.modLines f).transport = s.transport := rfl
@[simp] theorem modLines_sensors (s : State) (f : Lines → Lines) : (s.modLines f).sensors = s.sensors := rfl
@[simp] theorem modLines_printer (s : State) (f : Lines → Lines) : (s.modLines f).printer = s.printer := rfl
@[simp] theorem modLines_notices (s : State) (f : Lines → Lines) : (s.modLines f).notices = s.notices := rfl
@[simp] theorem modLines_link (s : State) (f : Lines → Lines) : (s.modLines f).link = s.link := rfl

@[simp] theorem modSensors_pending (s : State) (f : Sensors → Sensors) : (s.modSensors f).pending = s.pending := rfl
@[simp] theorem modSensors_now (s : State) (f : Sensors → Sensors) : (s.modSensors f).now = s.now := rfl
@[simp] theorem modSensors_resetHeld (s : State) (f : Sensors → Sensors) : (s.modSensors f).resetHeld = s.resetHeld := rfl
@[simp] theorem modSensors_jobs (s : State) (f : Sensors → Sensors) : (s.modSensors f).jobs = s.jobs := rfl
@[simp] theorem modSensors_passes (s : State) (f : Sensors → Sensors) : (s.modSensors f).passes = s.passes := rfl
@[simp] theorem modSensors_memory (s : State) (f : Sensors → Sensors) : (s.modSensors f).memory = s.memory := rfl
@[simp] theorem modSensors_profiles (s : State) (f : Sensors → Sensors) : (s.modSensors f).profiles = s.profiles := rfl
@[simp] theorem modSensors_assign (s : State) (f : Sensors → Sensors) : (s.modSensors f).assign = s.assign := rfl
@[simp] theorem modSensors_timing (s : State) (f : Sensors → Sensors) : (s.modSensors f).timing = s.timing := rfl
@[simp] theorem modSensors_templates (s : State) (f : Sensors → Sensors) : (s.modSensors f).templates = s.templates := rfl
@[simp] theorem modSensors_glyphs (s : State) (f : Sensors → Sensors) : (s.modSensors f).glyphs = s.glyphs := rfl
@[simp] theorem modSensors_ports (s : State) (f : Sensors → Sensors) : (s.modSensors f).ports = s.ports := rfl
@[simp] theorem modSensors_verifies (s : State) (f : Sensors → Sensors) : (s.modSensors f).verifies = s.verifies := rfl
@[simp] theorem modSensors_places (s : State) (f : Sensors → Sensors) : (s.modSensors f).places = s.places := rfl
@[simp] theorem modSensors_tagCounter (s : State) (f : Sensors → Sensors) : (s.modSensors f).tagCounter = s.tagCounter := rfl
@[simp] theorem modSensors_unreported (s : State) (f : Sensors → Sensors) : (s.modSensors f).unreported = s.unreported := rfl
@[simp] theorem modSensors_transport (s : State) (f : Sensors → Sensors) : (s.modSensors f).transport = s.transport := rfl
@[simp] theorem modSensors_printer (s : State) (f : Sensors → Sensors) : (s.modSensors f).printer = s.printer := rfl
@[simp] theorem modSensors_notices (s : State) (f : Sensors → Sensors) : (s.modSensors f).notices = s.notices := rfl
@[simp] theorem modSensors_link (s : State) (f : Sensors → Sensors) : (s.modSensors f).link = s.link := rfl
@[simp] theorem modSensors_lines (s : State) (f : Sensors → Sensors) : (s.modSensors f).lines = s.lines := rfl

@[simp] theorem setDisc_pending (s : State) (p : Place) (d : Option Disc) : (s.setDisc p d).pending = s.pending := rfl
@[simp] theorem setDisc_now (s : State) (p : Place) (d : Option Disc) : (s.setDisc p d).now = s.now := rfl
@[simp] theorem setDisc_resetHeld (s : State) (p : Place) (d : Option Disc) : (s.setDisc p d).resetHeld = s.resetHeld := rfl
@[simp] theorem setDisc_jobs (s : State) (p : Place) (d : Option Disc) : (s.setDisc p d).jobs = s.jobs := rfl
@[simp] theorem setDisc_passes (s : State) (p : Place) (d : Option Disc) : (s.setDisc p d).passes = s.passes := rfl
@[simp] theorem setDisc_memory (s : State) (p : Place) (d : Option Disc) : (s.setDisc p d).memory = s.memory := rfl
@[simp] theorem setDisc_profiles (s : State) (p : Place) (d : Option Disc) : (s.setDisc p d).profiles = s.profiles := rfl
@[simp] theorem setDisc_assign (s : State) (p : Place) (d : Option Disc) : (s.setDisc p d).assign = s.assign := rfl
@[simp] theorem setDisc_timing (s : State) (p : Place) (d : Option Disc) : (s.setDisc p d).timing = s.timing := rfl
@[simp] theorem setDisc_templates (s : State) (p : Place) (d : Option Disc) : (s.setDisc p d).templates = s.templates := rfl
@[simp] theorem setDisc_glyphs (s : State) (p : Place) (d : Option Disc) : (s.setDisc p d).glyphs = s.glyphs := rfl
@[simp] theorem setDisc_ports (s : State) (p : Place) (d : Option Disc) : (s.setDisc p d).ports = s.ports := rfl
@[simp] theorem setDisc_verifies (s : State) (p : Place) (d : Option Disc) : (s.setDisc p d).verifies = s.verifies := rfl
@[simp] theorem setDisc_tagCounter (s : State) (p : Place) (d : Option Disc) : (s.setDisc p d).tagCounter = s.tagCounter := rfl
@[simp] theorem setDisc_unreported (s : State) (p : Place) (d : Option Disc) : (s.setDisc p d).unreported = s.unreported := rfl
@[simp] theorem setDisc_transport (s : State) (p : Place) (d : Option Disc) : (s.setDisc p d).transport = s.transport := rfl
@[simp] theorem setDisc_sensors (s : State) (p : Place) (d : Option Disc) : (s.setDisc p d).sensors = s.sensors := rfl
@[simp] theorem setDisc_printer (s : State) (p : Place) (d : Option Disc) : (s.setDisc p d).printer = s.printer := rfl
@[simp] theorem setDisc_notices (s : State) (p : Place) (d : Option Disc) : (s.setDisc p d).notices = s.notices := rfl
@[simp] theorem setDisc_link (s : State) (p : Place) (d : Option Disc) : (s.setDisc p d).link = s.link := rfl
@[simp] theorem setDisc_lines (s : State) (p : Place) (d : Option Disc) : (s.setDisc p d).lines = s.lines := rfl

@[simp] theorem modDisc_pending (s : State) (p : Place) (f : Disc → Disc) : (s.modDisc p f).pending = s.pending := rfl
@[simp] theorem modDisc_now (s : State) (p : Place) (f : Disc → Disc) : (s.modDisc p f).now = s.now := rfl
@[simp] theorem modDisc_resetHeld (s : State) (p : Place) (f : Disc → Disc) : (s.modDisc p f).resetHeld = s.resetHeld := rfl
@[simp] theorem modDisc_jobs (s : State) (p : Place) (f : Disc → Disc) : (s.modDisc p f).jobs = s.jobs := rfl
@[simp] theorem modDisc_passes (s : State) (p : Place) (f : Disc → Disc) : (s.modDisc p f).passes = s.passes := rfl
@[simp] theorem modDisc_memory (s : State) (p : Place) (f : Disc → Disc) : (s.modDisc p f).memory = s.memory := rfl
@[simp] theorem modDisc_profiles (s : State) (p : Place) (f : Disc → Disc) : (s.modDisc p f).profiles = s.profiles := rfl
@[simp] theorem modDisc_assign (s : State) (p : Place) (f : Disc → Disc) : (s.modDisc p f).assign = s.assign := rfl
@[simp] theorem modDisc_timing (s : State) (p : Place) (f : Disc → Disc) : (s.modDisc p f).timing = s.timing := rfl
@[simp] theorem modDisc_templates (s : State) (p : Place) (f : Disc → Disc) : (s.modDisc p f).templates = s.templates := rfl
@[simp] theorem modDisc_glyphs (s : State) (p : Place) (f : Disc → Disc) : (s.modDisc p f).glyphs = s.glyphs := rfl
@[simp] theorem modDisc_ports (s : State) (p : Place) (f : Disc → Disc) : (s.modDisc p f).ports = s.ports := rfl
@[simp] theorem modDisc_verifies (s : State) (p : Place) (f : Disc → Disc) : (s.modDisc p f).verifies = s.verifies := rfl
@[simp] theorem modDisc_tagCounter (s : State) (p : Place) (f : Disc → Disc) : (s.modDisc p f).tagCounter = s.tagCounter := rfl
@[simp] theorem modDisc_unreported (s : State) (p : Place) (f : Disc → Disc) : (s.modDisc p f).unreported = s.unreported := rfl
@[simp] theorem modDisc_transport (s : State) (p : Place) (f : Disc → Disc) : (s.modDisc p f).transport = s.transport := rfl
@[simp] theorem modDisc_sensors (s : State) (p : Place) (f : Disc → Disc) : (s.modDisc p f).sensors = s.sensors := rfl
@[simp] theorem modDisc_printer (s : State) (p : Place) (f : Disc → Disc) : (s.modDisc p f).printer = s.printer := rfl
@[simp] theorem modDisc_notices (s : State) (p : Place) (f : Disc → Disc) : (s.modDisc p f).notices = s.notices := rfl
@[simp] theorem modDisc_link (s : State) (p : Place) (f : Disc → Disc) : (s.modDisc p f).link = s.link := rfl
@[simp] theorem modDisc_lines (s : State) (p : Place) (f : Disc → Disc) : (s.modDisc p f).lines = s.lines := rfl

/-! ## Reading back -/

@[simp] theorem job_modJob_self (s : State) (j : JobId) (f : Job → Job) : (s.modJob j f).job j = f (s.job j) := by
  simp [State.job, State.modJob]

theorem job_modJob (s : State) (j k : JobId) (f : Job → Job) :
    (s.modJob j f).job k = if k = j then f (s.job j) else s.job k := by
  simp [State.job, State.modJob, nth_upd]

@[simp] theorem pass_setPass_self (s : State) (j : JobId) (x : Option Pass) : (s.setPass j x).pass j = x := by
  simp [State.pass, State.setPass]

theorem pass_setPass (s : State) (j k : JobId) (x : Option Pass) :
    (s.setPass j x).pass k = if k = j then x else s.pass k := by
  simp [State.pass, State.setPass, nth_upd]

@[simp] theorem port_modPort_self (s : State) (p : PortId) (f : Port → Port) : (s.modPort p f).port p = f (s.port p) := by
  simp [State.port, State.modPort]

theorem port_modPort (s : State) (p q : PortId) (f : Port → Port) :
    (s.modPort p f).port q = if q = p then f (s.port p) else s.port q := by
  simp [State.port, State.modPort, nth_upd]

@[simp] theorem verify_setVerify_self (s : State) (p : PortId) (x : Option Verify) : (s.setVerify p x).verify p = x := by
  simp [State.verify, State.setVerify]

@[simp] theorem disc_setDisc_self (s : State) (p : Place) (d : Option Disc) : (s.setDisc p d).disc p = d := by
  simp [State.disc, State.setDisc]

theorem disc_setDisc (s : State) (p q : Place) (d : Option Disc) :
    (s.setDisc p d).disc q = if q = p then d else s.disc q := by
  unfold State.disc State.setDisc
  rw [nth_upd]
  by_cases h : q = p
  · subst h; simp
  · have : q.idx ≠ p.idx := fun e => h (Place.idx_inj e)
    simp [h, this]

@[simp] theorem disc_modDisc_self (s : State) (p : Place) (f : Disc → Disc) : (s.modDisc p f).disc p = (s.disc p).map f := by
  simp [State.modDisc]

theorem disc_modDisc (s : State) (p q : Place) (f : Disc → Disc) :
    (s.modDisc p f).disc q = if q = p then (s.disc p).map f else s.disc q := by
  simp [State.modDisc, disc_setDisc]

end Sys2Proof.Machine
end

