-- ==== Sys2Proof/Laws/Drive.lean ====
section
/-! SUPPORT. What a drive's answer and a timeout do, for every command: the provers cite these in place of unfolding the
answer rows. -/

namespace Sys2Proof.Machine

@[simp] theorem upd_upd (v : Vector α n) (i : Fin n) (x y : α) : upd (upd v i x) i y = upd v i y := by
  simp [upd]

theorem upd_self (v : Vector α n) (i : Fin n) : upd v i (nth v i) = v := by
  simp [upd, nth]

@[simp] theorem modPort_modPort (s : State) (p : PortId) (f g : Port → Port) :
    (s.modPort p f).modPort p g = s.modPort p fun q => g (f q) := by
  simp [State.modPort, State.port]

/-- No command waits for the link, so an answer finds the port as it is (log 5). -/
theorem carried_none {s : State} {p : PortId} (h : (s.port p).afterReset = none) (k : CmdClass) :
    s.carried p k = s := by
  simp [State.carried, h]

/-- The answer to a command that has not been ended, other than NOT_READY (R70). -/
theorem driveAnswer_owed {s : State} {p : PortId} {c : DriveCmd} (h : s.owes p c) {a : Answer} (ha : a ≠ .notReady)
    (info : IdentifyInfo) :
    s.driveAnswer p c.cls (decide (c = .sleep)) a info =
      State.settle s (State.result p c (s.port p).retries (.answer a) info (s.modPort p fun q => q.took c a)) := by
  obtain ⟨h1, h2, h3, h4, h5⟩ := h
  have e : (s.port p).answers c.cls (decide (c = .sleep)) = some c := by simp [Port.answers, h2]
  simp only [State.driveAnswer, carried_none h5, e, h4, Option.isSome_none, Bool.false_eq_true, if_false]
  rw [State.event, if_neg (by simp [h1]), State.answered]
  simp only [h3, Bool.false_eq_true, if_false, if_neg ha]
  rw [State.takeOutcome, modPort_modPort]
  rfl

/-- NOT_READY keeps the command in flight for its wait (R71). -/
theorem driveAnswer_notReady {s : State} {p : PortId} {c : DriveCmd} (h : s.owes p c) (info : IdentifyInfo) :
    s.driveAnswer p c.cls (decide (c = .sleep)) .notReady info =
      State.settle s (s.modPort p fun q => Port.waitReady s.now c.cls { q with
        lastOutcome := some (c.cls, .answer .notReady) }) := by
  obtain ⟨h1, h2, h3, h4, h5⟩ := h
  have e : (s.port p).answers c.cls (decide (c = .sleep)) = some c := by simp [Port.answers, h2]
  simp only [State.driveAnswer, carried_none h5, e, h4, Option.isSome_none, Bool.false_eq_true, if_false]
  rw [State.event, if_neg (by simp [h1]), State.answered]
  simp only [h3, Bool.false_eq_true, if_false, if_true]
  rw [State.takeOutcome, modPort_modPort]
  rfl

/-- The row of a command's answer hands it to the port (R70). -/
theorem exec_answerRow (s : State) (p : PortId) (a : Answer) (info : IdentifyInfo) (c : DriveCmd) :
    exec (answerRow p a info c) s = .next (s.driveAnswer p c.cls (decide (c = .sleep)) a
      (if c = .identify then info else noInfo)) := by
  cases c <;> rfl

end Sys2Proof.Machine
end

