-- ==== Sys2Proof/Laws/Fixed.lean ====
section
/-! SUPPORT. What the end of an event leaves unchanged: one lemma per shared operation, then for `settle`. -/

namespace Sys2Proof.Machine

theorem foldl_fixed {f : State → α → State} (h : ∀ s a, (f s a).fixed = s.fixed) (l : List α) :
    ∀ s, (l.foldl f s).fixed = s.fixed := by
  induction l with
  | nil => intro s; rfl
  | cons a l ih => intro s; exact (ih _).trans (h s a)

theorem modJob_fixed (s : State) (j : JobId) {f : Job → Job} (h : ∀ x, (f x).tables = x.tables) :
    (s.modJob j f).fixed = s.fixed := by
  have : (fun k => ((s.modJob j f).job k).tables) = fun k => (s.job k).tables := by
    funext k
    rw [job_modJob]
    split
    · next e => subst e; exact h _
    · rfl
  simp only [State.fixed, this]
  rfl

theorem modPass_fixed (s : State) (j : JobId) {f : Pass → Pass} (h : ∀ x, (f x).ingress = x.ingress) :
    (s.modPass j f).fixed = s.fixed := by
  have : (fun k => ((s.modPass j f).pass k).map Pass.ingress) = fun k => (s.pass k).map Pass.ingress := by
    funext k
    unfold State.modPass
    rw [pass_setPass]
    split
    · next e =>
      subst e
      cases s.pass k with
      | none => rfl
      | some x => exact congrArg some (h x)
    · rfl
  simp only [State.fixed, this]
  rfl

theorem setPass_fixed (s : State) (j : JobId) {p q : Pass} (hp : s.pass j = some p) (h : q.ingress = p.ingress) :
    (s.setPass j (some q)).fixed = s.fixed := by
  have hk : (fun k => ((s.setPass j (some q)).pass k).map Pass.ingress) = fun k => (s.pass k).map Pass.ingress := by
    funext k
    rw [pass_setPass]
    split
    · next e => subst e; rw [hp]; exact congrArg some h
    · rfl
  simp only [State.fixed, hk]
  rfl

@[simp] theorem modPort_fixed (s : State) (p : PortId) (f : Port → Port) : (s.modPort p f).fixed = s.fixed := rfl
theorem modTransport_fixed (s : State) {f : Transport → Transport} (h : ∀ t, (f t).marks = t.marks)
    (hl : ∀ t, (f t).latched = t.latched) : (s.modTransport f).fixed = s.fixed := by
  simp only [State.fixed, State.modTransport, h, hl]
  rfl

@[simp] theorem modNotices_fixed (s : State) (f : Notices → Notices) : (s.modNotices f).fixed = s.fixed := rfl
@[simp] theorem setDisc_fixed (s : State) (p : Place) (d : Option Disc) : (s.setDisc p d).fixed = s.fixed := rfl
@[simp] theorem modDisc_fixed (s : State) (p : Place) (f : Disc → Disc) : (s.modDisc p f).fixed = s.fixed := rfl
@[simp] theorem raise_fixed (s : State) (x : Notice) : (s.raise x).fixed = s.fixed := rfl
@[simp] theorem withdraw_fixed (s : State) (x : Notice) : (s.withdraw x).fixed = s.fixed := rfl
@[simp] theorem removeRequests_fixed (s : State) (f : ReqKind → Bool) : (s.removeRequests f).fixed = s.fixed := rfl
@[simp] theorem createRequest_fixed (s : State) (k : ReqKind) : (s.createRequest k).fixed = s.fixed := rfl
@[simp] theorem giveUpReservation_fixed (s : State) : s.giveUpReservation.fixed = s.fixed := rfl
@[simp] theorem issue_fixed (s : State) (p : PortId) (c : DriveCmd) : (s.issue p c).fixed = s.fixed := rfl
@[simp] theorem gotoPort_fixed (s : State) (p : PortId) (x : PortState) : (s.gotoPort p x).fixed = s.fixed := rfl
@[simp] theorem goIdle_fixed (s : State) (p : PortId) : (s.goIdle p).fixed = s.fixed := rfl
@[simp] theorem goDone_fixed (s : State) (p : PortId) : (s.goDone p).fixed = s.fixed := rfl
@[simp] theorem takeOutcome_fixed (s : State) (p : PortId) (c : CmdClass) (o : Outcome) :
    (s.takeOutcome p c o).fixed = s.fixed := rfl
@[simp] theorem goProbe_fixed (s : State) (p : PortId) : (s.goProbe p).fixed = s.fixed := rfl
@[simp] theorem goRecovery_fixed (s : State) (p : PortId) : (s.goRecovery p).fixed = s.fixed := rfl
@[simp] theorem goOpening_fixed (s : State) (p : PortId) (e : Errand) : (s.goOpening p e).fixed = s.fixed := rfl
@[simp] theorem goClosing_fixed (s : State) (p : PortId) : (s.goClosing p).fixed = s.fixed := rfl
@[simp] theorem goChecking_fixed (s : State) (p : PortId) : (s.goChecking p).fixed = s.fixed := rfl

@[simp] theorem goFaulted_fixed (s : State) (p : PortId) : (s.goFaulted p).fixed = s.fixed := by
  unfold State.goFaulted; split <;> simp

@[simp] theorem goOffline_fixed (s : State) (p : PortId) : (s.goOffline p).fixed = s.fixed := by
  unfold State.goOffline; dsimp only; split <;> simp

@[simp] theorem trayServed_fixed (s : State) (p : PortId) : (s.trayServed p).fixed = s.fixed := by
  unfold State.trayServed; split <;> simp

@[simp] theorem faultOf_fixed (s : State) (j : JobId) (c : FaultCause) (n : Option Half) (p : Option PortId)
    (l : Option Nat) (t : Option Half) : (s.faultOf j c n p l t).fixed = s.fixed :=
  modJob_fixed s j fun _ => rfl

@[simp] theorem handFault_fixed (s : State) (p : PortId) (c : FaultCause) (l : Option Nat) :
    (s.handFault p c l).fixed = s.fixed := by
  unfold State.handFault; split <;> [rfl; (split <;> simp)]

@[simp] theorem giveUpBlank_fixed (s : State) (p : PortId) : (s.giveUpBlank p).fixed = s.fixed := rfl

@[simp] theorem giveUpBlanks_fixed (s : State) (j : JobId) : (s.giveUpBlanks j).fixed = s.fixed :=
  foldl_fixed (fun s p => by split <;> simp) _ s

@[simp] theorem countJob_fixed (s : State) (j : Option JobId) (f : Counters → Counters) :
    (s.countJob j f).fixed = s.fixed := by
  unfold State.countJob
  split
  · rfl
  · exact modJob_fixed s _ fun _ => rfl

@[simp] theorem appendReport_fixed (s : State) (b : Bool) (r : Report) : (s.appendReport b r).fixed = s.fixed := by
  unfold State.appendReport; dsimp only; (repeat' split) <;> rfl

@[simp] theorem freePlace_fixed (s : State) (p : Place) : (s.freePlace p).fixed = s.fixed := by cases p <;> rfl

@[simp] theorem liftDisc_fixed (s : State) (p : Place) (d : Station) : (s.liftDisc p d).fixed = s.fixed := by
  unfold State.liftDisc; split <;> simp

@[simp] theorem lose_fixed (s : State) (p : Place) (c : LossCause) (b : Bool) : (s.lose p c b).fixed = s.fixed := by
  unfold State.lose; split <;> simp

@[simp] theorem enterPhase_fixed (s : State) (m : Move) (ph : Phase) : (s.enterPhase m ph).fixed = s.fixed := rfl
@[simp] theorem endMove_fixed (s : State) : s.endMove.fixed = s.fixed := rfl
@[simp] theorem armFault_fixed (s : State) (c : TransportCause) (st : Option Station) :
    (s.armFault c st).fixed = s.fixed := rfl

@[simp] theorem holdPort_fixed (s : State) (m : Move) : (s.holdPort m).fixed = s.fixed := by
  unfold State.holdPort
  split
  · exact modTransport_fixed s (fun t => by split <;> rfl) fun t => by split <;> rfl
  · rfl

@[simp] theorem closeMove_fixed (s : State) (m : Move) (b : Bool) (st : Option Station) :
    (s.closeMove m b st).fixed = s.fixed := by
  unfold State.closeMove; split <;> simp

@[simp] theorem gripAtArm_fixed (s : State) (m : Move) (b : Bool) : (s.gripAtPlace m .arm b).fixed = s.fixed := by
  unfold State.gripAtPlace; dsimp only; (repeat' split) <;> simp_all

@[simp] theorem grantRequest_fixed (s : State) (r : Request) : (s.grantRequest r).fixed = s.fixed := by
  unfold State.grantRequest
  split
  · rfl
  · dsimp only
    split
    · next h => subst h; simp only [State.judgeGrip, gripAtArm_fixed]; split <;> rfl
    · rw [enterPhase_fixed]; split <;> rfl

@[simp] theorem arbitrate_fixed (s : State) : s.arbitrate.fixed = s.fixed := by
  unfold State.arbitrate; split <;> simp

@[simp] theorem createFeed_fixed (s : State) (p : PortId) : (s.createFeed p).fixed = s.fixed := by
  unfold State.createFeed; split <;> [rfl; (split <;> simp)]

@[simp] theorem createRecover_fixed (s : State) (p : Place) : (s.createRecover p).fixed = s.fixed := by
  unfold State.createRecover; split <;> [rfl; (dsimp only; split <;> simp)]

@[simp] theorem createUnload_fixed (s : State) (p : PortId) : (s.createUnload p).fixed = s.fixed := by
  unfold State.createUnload; (repeat' split) <;> simp

@[simp] theorem feedPort_fixed (s : State) (p : PortId) : (s.feedPort p).fixed = s.fixed := by
  unfold State.feedPort; split <;> simp

@[simp] theorem createPrintLoad_fixed (s : State) : s.createPrintLoad.fixed = s.fixed := by
  unfold State.createPrintLoad; dsimp only; split <;> simp

@[simp] theorem servePort_fixed (s : State) (p : PortId) : (s.servePort p).fixed = s.fixed := by
  unfold State.servePort; dsimp only; (repeat' split) <;> simp

@[simp] theorem pruneRequests_fixed (s : State) : s.pruneRequests.fixed = s.fixed := rfl

@[simp] theorem settleTransport_fixed (s : State) : s.settleTransport.fixed = s.fixed := by
  unfold State.settleTransport
  simp only [arbitrate_fixed, createPrintLoad_fixed, pruneRequests_fixed,
    foldl_fixed servePort_fixed, foldl_fixed feedPort_fixed, foldl_fixed createUnload_fixed]

@[simp] theorem leave_ingress (x : Pass) (p : PortId) (st : MemberStatus) : (x.leave p st).ingress = x.ingress := by
  cases st <;> rfl

@[simp] theorem leave_fixed (s : State) (j : JobId) (p : PortId) (st : MemberStatus) :
    (s.modPass j fun x => x.leave p st).fixed = s.fixed :=
  modPass_fixed s j fun x => leave_ingress x p st

@[simp] theorem mapMember_fixed (s : State) (j : JobId) (p : PortId) (f : Member → Member) :
    (s.modPass j fun x => x.mapMember p f).fixed = s.fixed :=
  modPass_fixed s j fun _ => rfl

theorem grants_ingress (x : Job) (p : Pass) : (p.grants x).ingress = p.ingress := by
  have h : ∀ (l : List Nat) (p : Pass), (l.foldl (fun p _ => p.grant x) p).ingress = p.ingress := by
    intro l
    induction l with
    | nil => intro p; rfl
    | cons a l ih =>
      intro p
      refine (ih _).trans ?_
      dsimp only
      unfold Pass.grant
      split <;> rfl
  exact h _ p

theorem examine_ingress (x : Job) (p : Pass) : (p.examine x).ingress = p.ingress := grants_ingress x p

@[simp] theorem abortMember_fixed (s : State) (j : JobId) (c : FaultCause) (p : PortId) :
    (s.abortMember j c p).fixed = s.fixed := by
  unfold State.abortMember; dsimp only; (repeat' split) <;> simp

@[simp] theorem abortPass_fixed (s : State) (j : JobId) (c : AbortCause) (l : Option Nat) :
    (s.abortPass j c l).fixed = s.fixed := by
  unfold State.abortPass
  split
  · rfl
  · split
    · rfl
    · dsimp only
      rw [raise_fixed, foldl_fixed (fun s p => abortMember_fixed s j _ p), modJob_fixed, modPass_fixed, faultOf_fixed]
      · exact fun _ => rfl
      · exact fun _ => rfl

@[simp] theorem cutMember_fixed (s : State) (j : JobId) (m : Member) : (s.cutMember j m).fixed = s.fixed := by
  simp [State.cutMember]

@[simp] theorem examine_fixed (s : State) (j : JobId) : (s.examine j).fixed = s.fixed := by
  unfold State.examine
  split
  · rfl
  · next p hp =>
    have hq : (s.setPass j (some (p.examine (s.job j)))).fixed = s.fixed := setPass_fixed s j hp (examine_ingress _ _)
    split
    · rfl
    · dsimp only
      split
      · split
        · exact hq
        · refine (modPass_fixed _ _ fun x => examine_ingress _ x).trans ?_
          exact (foldl_fixed (fun s m => cutMember_fixed s j m) _ _).trans hq
      · exact hq

theorem endRecord_fixed (s : State) (j : JobId) : (s.modPass j fun p =>
    { p with state := .ended, comp := { p.comp with blocked := false } }).fixed = s.fixed :=
  modPass_fixed s j fun _ => rfl

@[simp] theorem endPass_fixed (s : State) (j : JobId) : (s.endPass j).fixed = s.fixed := by
  unfold State.endPass
  (repeat' split) <;> first | rfl | exact (raise_fixed _ _).trans (endRecord_fixed s j) | simp

@[simp] theorem launchMember_fixed (s : State) (j : JobId) (p : PortId) : (s.launchMember j p).fixed = s.fixed := by
  unfold State.launchMember; split <;> simp

@[simp] theorem launch_fixed (s : State) (j : JobId) : (s.launch j).fixed = s.fixed := by
  unfold State.launch
  rw [raise_fixed]
  generalize h : (numbers 16).foldl (fun s p => s.launchMember j p) s = t
  have hm : (t.modPass j fun x => { x with state := .running, closed := true }).fixed = t.fixed :=
    modPass_fixed t j fun _ => rfl
  rw [hm, ← h]
  exact foldl_fixed (fun s p => launchMember_fixed s j p) _ s

@[simp] theorem issueWrite_fixed (s : State) (j : JobId) (p : PortId) : (s.issueWrite j p).fixed = s.fixed := by
  unfold State.issueWrite; (repeat' split) <;> first | rfl | (dsimp only; split <;> simp)

@[simp] theorem settleJob_fixed (s : State) (j : JobId) : (s.settleJob j).fixed = s.fixed := by
  unfold State.settleJob
  dsimp only
  rw [foldl_fixed (fun s p => issueWrite_fixed s j p)]
  split <;> simp

@[simp] theorem completeJob_fixed (s : State) (j : JobId) : (s.completeJob j).fixed = s.fixed := by
  unfold State.completeJob
  (repeat' split) <;> first | rfl | (rw [raise_fixed]; exact modJob_fixed s j fun _ => rfl)

@[simp] theorem raiseWaveReady_fixed (s0 s : State) (j : JobId) : (State.raiseWaveReady s0 s j).fixed = s.fixed := by
  unfold State.raiseWaveReady; split <;> simp

theorem modLink_fixed (s : State) {f : Link → Link} (h : ∀ l, (f l).counts = l.counts)
    (ha : ∀ l, (f l).answers = l.answers) : (s.modLink f).fixed = s.fixed := by
  simp only [State.fixed, State.modLink, h, ha]
  rfl

/-- A request of the link for a frame that is no answer. -/
theorem request_fixed (s : State) {e : OutEntry} (he : e.isAnswer = false) :
    (s.modLink fun l => l.request e).fixed = s.fixed := by
  refine modLink_fixed s (fun l => ?_) fun l => ?_ <;> unfold Link.request <;> split
  · rfl
  · rfl
  · rfl
  · cases e <;> simp_all [Link.answers, OutEntry.isAnswer]

@[simp] theorem requestCredit_fixed (s : State) (j : JobId) : (s.requestCredit j).fixed = s.fixed :=
  request_fixed s rfl

@[simp] theorem outbound_fixed (s0 s : State) : (State.outbound s0 s).fixed = s.fixed := by
  have h1 : ∀ s : State, ((numbers 4).foldl
      (fun s j => if creditChanged s0 s j then s.requestCredit j else s) s).fixed = s.fixed :=
    foldl_fixed (fun s j => by split <;> simp) _
  have h2 : ∀ s : State, (causeClasses.foldl
      (fun s c => if s.classReady c then s.modLink fun l => l.request (.notice c) else s) s).fixed = s.fixed :=
    foldl_fixed (fun s c => by
      split
      · exact request_fixed s rfl
      · rfl) _
  unfold State.outbound State.requests
  dsimp only
  split
  · rfl
  split
  · exact (request_fixed _ rfl).trans ((h2 _).trans (h1 s))
  · exact (h2 _).trans (h1 s)

/-- The end of an event leaves every field of `Fixed` as the event's own effect left it. -/
@[simp] theorem settle_fixed (s0 s : State) : (State.settle s0 s).fixed = s.fixed := by
  unfold State.settle
  simp only [outbound_fixed, settleTransport_fixed, foldl_fixed completeJob_fixed, foldl_fixed settleJob_fixed,
    foldl_fixed (fun s j => raiseWaveReady_fixed s0 s j)]

end Sys2Proof.Machine
end

