-- ==== Sys2Proof/Laws/Link.lean ====
section
/-! SUPPORT. What the end of an event asks of the link: requests are appended, no answer among them; how a frame that is
heard is dispatched. -/

namespace Sys2Proof.Machine

/-! ## The outbound queue -/

/-- A request of the link appends at most the entry itself. -/
theorem modLink_request (s : State) (e : OutEntry) : ∃ rest : List OutEntry, (∀ x ∈ rest, x = e) ∧
    (s.modLink fun l => l.request e) = { s with link := { s.link with queue := s.link.queue ++ rest } } := by
  by_cases h : e ∈ s.link.queue
  · exact ⟨[], by simp, by simp [State.modLink, Link.request, h]⟩
  · exact ⟨[e], by simp, by simp [State.modLink, Link.request, h]⟩

/-- `t` is `s` with entries appended that are no answers. -/
def appends (s t : State) : Prop :=
  ∃ rest : List OutEntry, (∀ e ∈ rest, e.isAnswer = false) ∧
    t = { s with link := { s.link with queue := s.link.queue ++ rest } }

theorem appends_refl (s : State) : appends s s := ⟨[], by simp, by simp⟩

theorem appends_trans {s t u : State} (h : appends s t) (g : appends t u) : appends s u := by
  obtain ⟨a, ha, rfl⟩ := h
  obtain ⟨b, hb, rfl⟩ := g
  refine ⟨a ++ b, fun e he => ?_, by simp⟩
  rcases List.mem_append.mp he with h | h
  · exact ha e h
  · exact hb e h

theorem appends_request (s : State) {e : OutEntry} (he : e.isAnswer = false) :
    appends s (s.modLink fun l => l.request e) := by
  obtain ⟨rest, h, h'⟩ := modLink_request s e
  exact ⟨rest, fun x hx => (h x hx) ▸ he, h'⟩

theorem appends_foldl {f : State → α → State} (h : ∀ s a, appends s (f s a)) (l : List α) :
    ∀ s, appends s (l.foldl f s) := by
  induction l with
  | nil => exact appends_refl
  | cons a l ih => exact fun s => appends_trans (h s a) (ih _)

/-- The end of an event appends to the outbound queue, and does nothing else (R187). -/
theorem outbound_appends (s0 s : State) : appends s (State.outbound s0 s) := by
  have h1 : ∀ s : State, appends s ((numbers 4).foldl
      (fun s j => if creditChanged s0 s j then s.requestCredit j else s) s) :=
    appends_foldl (fun s j => by
      split
      · exact appends_request s rfl
      · exact appends_refl s) _
  have h2 : ∀ s : State, appends s (causeClasses.foldl
      (fun s c => if s.classReady c then s.modLink fun l => l.request (.notice c) else s) s) :=
    appends_foldl (fun s c => by
      split
      · exact appends_request s rfl
      · exact appends_refl s) _
  unfold State.outbound State.requests
  dsimp only
  split
  · exact appends_refl _
  refine appends_trans (h1 s) (appends_trans (h2 _) ?_)
  split
  · exact appends_request _ rfl
  · exact appends_refl _

/-- What follows an answer at a command that touches a table: the answer stands in the queue, nothing else changes. -/
theorem outbound_replies (s0 u : State) (a : AnswerEntry) : State.replies u (State.outbound s0 (u.answer a)) a := by
  obtain ⟨rest, h, e⟩ := outbound_appends s0 (u.answer a)
  refine ⟨rest, h, e.trans ?_⟩
  simp [State.answer, State.modLink]

/-! ## Dispatch -/

/-- A frame heard in SYNCED is dispatched from the state with its count. -/
theorem hear_synced {s : State} {f : State → State} (h1 : s.resetHeld = false) (h2 : s.link.stage = .none)
    (h3 : s.link.receiver = .synced) : s.hear f = f s.countGood := by
  simp [State.hear, h1, h2, h3]

theorem countGood_unsent (s : State) : s.countGood.link.unsent = s.link.unsent := rfl

/-- A command with its required length, taken: performed and answered. -/
theorem command_taken {s : State} {h : CmdHdr} {n : Nat} (ht : s.takes) (hl : h.len = n) (after : After)
    (perform : State → State × Result) :
    State.command h n after perform s =
      (match after, (perform s.countGood).2.isOk with
        | .settle, true => State.settle s.countGood ((perform s.countGood).1.answer (answerTo h (perform s.countGood).2))
        | .settle, false | .post, _ =>
          State.outbound s.countGood ((perform s.countGood).1.answer (answerTo h (perform s.countGood).2))) := by
  obtain ⟨h1, h2, h3, h4⟩ := ht
  have : ¬ Config.answerRoom ≤ s.countGood.link.unsent := by rw [countGood_unsent]; omega
  rw [State.command, hear_synced h1 h2 h3, State.take, if_neg this, if_neg (by simp [hl])]
  rfl

theorem numbered_eq {n : Nat} {code : Byte} {i : Fin n} (h : code.toNat = i.val) : numbered n code = some i := by
  simp [numbered, h]

theorem numbered_none {n : Nat} {code : Byte} (h : n ≤ code.toNat) : numbered n code = none := by
  simp [numbered]; omega

/-- A table command whose perform is known. -/
theorem command_post {s : State} {h : CmdHdr} {n : Nat} (ht : s.takes) (hl : h.len = n)
    {perform : State → State × Result} {u : State} {r : Result} (hp : perform s.countGood = (u, r)) :
    State.replies u (State.command h n .post perform s) (answerTo h r) := by
  rw [command_taken ht hl, hp]
  exact outbound_replies _ _ _

/-- A command that is taken, the blocks acting after it. -/
theorem command_settle {s : State} {h : CmdHdr} {n : Nat} (ht : s.takes) (hl : h.len = n)
    {perform : State → State × Result} {u : State} {v : Half} (hp : perform s.countGood = (u, .ok v)) :
    State.command h n .settle perform s = State.settle s.countGood (u.answer (answerTo h (.ok v))) := by
  rw [command_taken ht hl, hp]
  rfl

/-- A command that is refused changes nothing but the queue (R22). -/
theorem command_refused {s : State} {h : CmdHdr} {n : Nat} (ht : s.takes) (hl : h.len = n) (after : After)
    {perform : State → State × Result} {r : Result} (hr : r.isOk = false)
    (hp : perform s.countGood = (s.countGood, r)) :
    State.replies s.countGood (State.command h n after perform s) (answerTo h r) := by
  rw [command_taken ht hl, hp]
  cases after
  · simp only [hr]; exact outbound_replies _ _ _
  · exact outbound_replies _ _ _

/-! ## Events -/

/-- Out of reset an event is its own effect, then what follows at the same event. -/
theorem event_run {s : State} (h : s.resetHeld = false) (f : State → State) : s.event f = State.settle s (f s) := by
  simp [State.event, h]

theorem eventIf_run {s : State} (h : s.resetHeld = false) {c : Bool} (hc : c = true) (f : State → State) :
    s.eventIf c f = State.settle s (f s) := by
  simp [State.eventIf, hc, event_run h]

theorem quietIf_run {s : State} (h : s.resetHeld = false) {c : Bool} (hc : c = true) (f : State → State) :
    s.quietIf c f = f s := by
  simp [State.quietIf, h, hc]

end Sys2Proof.Machine
end

