-- ==== Sys2Proof/Laws/Memory.lean ====
section
/-! SUPPORT. Sparse contents: the canonical form is kept by every write, and what a write leaves to be read. -/

namespace Sys2Proof.Machine

/-! ## The canonical form -/

theorem mem_cellsFrom [DecidableEq α] {d : α} (vs : List α) : ∀ {a : Nat} {c : Nat × α}, c ∈ cellsFrom d a vs →
    a ≤ c.1 ∧ c.1 < a + vs.length ∧ c.2 ≠ d := by
  induction vs with
  | nil => intro a c h; simp [cellsFrom] at h
  | cons v vs ih =>
    intro a c h
    unfold cellsFrom at h
    split at h
    · obtain ⟨h1, h2, h3⟩ := ih h
      refine ⟨by omega, ?_, h3⟩
      simp only [List.length_cons]; omega
    · next hv =>
      simp only [List.mem_cons] at h
      rcases h with rfl | h
      · exact ⟨Nat.le_refl _, by simp, hv⟩
      · obtain ⟨h1, h2, h3⟩ := ih h
        refine ⟨by omega, ?_, h3⟩
        simp only [List.length_cons]; omega

theorem cellsFrom_rising [DecidableEq α] {d : α} (vs : List α) : ∀ a, (cellsFrom d a vs).Pairwise fun x y => x.1 < y.1 := by
  induction vs with
  | nil => intro a; simp [cellsFrom]
  | cons v vs ih =>
    intro a
    unfold cellsFrom
    split
    · exact ih _
    · refine List.pairwise_cons.mpr ⟨fun c h => ?_, ih _⟩
      have := (mem_cellsFrom vs h).1
      omega

theorem Cells.wf_iff [DecidableEq α] {d : α} {m : Cells α} :
    Cells.wf d m = true ↔ (m.Pairwise fun x y => x.1 < y.1) ∧ ∀ c ∈ m, c.2 ≠ d := by
  simp [Cells.wf]

/-- A write keeps the canonical form. -/
theorem Cells.wf_write [DecidableEq α] {d : α} {m : Cells α} (h : Cells.wf d m = true) (a : Nat) (vs : List α) :
    Cells.wf d (Cells.write d m a vs) = true := by
  obtain ⟨hp, hd⟩ := Cells.wf_iff.mp h
  refine Cells.wf_iff.mpr ⟨?_, ?_⟩
  · unfold Cells.write
    rw [List.pairwise_append, List.pairwise_append]
    refine ⟨⟨hp.filter _, cellsFrom_rising vs a, ?_⟩, hp.filter _, ?_⟩
    · intro x hx y hy
      have := (mem_cellsFrom vs hy).1
      simp at hx; omega
    · intro x hx y hy
      simp only [List.mem_append, List.mem_filter, decide_eq_true_eq] at hx hy
      rcases hx with ⟨_, hx⟩ | hx
      · omega
      · have := (mem_cellsFrom vs hx).2.1
        omega
  · intro c hc
    simp only [Cells.write, List.mem_append, List.mem_filter] at hc
    rcases hc with (⟨hc, _⟩ | hc) | ⟨hc, _⟩
    · exact hd c hc
    · exact (mem_cellsFrom vs hc).2.2
    · exact hd c hc

@[simp] theorem Cells.wf_nil [DecidableEq α] (d : α) : Cells.wf d ([] : Cells α) = true := rfl

/-! ## Reading -/

theorem Cells.read_append (d : α) (m n : Cells α) (b : Nat) :
    Cells.read d (m ++ n) b = if b ∈ m.map Prod.fst then Cells.read d m b else Cells.read d n b := by
  induction m with
  | nil => simp
  | cons c m ih =>
    obtain ⟨k, v⟩ := c
    simp only [List.cons_append, Cells.read, List.map_cons, List.mem_cons]
    by_cases hk : k = b
    · simp [hk]
    · have hk' : b ≠ k := fun e => hk e.symm
      simp only [hk, hk', if_false, false_or]
      exact ih

theorem Cells.read_absent {d : α} {m : Cells α} {b : Nat} (h : b ∉ m.map Prod.fst) : Cells.read d m b = d := by
  induction m with
  | nil => rfl
  | cons c m ih =>
    obtain ⟨k, v⟩ := c
    simp only [List.map_cons, List.mem_cons, not_or] at h
    have hk : k ≠ b := fun e => h.1 e.symm
    simp [Cells.read, hk, ih h.2]

theorem Cells.read_filter (d : α) (m : Cells α) (q : Nat → Bool) {b : Nat} (h : q b = true) :
    Cells.read d (m.filter fun c => q c.1) b = Cells.read d m b := by
  induction m with
  | nil => rfl
  | cons c m ih =>
    obtain ⟨k, v⟩ := c
    by_cases hk : k = b
    · subst hk; simp [h, Cells.read]
    · by_cases hq : q k = true
      · simp [hq, Cells.read, hk, ih]
      · simp [hq, Cells.read, hk, ih]

theorem Cells.read_cellsFrom [DecidableEq α] (d : α) (vs : List α) : ∀ a b, a ≤ b → b < a + vs.length →
    Cells.read d (cellsFrom d a vs) b = vs.getD (b - a) d := by
  induction vs with
  | nil => intro a b h1 h2; simp at h2; omega
  | cons v vs ih =>
    intro a b h1 h2
    simp only [List.length_cons] at h2
    unfold cellsFrom
    by_cases hab : a = b
    · subst hab
      split
      · next hv =>
        rw [Cells.read_absent]
        · simp [hv]
        · intro hm
          obtain ⟨c, hc, hcb⟩ := List.mem_map.mp hm
          have := (mem_cellsFrom vs hc).1
          omega
      · simp [Cells.read]
    · have e : b - a = (b - (a + 1)) + 1 := by omega
      split
      · rw [ih (a + 1) b (by omega) (by omega), e]; simp
      · simp only [Cells.read, hab, if_false]
        rw [ih (a + 1) b (by omega) (by omega), e]; simp

/-- What a slot holds after a write: the value written to it, or what it held. -/
theorem Cells.read_write [DecidableEq α] (d : α) (m : Cells α) (a : Nat) (vs : List α) (b : Nat) :
    Cells.read d (Cells.write d m a vs) b =
      if a ≤ b ∧ b < a + vs.length then vs.getD (b - a) d else Cells.read d m b := by
  have key : ∀ c ∈ cellsFrom d a vs, a ≤ c.1 ∧ c.1 < a + vs.length := fun c h =>
    ⟨(mem_cellsFrom vs h).1, (mem_cellsFrom vs h).2.1⟩
  unfold Cells.write
  rw [List.append_assoc, Cells.read_append, Cells.read_append]
  by_cases hlo : b < a
  · have h1 : b ∉ (cellsFrom d a vs).map Prod.fst := by
      intro hm; obtain ⟨c, hc, e⟩ := List.mem_map.mp hm; have := key c hc; omega
    have h2 : b ∉ (m.filter fun c => decide (a + vs.length ≤ c.1)).map Prod.fst := by
      intro hm; obtain ⟨c, hc, e⟩ := List.mem_map.mp hm
      simp at hc; omega
    rw [if_neg h1, Cells.read_absent h2, if_neg (show ¬(a ≤ b ∧ b < a + vs.length) by omega),
      Cells.read_filter d m (fun k => decide (k < a)) (by simpa)]
    split
    · rfl
    · next h3 =>
      refine (Cells.read_absent ?_).symm
      intro hm
      obtain ⟨c, hc, e⟩ := List.mem_map.mp hm
      exact h3 (List.mem_map.mpr ⟨c, List.mem_filter.mpr ⟨hc, by simp; omega⟩, e⟩)
  · have h0 : b ∉ (m.filter fun c => decide (c.1 < a)).map Prod.fst := by
      intro hm; obtain ⟨c, hc, e⟩ := List.mem_map.mp hm
      simp at hc; omega
    rw [if_neg h0]
    by_cases hin : b < a + vs.length
    · rw [if_pos (⟨by omega, hin⟩ : a ≤ b ∧ b < a + vs.length), ← Cells.read_cellsFrom d vs a b (by omega) hin]
      split
      · rfl
      · next h3 =>
        rw [Cells.read_absent h3, Cells.read_absent]
        intro hm; obtain ⟨c, hc, e⟩ := List.mem_map.mp hm
        simp at hc; omega
    · have h1 : b ∉ (cellsFrom d a vs).map Prod.fst := by
        intro hm; obtain ⟨c, hc, e⟩ := List.mem_map.mp hm; have := key c hc; omega
      rw [if_neg h1, if_neg (by omega),
        Cells.read_filter d m (fun k => decide (a + vs.length ≤ k)) (by simp; omega)]

/-! ## Image memory -/

theorem nth_mem_toList {β : Type} {n : Nat} (v : Vector β n) (i : Fin n) : nth v i ∈ v.toList := by
  simp only [nth, Vector.mem_toList_iff]
  exact Vector.getElem_mem i.isLt

theorem mem_upd {β : Type} {n : Nat} {v : Vector β n} {i : Fin n} {x y : β} (h : y ∈ (upd v i x).toList) :
    y = x ∨ y ∈ v.toList := by
  rw [Vector.mem_toList_iff, Vector.mem_iff_getElem] at h
  obtain ⟨k, hk, rfl⟩ := h
  have := nth_upd v i ⟨k, hk⟩ x
  simp only [nth] at this
  rw [this]
  split
  · exact Or.inl rfl
  · exact Or.inr (Vector.mem_toList_iff.mpr (Vector.getElem_mem hk))

theorem ImageMemory.wf_iff {m : ImageMemory} : m.wf = true ↔
    (∀ c ∈ m.rings.toList, Cells.wf Config.dramSector c = true) ∧
    (∀ c ∈ m.digests.toList, Cells.wf Config.dramDigest c = true) ∧
    (∀ c ∈ m.rasters.toList, Cells.wf Config.dramByte c = true) := by
  simp only [ImageMemory.wf, Bool.and_eq_true, List.all_eq_true, and_assoc]

theorem ImageMemory.wf_setSector {m : ImageMemory} (h : m.wf = true) (j : JobId) (a : Nat) (x : Sector) :
    (m.setSector j a x).wf = true := by
  obtain ⟨h1, h2, h3⟩ := wf_iff.mp h
  refine wf_iff.mpr ⟨fun c hc => ?_, h2, h3⟩
  rcases mem_upd hc with rfl | hc
  · exact Cells.wf_write (h1 _ (nth_mem_toList _ _)) _ _
  · exact h1 c hc

theorem ImageMemory.wf_setDigest {m : ImageMemory} (h : m.wf = true) (j : JobId) (b : Nat) (x : Word) :
    (m.setDigest j b x).wf = true := by
  obtain ⟨h1, h2, h3⟩ := wf_iff.mp h
  refine wf_iff.mpr ⟨h1, fun c hc => ?_, h3⟩
  rcases mem_upd hc with rfl | hc
  · exact Cells.wf_write (h2 _ (nth_mem_toList _ _)) _ _
  · exact h2 c hc

theorem ImageMemory.wf_setRaster {m : ImageMemory} (h : m.wf = true) (t : TemplateId) (o : Nat) (xs : List Byte) :
    (m.setRaster t o xs).wf = true := by
  obtain ⟨h1, h2, h3⟩ := wf_iff.mp h
  refine wf_iff.mpr ⟨h1, h2, fun c hc => ?_⟩
  rcases mem_upd hc with rfl | hc
  · exact Cells.wf_write (h3 _ (nth_mem_toList _ _)) _ _
  · exact h3 c hc

theorem ImageMemory.wf_clearRing {m : ImageMemory} (h : m.wf = true) (j : JobId) : (m.clearRing j).wf = true := by
  obtain ⟨h1, h2, h3⟩ := wf_iff.mp h
  refine wf_iff.mpr ⟨fun c hc => ?_, h2, h3⟩
  rcases mem_upd hc with rfl | hc
  · rfl
  · exact h1 c hc

theorem ImageMemory.wf_reset : ImageMemory.reset.wf = true := by
  refine wf_iff.mpr ⟨?_, ?_, ?_⟩ <;> intro c hc <;>
    (rw [Vector.mem_toList_iff] at hc; rw [(Vector.mem_replicate.mp hc).2]; rfl)

end Sys2Proof.Machine
end

