-- ==== Sys2Proof/Laws/Notices.lean ====
section
/-! SUPPORT. Ranks of pending pairs: within a class a rank names its pair, and a raise keeps its set in rank order. -/

namespace Sys2Proof.Machine

/-- The station order numbers the stations 0 to 27, each once (R131). -/
theorem station_code (a : Station) : a.code < 28 := by
  rcases a with i | n | _ | k | b <;> simp only [Station.code] <;> first | omega | (cases b <;> simp)

/-- A station code names one station. -/
theorem station_code_inj {a b : Station} (h : a.code = b.code) : a = b := by
  rcases a with i | n | _ | k | o <;> rcases b with i' | n' | _ | k' | o' <;>
    (try cases o) <;> (try cases o') <;> simp only [Station.code] at h <;> first
    | rfl
    | (congr 1; exact Fin.ext (by omega))
    | (exfalso; omega)

/-- What an object adds to a rank: less than the step between causes (R171). -/
def objectRank (n : Notice) : Nat :=
  match n.object with
  | none => 0
  | some o => o + 1

/-- An object rank stays below the step between causes. -/
theorem objectRank_lt (n : Notice) : objectRank n < 64 := by
  cases n <;> simp only [objectRank, Notice.object] <;> try omega
  · rename_i k; cases k <;> simp
  · rename_i s; cases s with
    | none => simp
    | some a => have := station_code a; simp; omega
  all_goals (rename_i b; have := station_code (.out b); simp; omega)

/-- Within a class a rank names its pair (R171). -/
theorem rank_inj {x y : Notice} (hc : x.cls = y.cls) (hr : x.rank = y.rank) : x = y := by
  have hr' : 64 * x.cause + objectRank x = 64 * y.cause + objectRank y := hr
  have h1 := objectRank_lt x
  have h2 := objectRank_lt y
  have hcause : x.cause = y.cause := by omega
  have hobj : objectRank x = objectRank y := by omega
  clear hr hr' h1 h2
  cases x <;> cases y <;> simp only [Notice.cls, reduceCtorEq] at hc <;> simp [Notice.cause] at hcause <;>
    simp only [objectRank, Notice.object] at hobj
  case resetDone.resetDone a b => cases a <;> cases b <;> simp_all
  case transportFault.transportFault a b =>
    cases a <;> cases b <;> simp_all
    exact station_code_inj hobj
  all_goals first
    | rfl
    | (congr 1; exact Fin.ext (by omega))
    | (rename_i a b; cases a <;> cases b <;> simp_all [Station.code])

/-- A raise keeps a set strictly rising in rank and of one class (R170, R171). -/
theorem raise_ranked (c : NoticeClass) (k : CauseClass) (x : Notice) (hx : x.cls = k)
    (h : c.set.Pairwise (fun x y => x.rank < y.rank) ∧ ∀ y ∈ c.set, y.cls = k) :
    (c.raise x).set.Pairwise (fun x y => x.rank < y.rank) ∧ ∀ y ∈ (c.raise x).set, y.cls = k := by
  have ins : ∀ l : List Notice, x ∉ l → l.Pairwise (fun x y => x.rank < y.rank) → (∀ y ∈ l, y.cls = k) →
      (insertRanked x l).Pairwise (fun x y => x.rank < y.rank) ∧ ∀ y ∈ insertRanked x l, y = x ∨ y ∈ l := by
    intro l
    induction l with
    | nil => intro _ _ _; simp [insertRanked]
    | cons z l ih =>
      intro hn hp hk
      simp only [List.mem_cons, not_or] at hn
      have hz : x.rank ≠ z.rank := fun e => hn.1 (rank_inj (hx.trans (hk z (by simp)).symm) e)
      obtain ⟨i1, i2⟩ := ih hn.2 hp.of_cons fun y hy => hk y (by simp [hy])
      unfold insertRanked
      split
      · next hlt =>
        refine ⟨List.pairwise_cons.2 ⟨fun y hy => ?_, hp⟩, by simp⟩
        rcases List.mem_cons.1 hy with rfl | hy
        · exact hlt
        · exact hlt.trans (List.rel_of_pairwise_cons hp hy)
      · next hge =>
        refine ⟨List.pairwise_cons.2 ⟨fun y hy => ?_, i1⟩, fun y hy => ?_⟩
        · rcases i2 y hy with rfl | hy
          · omega
          · exact List.rel_of_pairwise_cons hp hy
        · rcases List.mem_cons.1 hy with rfl | hy
          · simp
          · rcases i2 y hy with e | e <;> simp [e]
  unfold NoticeClass.raise
  split
  · exact h
  · next hn =>
    obtain ⟨i1, i2⟩ := ins c.set hn h.1 h.2
    exact ⟨i1, fun y hy => (i2 y hy).elim (fun e => e ▸ hx) (h.2 y)⟩

end Sys2Proof.Machine
end

