-- ==== Sys2Proof/Laws/Passes.lean ====
section
/-! SUPPORT. What giving up blanks and aborting a pass can do: which fields they touch, and what becomes of the pass; the
order and the room of a wave. -/

namespace Sys2Proof.Machine

/-! ## The fields an abort touches -/

/-- Only jobs, passes, ports and records may differ. -/
def onlyWave (s t : State) : Prop :=
  t = { s with jobs := t.jobs, passes := t.passes, ports := t.ports, places := t.places }

theorem onlyWave_refl (s : State) : onlyWave s s := rfl

theorem onlyWave_trans {s t u : State} (h : onlyWave s t) (g : onlyWave t u) : onlyWave s u := by
  unfold onlyWave at *
  rw [g, h]

theorem onlyWave_foldl {f : State → α → State} (h : ∀ s a, onlyWave s (f s a)) (l : List α) :
    ∀ s, onlyWave s (l.foldl f s) := by
  induction l with
  | nil => exact onlyWave_refl
  | cons a l ih => exact fun s => onlyWave_trans (h s a) (ih _)

theorem giveUpBlank_only (s : State) (p : PortId) : onlyWave s (s.giveUpBlank p) := rfl

theorem handFault_only (s : State) (p : PortId) (c : FaultCause) (l : Option Nat) : onlyWave s (s.handFault p c l) := by
  unfold State.handFault
  split
  · rfl
  · split <;> rfl

theorem abortMember_only (s : State) (j : JobId) (c : FaultCause) (p : PortId) : onlyWave s (s.abortMember j c p) := by
  have hand : ∀ (t : State) (l : Option Nat), onlyWave t ((t.handFault p c l).goDone p) := fun t l =>
    onlyWave_trans (handFault_only t p c l) rfl
  unfold State.abortMember
  dsimp only
  (repeat' split) <;> first | rfl | (refine onlyWave_trans ?_ (hand _ _); rfl)

/-! ## The pass after an abort -/

theorem handFault_passes (s : State) (p : PortId) (c : FaultCause) (l : Option Nat) :
    (s.handFault p c l).passes = s.passes := by
  unfold State.handFault
  split
  · rfl
  · split <;> rfl

/-- What of a pass an abort's member treatment keeps. -/
def Pass.stays (p q : Pass) : Prop :=
  q.number = p.number ∧ q.state = p.state ∧ q.cause = p.cause ∧ q.closed = p.closed ∧ q.comp = p.comp

theorem leave_stays (x : Pass) (p : PortId) (st : MemberStatus) : Pass.stays x (x.leave p st) := by
  cases st <;> exact ⟨rfl, rfl, rfl, rfl, rfl⟩

/-- The treatment of one member changes no other pass, and of its own pass the wave and the counts alone. -/
theorem abortMember_pass (s : State) (j : JobId) (c : FaultCause) (p : PortId) :
    (∀ k, k ≠ j → (s.abortMember j c p).pass k = s.pass k) ∧
    (s.pass j = none → (s.abortMember j c p).pass j = none) ∧
    ∀ x, s.pass j = some x → ∃ y, (s.abortMember j c p).pass j = some y ∧ Pass.stays x y := by
  have base : (∀ k, k ≠ j → s.pass k = s.pass k) ∧ (s.pass j = none → s.pass j = none) ∧
      ∀ x, s.pass j = some x → ∃ y, s.pass j = some y ∧ Pass.stays x y :=
    ⟨fun _ _ => rfl, id, fun x h => ⟨x, h, rfl, rfl, rfl, rfl, rfl⟩⟩
  have leaves : ∀ (t : State) (st : MemberStatus), t.passes = (s.modPass j fun x => x.leave p st).passes →
      (∀ k, k ≠ j → t.pass k = s.pass k) ∧ (s.pass j = none → t.pass j = none) ∧
      ∀ x, s.pass j = some x → ∃ y, t.pass j = some y ∧ Pass.stays x y := by
    intro t st ht
    have e : ∀ k, t.pass k = (s.modPass j fun x => x.leave p st).pass k := fun k => by
      simp only [State.pass, ht]
    refine ⟨fun k hk => ?_, fun h => ?_, fun x h => ⟨x.leave p st, ?_, leave_stays x p st⟩⟩
    · rw [e, State.modPass, pass_setPass, if_neg hk]
    · rw [e, State.modPass, pass_setPass_self, h]; rfl
    · rw [e, State.modPass, pass_setPass_self, h]; rfl
  unfold State.abortMember
  split
  · exact base
  · next m hm =>
    split
    · dsimp only
      split
      · exact leaves _ .returned rfl
      · exact leaves _ .returned rfl
    · dsimp only
      refine leaves _ .failed ?_
      exact handFault_passes _ _ _ _
    all_goals exact base

theorem abortMembers_pass (j : JobId) (c : FaultCause) (l : List PortId) : ∀ s : State,
    (∀ k, k ≠ j → (l.foldl (fun s n => s.abortMember j c n) s).pass k = s.pass k) ∧
    ∀ x, s.pass j = some x → ∃ y, (l.foldl (fun s n => s.abortMember j c n) s).pass j = some y ∧ Pass.stays x y := by
  induction l with
  | nil => exact fun s => ⟨fun _ _ => rfl, fun x h => ⟨x, h, rfl, rfl, rfl, rfl, rfl⟩⟩
  | cons a l ih =>
    intro s
    obtain ⟨h1, _, h3⟩ := abortMember_pass s j c a
    refine ⟨fun k hk => ((ih _).1 k hk).trans (h1 k hk), fun x hx => ?_⟩
    obtain ⟨y, hy, sy⟩ := h3 x hx
    obtain ⟨z, hz, sz⟩ := (ih _).2 y hy
    obtain ⟨a1, a2, a3, a4, a5⟩ := sy
    obtain ⟨b1, b2, b3, b4, b5⟩ := sz
    exact ⟨z, hz, b1.trans a1, b2.trans a2, b3.trans a3, b4.trans a4, b5.trans a5⟩

/-- What an abort does: the live pass becomes ABORTED with its cause, its ingress kept and its accumulator discarded, every
other pass stands; PASS ABORTED is raised; nothing outside jobs, passes, ports and records changes. -/
theorem abortPass_spec {s : State} {j : JobId} {p : Pass} (hp : s.pass j = some p) (hl : p.live = true)
    (c : AbortCause) (lba : Option Nat) :
    (∃ q, (s.abortPass j c lba).pass j = some q ∧ q.state = .aborted ∧ q.cause = some c ∧ q.number = p.number ∧
      q.closed = p.closed ∧ q.comp = { p.comp with accumulator := none, blocked := false }) ∧
    (∀ k, k ≠ j → (s.abortPass j c lba).pass k = s.pass k) ∧
    s.abortPass j c lba = { s with
      jobs := (s.abortPass j c lba).jobs, passes := (s.abortPass j c lba).passes
      ports := (s.abortPass j c lba).ports, places := (s.abortPass j c lba).places
      notices := (s.raise (.passAborted j)).notices } := by
  unfold State.abortPass
  simp only [hp, hl, Bool.not_true, Bool.false_eq_true, if_false]
  generalize hx : ((s.faultOf j c.fault (some p.number) none lba none).modPass j fun p =>
    { p with state := .aborted, cause := some c, comp := { p.comp with accumulator := none, blocked := false } }) = t
  have ht : t.pass j = some
      { p with state := .aborted, cause := some c, comp := { p.comp with accumulator := none, blocked := false } } := by
    rw [← hx, State.modPass, pass_setPass_self]
    have : (s.faultOf j c.fault (some p.number) none lba none).pass j = s.pass j := rfl
    rw [this, hp]; rfl
  have hk : ∀ k, k ≠ j → t.pass k = s.pass k := fun k h => by
    rw [← hx, State.modPass, pass_setPass, if_neg h]; rfl
  have hw : onlyWave s t := by rw [← hx]; rfl
  generalize hy : (t.modJob j fun x => { x with digest := if x.digest = .building then .empty else x.digest }) = u
  have hu : ∀ k, u.pass k = t.pass k := fun k => by rw [← hy]; rfl
  have hwu : onlyWave s u := onlyWave_trans hw (by rw [← hy]; rfl)
  obtain ⟨m1, m2⟩ := abortMembers_pass j c.fault (numbers 16) u
  have hf := onlyWave_trans hwu (onlyWave_foldl (fun s n => abortMember_only s j c.fault n) (numbers 16) u)
  obtain ⟨q, hq, q1, q2, q3, q4, q5⟩ := m2 _ ((hu j).trans ht)
  generalize hv : (numbers 16).foldl (fun s n => s.abortMember j c.fault n) u = v at *
  refine ⟨⟨q, hq, q2, q3, q1, q4, q5⟩, fun k h => ?_, ?_⟩
  · exact (m1 k h).trans ((hu k).trans (hk k h))
  · unfold onlyWave at hf
    rw [hf]; rfl

/-! ## The order of a wave -/

theorem makeRoom_sublist (w : List Member) : (makeRoom w).Sublist w := by
  unfold makeRoom
  split
  · exact List.Sublist.refl w
  · exact List.eraseP_sublist

/-- Below 16 entries every entry is kept (R48). -/
theorem makeRoom_of_lt {w : List Member} (h : w.length < maxCount) : makeRoom w = w := if_pos h

/-- A new entry of a port that is not in the wave keeps the wave in order (R47, R48). -/
theorem insertMember_before {m : Member} {w : List Member} (h : w.Pairwise Member.before)
    (hm : ∀ q ∈ w, q.port = m.port → q.live = false) : (insertMember m w).Pairwise Member.before := by
  have hs := h.sublist (makeRoom_sublist w)
  have hq : ∀ q ∈ makeRoom w, q.port = m.port → q.live = false := fun q hq => hm q ((makeRoom_sublist w).subset hq)
  unfold insertMember
  simp only [List.pairwise_append, List.pairwise_cons, List.mem_append, List.mem_filter, List.mem_singleton,
    decide_eq_true_eq]
  refine ⟨⟨hs.filter _, by simp, ?_⟩, hs.filter _, ?_⟩
  · rintro a ⟨ha, hp⟩ b rfl
    rcases lt_or_eq_of_le hp with hp | hp
    · exact Or.inl hp
    · exact Or.inr ⟨hp, hq a ha hp⟩
  · rintro a (⟨_, ha⟩ | rfl) b ⟨_, hb⟩
    · exact Or.inl (lt_of_le_of_lt ha hb)
    · exact Or.inl hb

/-- A wave in order whose entries are all in the wave has one entry a port. -/
theorem live_ports_rising {w : List Member} (h : w.Pairwise Member.before) (hl : ∀ q ∈ w, q.live = true) :
    (w.map Member.port).Pairwise (· < ·) := by
  rw [List.pairwise_map]
  refine h.imp_of_mem fun {a b} ha _ hab => ?_
  rcases hab with hab | ⟨_, hab⟩
  · exact hab
  · rw [hl a ha] at hab; exact absurd hab (by decide)

/-- The new entry has room: a wave of at most 16 entries that does not hold its port stays within 16 (R47). -/
theorem insertMember_length {m : Member} {w : List Member} (h : w.Pairwise Member.before) (hw : w.length ≤ maxCount)
    (hm : ∀ q ∈ w, q.port = m.port → q.live = false) : (insertMember m w).length ≤ maxCount := by
  have len : (insertMember m w).length = (makeRoom w).length + 1 := by
    have : ∀ l : List Member, (l.filter fun q => decide (q.port ≤ m.port)).length
        + (l.filter fun q => decide (m.port < q.port)).length = l.length := by
      intro l
      induction l with
      | nil => rfl
      | cons a l ih =>
        by_cases ha : a.port ≤ m.port
        · simp only [List.filter_cons, ha, not_lt.mpr ha, decide_true, decide_false, if_true, Bool.false_eq_true, if_false,
            List.length_cons]
          omega
        · simp only [List.filter_cons, ha, not_le.mp ha, decide_true, decide_false, if_true, Bool.false_eq_true, if_false,
            List.length_cons]
          omega
    have t := this (makeRoom w)
    simp only [insertMember, List.length_append, List.length_singleton]
    omega
  rw [len]
  by_cases hlt : w.length < maxCount
  · rw [makeRoom_of_lt hlt]; omega
  · by_cases hl : ∀ q ∈ w, q.live = true
    · exfalso
      have nd : (m.port :: w.map Member.port).Nodup := by
        refine List.nodup_cons.mpr ⟨fun hc => ?_, (live_ports_rising h hl).imp fun hab => ne_of_lt hab⟩
        obtain ⟨q, hq, hp⟩ := List.mem_map.mp hc
        exact absurd (hm q hq hp) (by rw [hl q hq]; decide)
      have := nd.length_le_card
      simp only [List.length_cons, List.length_map, Fintype.card_fin] at this
      simp only [maxCount] at hlt
      omega
    · push Not at hl
      obtain ⟨q, hq, hn⟩ := hl
      have := List.length_eraseP_of_mem (p := fun q : Member => !q.live) hq (by simpa using hn)
      unfold makeRoom
      rw [if_neg hlt, this]
      have : 0 < w.length := List.length_pos_of_mem hq
      omega

end Sys2Proof.Machine
end

