-- ==== Sys2Proof/Laws/PerInstr.lean ====
section
/-! SUPPORT. One lemma per row: the payload of a command is as long as the command requires, and a row that is no command
has none (R186, R192). -/

namespace Sys2Proof.Laws.CommandForm

open Machine

/-- The payload a row encodes to is as long as the row requires. -/
def Statement (i : Instr) : Prop := (encodeCommand i).map List.length = i.requiredLength

theorem flatMap_length {α : Type} (f : α → List Byte) (k : Nat) (h : ∀ a, (f a).length = k) :
    ∀ xs : List α, (xs.flatMap f).length = k * xs.length
  | [] => rfl
  | x :: xs => by rw [List.flatMap_cons, List.length_append, h, flatMap_length f k h xs, List.length_cons]; ring

theorem encodeExtent_length (e : ExtentEntry) : (encodeExtent e).length = 8 := rfl

theorem encodeField_length (e : FieldEntry) : (encodeField e).length = 24 := by
  simp [encodeField, halfBytes]

theorem encodeGlyph_length (g : Glyph) : (encodeGlyph g).length = 48 := by
  rw [encodeGlyph, flatMap_length _ 2 fun _ => rfl]; simp

theorem powerOn : Statement .powerOn := rfl

theorem resetPin : Statement .resetPin := rfl

theorem resetRelease : Statement .resetRelease := rfl

theorem jobOpen (h : CmdHdr) (job : Byte) (ring : Half) : Statement (.jobOpen h job ring) := rfl

theorem setJob (h : CmdHdr) (job : Byte) (prefill : Half) (lag : Half) (target : Half) (bin : Byte) (profile : Byte) (template : Byte) :
    Statement (.setJob h job prefill lag target bin profile template) := rfl

theorem jobRun (h : CmdHdr) (job : Byte) : Statement (.jobRun h job) := rfl

theorem jobDrain (h : CmdHdr) (job : Byte) : Statement (.jobDrain h job) := rfl

theorem jobHalt (h : CmdHdr) (job : Byte) : Statement (.jobHalt h job) := rfl

theorem jobClose (h : CmdHdr) (job : Byte) : Statement (.jobClose h job) := rfl

theorem loadMap (h : CmdHdr) (job : Byte) (extents : List ExtentEntry) : Statement (.loadMap h job extents) := by
  simp [Statement, encodeCommand, commandFields, encodeList, slotByte, slotHalf, halfBytes,
    flatMap_length _ 8 encodeExtent_length, Instr.requiredLength]; omega

theorem loadProfile (h : CmdHdr) (profile : Byte) (entry : ProfileEntry) :
    Statement (.loadProfile h profile entry) := rfl

theorem assignPort (h : CmdHdr) (port : Byte) (job : Byte) : Statement (.assignPort h port job) := rfl

theorem loadTiming (h : CmdHdr) (entry : TimingEntry) : Statement (.loadTiming h entry) := rfl

theorem setSerial (h : CmdHdr) (job : Byte) (base : Word) (step : Half) (width : Byte) (pad : Byte) :
    Statement (.setSerial h job base step width pad) := rfl

theorem digestReset (h : CmdHdr) (job : Byte) : Statement (.digestReset h job) := rfl

theorem passStart (h : CmdHdr) (job : Byte) : Statement (.passStart h job) := rfl

theorem passAbort (h : CmdHdr) (job : Byte) : Statement (.passAbort h job) := rfl

theorem portReset (h : CmdHdr) (port : Byte) : Statement (.portReset h port) := rfl

theorem portService (h : CmdHdr) (port : Byte) : Statement (.portService h port) := rfl

theorem transportHome (h : CmdHdr) : Statement (.transportHome h) := rfl

theorem transportPause (h : CmdHdr) : Statement (.transportPause h) := rfl

theorem transportResume (h : CmdHdr) : Statement (.transportResume h) := rfl

theorem hostMove (h : CmdHdr) (source : Byte) (dest : Byte) : Statement (.hostMove h source dest) := rfl

theorem loadTemplate (h : CmdHdr) (template : Byte) (offset : Word) (chunk : List Byte) : Statement (.loadTemplate h template offset chunk) := by
  simp [Statement, encodeCommand, commandFields, encodeList, slotByte, slotHalf, halfBytes, wordBytes,
    Instr.requiredLength]; omega

theorem setTemplate (h : CmdHdr) (template : Byte) (inner : Half) (outer : Half) (fields : List FieldEntry) : Statement (.setTemplate h template inner outer fields) := by
  simp [Statement, encodeCommand, commandFields, encodeList, slotByte, slotHalf, halfBytes,
    flatMap_length _ 24 encodeField_length, Instr.requiredLength]; omega

theorem loadGlyphs (h : CmdHdr) (glyphs : Vector Glyph 16) : Statement (.loadGlyphs h glyphs) := by
  simp [Statement, encodeCommand, commandFields, slotHalf, halfBytes,
    flatMap_length _ 48 encodeGlyph_length, Instr.requiredLength]

theorem ribbonLoad (h : CmdHdr) (count : Half) : Statement (.ribbonLoad h count) := rfl

theorem printerResume (h : CmdHdr) : Statement (.printerResume h) := rfl

theorem ackNotice (h : CmdHdr) (cls : Byte) (cause : Byte) (obj : Half) :
    Statement (.ackNotice h cls cause obj) := rfl

theorem faultClear (h : CmdHdr) (job : Byte) : Statement (.faultClear h job) := rfl

theorem read (h : CmdHdr) (args : ReadArgs) : Statement (.read h args) := rfl

theorem partReset (h : CmdHdr) : Statement (.partReset h) := rfl

theorem unknownCommand (h : CmdHdr) : Statement (.unknownCommand h) := rfl

theorem commandDropped : Statement .commandDropped := rfl

theorem otherKindFrame (kind : Byte) : Statement (.otherKindFrame kind) := rfl

theorem imageFrame (job : Byte) (payload : List Byte) : Statement (.imageFrame job payload) := rfl

theorem badFrame : Statement .badFrame := rfl

theorem huntGoodFrame : Statement .huntGoodFrame := rfl

theorem frameDuringReset : Statement .frameDuringReset := rfl

theorem laneSignalLoss (lane : Fin 4) : Statement (.laneSignalLoss lane) := rfl

theorem answerSent : Statement .answerSent := rfl

theorem resetPerformed : Statement .resetPerformed := rfl

theorem creditSent : Statement .creditSent := rfl

theorem noticeSent : Statement .noticeSent := rfl

theorem reportSent : Statement .reportSent := rfl

theorem fillSector (job : JobId) : Statement (.fillSector job) := rfl

theorem linkUp (port : PortId) : Statement (.linkUp port) := rfl

theorem linkDown (port : PortId) : Statement (.linkDown port) := rfl

theorem identifyAnswer (port : PortId) (answer : Answer) (info : IdentifyInfo) :
    Statement (.identifyAnswer port answer info) := rfl

theorem trayAnswer (port : PortId) (answer : Answer) : Statement (.trayAnswer port answer) := rfl

theorem sleepAnswer (port : PortId) (answer : Answer) : Statement (.sleepAnswer port answer) := rfl

theorem wakeAnswer (port : PortId) (answer : Answer) : Statement (.wakeAnswer port answer) := rfl

theorem mediaCheckAnswer (port : PortId) (answer : Answer) : Statement (.mediaCheckAnswer port answer) := rfl

theorem writeAnswer (port : PortId) (answer : Answer) : Statement (.writeAnswer port answer) := rfl

theorem syncAnswer (port : PortId) (answer : Answer) : Statement (.syncAnswer port answer) := rfl

theorem finaliseAnswer (port : PortId) (answer : Answer) : Statement (.finaliseAnswer port answer) := rfl

theorem readSector (port : PortId) (data : Sector) : Statement (.readSector port data) := rfl

theorem readAnswer (port : PortId) (answer : Answer) : Statement (.readAnswer port answer) := rfl

theorem endedCommandAnswer (port : PortId) (answer : Answer) : Statement (.endedCommandAnswer port answer) := rfl

theorem endingTimeout (port : PortId) : Statement (.endingTimeout port) := rfl

theorem commandTimeout (port : PortId) : Statement (.commandTimeout port) := rfl

theorem notReadyReissue (port : PortId) : Statement (.notReadyReissue port) := rfl

theorem dataPhasePause (port : PortId) : Statement (.dataPhasePause port) := rfl

theorem dataPhaseResume (port : PortId) : Statement (.dataPhaseResume port) := rfl

theorem pauseLimitExpiry (port : PortId) : Statement (.pauseLimitExpiry port) := rfl

theorem standbyIntervalReached (port : PortId) : Statement (.standbyIntervalReached port) := rfl

theorem armArrived : Statement .armArrived := rfl

theorem armStalled : Statement .armStalled := rfl

theorem travelTimeout : Statement .travelTimeout := rfl

theorem homingTimeout : Statement .homingTimeout := rfl

theorem gripDone : Statement .gripDone := rfl

theorem gripTimeout : Statement .gripTimeout := rfl

theorem releaseDone : Statement .releaseDone := rfl

theorem releaseTimeout : Statement .releaseTimeout := rfl

theorem gripperSensorChange (sensor : GripSensor) (level : Bool) :
    Statement (.gripperSensorChange sensor level) := rfl

theorem inputBinSensorChange (bin : BinId) (empty : Bool) : Statement (.inputBinSensorChange bin empty) := rfl

theorem fullSensorChange (bin : OutBin) (full : Bool) : Statement (.fullSensorChange bin full) := rfl

theorem placeSensorChange (place : SensedPlace) (present : Bool) :
    Statement (.placeSensorChange place present) := rfl

theorem printerReady : Statement .printerReady := rfl

theorem printRowSent : Statement .printRowSent := rfl

theorem printerDone : Statement .printerDone := rfl

theorem printerFaultReport : Statement .printerFaultReport := rfl

theorem printTimerExpiry : Statement .printTimerExpiry := rfl

theorem writeSectorTransferred (port : PortId) : Statement (.writeSectorTransferred port) := rfl

end Sys2Proof.Laws.CommandForm
end

