-- ==== Sys2Proof/Laws/Roster.lean ====
section
/-! SUPPORT. The roster's places and tags: every place has its own slot, and a new record takes the next tag (R115). -/

namespace Sys2Proof.Machine

/-- Every slot of the roster is a place's. -/
theorem place_of_idx (k : Fin 22) : ∃ p : Place, p.idx = k := by
  by_cases h1 : k.val < 16
  · exact ⟨.tray ⟨k.val, h1⟩, rfl⟩
  · by_cases h2 : k = 16
    · exact ⟨.arm, h2.symm⟩
    · by_cases h3 : k = 17
      · exact ⟨.platter, h3.symm⟩
      · exact ⟨.shelf ⟨k.val - 18, by omega⟩, by apply Fin.ext; simp [Place.idx]; omega⟩

/-- A tag is held when a record at some place has it. -/
theorem tag_mem_discs {s : State} {t : Half} : t ∈ s.discs.map Disc.tag ↔ ∃ p d, s.disc p = some d ∧ d.tag = t := by
  simp only [List.mem_map, State.discs, List.mem_filterMap, id]
  constructor
  · rintro ⟨d, ⟨o, ho, rfl⟩, rfl⟩
    obtain ⟨i, hi, e⟩ := List.mem_iff_getElem.1 ho
    obtain ⟨p, hp⟩ := place_of_idx ⟨i, by simpa using hi⟩
    exact ⟨p, d, by simp only [State.disc, nth, hp]; simpa using e, rfl⟩
  · rintro ⟨p, d, h, rfl⟩
    exact ⟨d, ⟨some d, by rw [← h]; simp [State.disc, nth], rfl⟩, rfl⟩

/-- Of 23 values one is free: at most 22 records hold a tag (R114, R115). -/
theorem free_tag_exists (s : State) : ∃ k < 23, s.tagCounter + BitVec.ofNat 16 k ∉ s.discs.map Disc.tag := by
  by_contra hc
  push Not at hc
  let l := (List.range 23).map fun k => s.tagCounter + BitVec.ofNat 16 k
  have hsub : l ⊆ s.discs.map Disc.tag := by
    intro t ht
    obtain ⟨k, hk, rfl⟩ := List.mem_map.1 ht
    exact hc k (List.mem_range.1 hk)
  have hnd : l.Nodup := by
    refine List.nodup_range.map_on fun x hx y hy h => ?_
    have := congrArg BitVec.toNat (add_left_cancel h)
    simp only [List.mem_range] at hx hy
    simp only [BitVec.toNat_ofNat] at this
    omega
  have h1 := (hnd.subperm hsub).length_le
  have h2 : (s.discs.map Disc.tag).length ≤ 22 := by
    simp only [List.length_map, State.discs]
    exact (List.length_filterMap_le _ _).trans (by simp)
  have h3 : l.length = 23 := by simp [l]
  omega

/-- R115: the tag that `createDisc` gives is the next tag. -/
theorem freshTag_next (s : State) : s.nextTag s.freshTag := by
  obtain ⟨k, hk, hfree⟩ := free_tag_exists s
  unfold State.freshTag
  dsimp only
  cases hf : ((List.range 23).map fun k => s.tagCounter + BitVec.ofNat 16 k).find?
      fun t => decide (t ∉ s.discs.map Disc.tag) with
  | none =>
    have := List.find?_eq_none.1 hf _ (List.mem_map.2 ⟨k, List.mem_range.2 hk, rfl⟩)
    exact absurd (decide_eq_true hfree) this
  | some t =>
    obtain ⟨hp, n, hn, ht, hlt⟩ := List.find?_eq_some_iff_getElem.1 hf
    refine ⟨n, by simpa using hn, by simpa using ht.symm, fun p d h e => ?_, fun k hk => ?_⟩
    · exact of_decide_eq_true hp (tag_mem_discs.2 ⟨p, d, h, e⟩)
    · exact tag_mem_discs.1 (by simpa using hlt k hk)

end Sys2Proof.Machine
end

