-- ==== Sys2Proof/Tests/Slice0.lean ====
section
/-! SUPPORT. Tests: ill-formed rows are refused; the CRC check value; small steps; and for every statement with hypotheses
a state and operands that meet them together, clause by clause. -/

namespace Sys2Proof.Tests

open Sys2Proof Machine

set_option maxRecDepth 8000
set_option Elab.async false

/-! ## Small states -/

/-- SYNCED, nothing else changed since reset. -/
def sync : State := { State.reset with link := { Link.reset with receiver := .synced, firstSync := false } }

def hdr (n : Nat) : CmdHdr := ⟨7, n⟩

def disc (t : Half) (j : Option JobId) (st : DiscState) : Disc := Disc.new t j st

/-- J0 in a state, a ring of 64, a map of one STREAM extent of 48 sectors. -/
def jobIn (st : JobState) : State :=
  { sync.modJob 0 fun x => { x with state := st, ring := 64, prefill := 64, map := some [⟨.stream, 0, 48⟩] } with
    profiles := upd sync.profiles 0 { Profile.reset with loaded := true } }

/-- P0 in a state with a command in flight. -/
def portIn (s : State) (st : PortState) (c : Option DriveCmd) : State := s.modPort 0 fun q =>
  { q with state := st, link := true, resetting := false, cmd := c, firstIssue := some 0, answerDue := some 9 }

/-- A record at D0. -/
def tray (s : State) (d : Disc) : State := s.setDisc (.tray 0) (some d)

/-- A pass of J0, its wave of P0 alone. -/
def passIn (st : PassState) (ms : MemberStatus) : Pass :=
  { Pass.start 1 with state := st, wave := [⟨0, 5, 0, some 0, ms⟩], comp := { Composition.start with credits := 1 } }

/-- J0 RUNNING with that pass, P0 burning the disc of tag 5. -/
def burning (ms : MemberStatus) (c : Option DriveCmd) : State :=
  tray (portIn ((jobIn .running).setPass 0 (some (passIn .running ms))) .writing c) (disc 5 (some 0) .burning)

def moving (r : ReqKind) (src : Source) (dst : Station) (ph : Phase) : State :=
  sync.modTransport fun t => { t with state := .ready, move := some ⟨⟨r, 0⟩, src, dst, none, ph, false, 9⟩ }

/-- A payload of an image frame: its 32-byte header and `n` sectors. -/
def imagePayload (number count : Byte) (seq : Half) (n : Nat) : List Byte :=
  [number, count] ++ halfBytes seq ++ List.replicate (28 + 2048 * n) 0

theorem no_disc (s : State) (h : s.places = State.reset.places) (p : Place) : s.disc p = none := by
  simp [State.disc, h, State.reset, nth]

/-! ## Ill-formed rows -/

theorem test_ill_formed_length : (Instr.jobRun ⟨0, 32801⟩ 0).wf = false := by decide
theorem test_ill_formed_map : (Instr.loadMap (hdr 4) 0 (List.replicate 65536 ⟨1, 0, 1⟩)).wf = false := by
  rw [Instr.wf, countFits, List.length_replicate]; decide
theorem test_ill_formed_chunk : (Instr.loadTemplate (hdr 4) 0 0 (List.replicate 65536 0)).wf = false := by
  rw [Instr.wf, countFits, List.length_replicate]; decide
theorem test_ill_formed_fields :
    (Instr.setTemplate (hdr 4) 0 0 0 (List.replicate 65536 ⟨1, 1, 1, 0, 0, 0, Vector.replicate 16 0⟩)).wf = false := by
  rw [Instr.wf, countFits, List.length_replicate]; decide
theorem test_ill_formed_kind : (Instr.otherKindFrame 2).wf = false := by decide
theorem test_ill_formed_image : (Instr.imageFrame 0 (List.replicate 32801 0)).wf = false := by
  rw [Instr.wf, List.length_replicate]; decide
theorem test_ill_formed_lba : (Instr.writeAnswer 0 (.mediaError (some 33554432))).wf = false := by decide
theorem test_ill_formed_sector : (Instr.readSector 0 []).wf = false := by decide

/-! ## Values the spec gives -/

/-- R193: a field with no code in chapter 11 is its place in its list; a presence slot is 1 (log 41). -/
theorem test_read_codes : slotYes true = [0, 0, 0, 0] ∧ slotYes false = [1, 0, 0, 0] ∧
    slotPresent true = [1, 0, 0, 0] ∧ sync.notices.reservedCount = 0 ∧ linkCode true = 0 ∧ sensorCode true = 0 ∧ validCode true = 0 := by decide

/-- R40: the check value of the nine bytes "123456789". -/
theorem test_crc_check : crc [0x31, 0x32, 0x33, 0x34, 0x35, 0x36, 0x37, 0x38, 0x39] = 0xFC891918 := by decide +kernel

/-- 5.2.1: the worked coverage count, and k = 2. -/
theorem test_coverage_example : plannedCount true 16 3907 = 246 ∧ plannedCount true 2 3907 = 1954 := by decide

/-- R192: JOB OPEN of J1 with 1,024 segments, byte by byte. -/
theorem test_decode_job_open : decodeCommand 7 [1, 0, 0, 0, 1, 0, 0, 0, 0, 4, 0, 0] = .jobOpen (hdr 12) 1 1024 := by
  decide

/-- R192: LOAD MAP of J0 with one STREAM extent of 48 sectors. -/
theorem test_decode_load_map :
    decodeCommand 7 [7, 0, 0, 0, 0, 0, 0, 0, 1, 0, 0, 0, 1, 0, 0, 0, 48, 0, 0, 0] =
      .loadMap (hdr 20) 0 [⟨1, 0, 48⟩] := by decide

/-- R191: a code that is none of the part's commands. -/
theorem test_decode_unknown : decodeCommand 7 [99, 0, 0, 0] = .unknownCommand (hdr 4) := by decide

/-! ## Small steps -/

def after (s : State) (e : Instr) : State :=
  match exec e s with
  | .next t => t
  | _ => s

/-- The free values of the built-in glyphs (log 7) are no part of these checks. -/
theorem test_job_open : ((after sync (.jobOpen (hdr 12) 1 64)).job 1).ring = 64 ∧
    (after sync (.jobOpen (hdr 12) 1 64)).link.queue = [.answer ⟨7, .ok 0, [], false⟩] := by decide +kernel

/-- A blank that checks GOOD waits LOADED, and WAVE_READY is raised (R53, R83). -/
theorem test_media_check : (let t := after (tray (portIn (jobIn .running) .checking (some (.mediaCheck 48)))
    (disc 5 (some 0) .feeding)) (.mediaCheckAnswer 0 .good)
    (t.port 0).state = .loaded ∧ (t.disc (.tray 0)).map Disc.state = some .loaded) := by decide +kernel

/-- The last segment's completion ends the wave's writing: FINISHING, synchronise issued (R55). -/
theorem test_write_finishes : (let s := burning .writing (some (.writeSegment 2))
    let s := s.modPass 0 fun p => { p with
      wave := [⟨0, 5, 32, some 2, .writing⟩], comp := { p.comp with head := 48, extent := none } }
    let t := after s (.writeAnswer 0 .good)
    (t.port 0).state = .finishing ∧ (t.port 0).cmd = some .synchronise ∧
      (t.pass 0).map Pass.state = some .ended) := by decide +kernel

/-- An empty row of the queue lets a millisecond pass (log 13). -/
theorem test_idle : step sync = .next { sync with now := 1 } := rfl

/-- The row in front runs and leaves the queue. -/
theorem test_step : (match step { sync with pending := [.inputBinSensorChange 0 true] } with
    | .next t => decide (t.pending = [] ∧ t.notices.transport.set = [.binEmpty 0] ∧ nth t.transport.marks 0 = true)
    | _ => false) = true := by decide +kernel

/-! ## Hypotheses that are met: one theorem a statement, its clauses in their order -/

def queued (s : State) (q : List OutEntry) : State := s.modLink fun l => { l with queue := q }

def anAnswer : AnswerEntry := ⟨7, .ok 0, [], false⟩

def noticed (s : State) (x : Notice) : State := s.modNotices fun n => n.put x.cls ⟨[x], some x⟩

def aReport : Report := ⟨disc 5 (some 0) .graded, some .o0, none, none⟩

theorem test_meets_StepRunsTheFrontRow :
    ({ sync with pending := [.armArrived] } : State).pending = .armArrived :: [] ∧ sync.pending = [] := ⟨rfl, rfl⟩

theorem test_meets_ResetPinAndPowerOn : (exec .resetPin sync = .next (after sync .resetPin)) ∧
    sync.resetHeld = false := ⟨rfl, rfl⟩

/-- A release with a sensor that differs and is quiet, and with one whose cause is pending. -/
theorem test_meets_ResetPinAndPowerOn_release :
    (let s := { sync with resetHeld := true }.modSensors fun x => { x with bins := x.bins.set (.input 3) true }
    s.resetHeld = true ∧ s.sensors.bins.get (.input 3) ≠ s.transport.latched.get (.input 3) ∧
      s.pendingPair (.binEmpty 3) = false ∧ s.pendingPair (.binRefilled 3) = false ∧
      (s.raise (.binEmpty 3)).pendingPair (.binEmpty 3) = true ∧
      s.sensors.bins.get (.input 0) = s.transport.latched.get (.input 0) ∧
      nth (after s .resetRelease).transport.marks 3 = true ∧
      (after s .resetRelease).transport.latched.get (.input 3) = true) := by decide +kernel

theorem test_meets_WrongLengthOrCodeIsRefused : (Instr.jobRun (hdr 7) 0).header = some (hdr 7) ∧
    (Instr.jobRun (hdr 7) 0).requiredLength = some 8 ∧ (hdr 7).len ≠ 8 ∧ (hdr 9).len ≠ 8 ∧ sync.takes := by decide

theorem test_meets_FrameArrivesAsItsRow_dropped : (let s := queued sync (List.replicate 8 (.answer anAnswer))
    (Instr.jobRun (hdr 8) 0).header.isSome ∧ s.resetHeld = false ∧ s.link.stage = .none ∧ s.link.receiver = .synced ∧
      Config.answerRoom ≤ s.link.unsent) := by decide

/-- A good COMMAND frame: JOB RUN of J0 under tag 7. -/
def aFrame : InFrame :=
  let p : List Byte := [3, 0, 0, 0, 0, 0, 0, 0]
  ⟨2, 0, 7, 8, 0, p, crc ([2, 0, 7, 0, 8, 0, 0, 0] ++ p), false⟩

theorem test_meets_FrameArrivesAsItsRow : sync.link.stage = .none ∧ sync.link.receiver = .synced ∧
    State.reset.link.receiver = .hunt ∧ (sync.modLink fun l => { l with stage := .taken }).link.stage ≠ .none ∧
    aFrame.broken = false ∧ aFrame.length ≤ 32800 ∧ aFrame.payload.length = aFrame.length ∧
    crc ([aFrame.kind, aFrame.object] ++ halfBytes aFrame.tag ++ halfBytes (halfOf aFrame.length) ++
      halfBytes aFrame.reserved ++ aFrame.payload) = aFrame.check ∧
    32800 < { aFrame with length := 32801 }.length ∧ sync.link.unsent < 8 ∧
    8 ≤ (queued sync (List.replicate 8 (.answer anAnswer))).link.unsent ∧
    (Instr.jobRun (hdr 8) 0).wf = true ∧ (Instr.jobRun (hdr 8) 0).header = some (hdr 8) ∧ (hdr 8).tag = aFrame.tag ∧
    encodeCommand (.jobRun (hdr 8) 0) = some aFrame.payload ∧ (hdr 8).len = aFrame.payload.length ∧
    arrivalRow sync.link aFrame = .jobRun (hdr 8) 0 := by decide +kernel

theorem test_meets_FramesThatDoNothing : sync.resetHeld = false ∧ sync.link.stage = .none ∧
    sync.link.receiver = .synced ∧ isGoodFrame (.otherKindFrame 9) = true ∧
    (sync.modLink fun l => { l with stage := .taken }).link.stage ≠ .none := by decide

theorem test_meets_FramesAreCounted : isGoodFrame (.jobRun (hdr 8) 0) = true ∧ State.reset.resetHeld = false ∧
    State.reset.link.stage = .none ∧ State.reset.link.receiver = .hunt ∧ State.reset.link.run = 0 ∧
    (sync.modLink fun l => { l with consecBad := 2 }).link.consecBad < 3 := by decide

theorem test_meets_SecondGoodFrameEntersSynced : (let s := State.reset.modLink fun l => { l with run := 1 }
    s.resetHeld = false ∧ s.link.stage = .none ∧ s.link.receiver = .hunt ∧ 1 ≤ s.link.run) := by decide

theorem test_meets_LinkLossAbortsIncompletePasses :
    (let s := (burning .writing none).modLink fun l => { l with consecBad := 3 }
    s.resetHeld = false ∧ s.link.receiver = .synced ∧ s.link.stage = .none ∧ s.link.consecBad = 3 ∧
      s.pass 0 = some (passIn .running .writing) ∧ (passIn .running .writing).live = true ∧
      (passIn .running .writing).comp.head ≠ (s.job 0).length ∧ s.pass 1 = none) := by decide +kernel

theorem test_meets_PartResetIsTakenAndPerformed : sync.takes ∧ (hdr 4).len = 4 ∧
    (sync.modLink fun l => { l with stage := .answered }).link.stage = .answered := by decide

theorem test_meets_TransmitterSendsHeadEntry : sync.resetHeld = false ∧
    (queued sync [.answer anAnswer]).link.queue = .answer anAnswer :: [] ∧
    (queued (burning .writing none) [.credit 0]).link.queue = .credit 0 :: [] ∧
    (queued (burning .writing none) [.credit 0]).pass 0 = some (passIn .running .writing) ∧
    (sync.raise .homed).notices.get .transport = ⟨.homed :: [], none⟩ ∧
    (sync.notices.get .port).set = [] ∧
    (sync.modNotices fun n => { n with reports := [aReport] }).notices.reports = aReport :: [] ∧
    sync.notices.reportOut = false := by decide +kernel

/-- PART RESET's RESPONSE leaves with an entry behind it; a report with every field. -/
theorem test_meets_TransmitterSendsHeadEntry_reset :
    (let s := queued sync [.answer { anAnswer with reset := true }, .report]
    (after s .answerSent).link.queue = [] ∧ (after s .answerSent).link.stage = .answered) ∧
    (let d := { disc 5 (some 0) .graded with
      metrics := some ⟨65535, 65535, 131072, 33554432⟩, serial := some 999999999, lba := some 33554431 }
    33554432 < 2 ^ 32 ∧ d.serial.getD 0 < 2 ^ 32 ∧ d.lba.getD 0 < 2 ^ 32 ∧
      half (Report.bytes ⟨d, some .o0, none, none⟩) 2 = 0x131 ∧ d.metrics ≠ none) := by decide +kernel

theorem test_meets_RaiseAndWithdraw : Notice.homed ∈ (NoticeClass.mk [.homed] none).set ∧
    Notice.binEmpty 0 ∉ (NoticeClass.mk [.homed] none).set ∧
    (NoticeClass.mk [.homed] (some .homed)).outstanding = some .homed ∧
    (NoticeClass.mk [.homed] none).outstanding ≠ some .homed := by decide

theorem test_meets_WrongAcknowledgementIsRefused : sync.takes ∧ (hdr 16).len = 16 ∧ 6 ≤ (6 : Byte).toNat ∧
    (3 : Byte).toNat = CauseClass.transport.code ∧ (sync.notices.get .transport).outstanding = none ∧
    ((noticed sync (.binEmpty 0)).notices.get .transport).outstanding = some (.binEmpty 0) ∧
    ((5 : Half).extractLsb' 0 8).toNat ≠ (Notice.binEmpty 0).objectCode ∧ (5 : Byte).toNat = 5 ∧
    sync.notices.reports = [] ∧
    (let s := sync.modNotices fun n => { n with
      reports := [⟨disc 5 (some 0) .scrap, some .x, none, none⟩], reportOut := true }
    s.notices.reports = [⟨disc 5 (some 0) .scrap, some .x, none, none⟩] ∧ s.notices.reportOut = true ∧
      (1 : Byte).toNat = 1 ∧ (6 : Half) ≠ (disc 5 (some 0) .scrap).tag ∧ s.takes) := by decide

theorem test_meets_AcknowledgementRemoves :
    (let s := noticed sync .homed
    s.takes ∧ (3 : Byte).toNat = CauseClass.transport.code ∧ (s.notices.get .transport).outstanding = some .homed ∧
      (BitVec.ofNat 8 (Notice.cause .homed)).toNat = Notice.cause .homed ∧
      ((255 : Half).extractLsb' 0 8).toNat = Notice.homed.objectCode ∧
      (∀ j, Notice.homed ≠ .passEnded j ∧ Notice.homed ≠ .passAborted j)) ∧
    (∀ (k : BinSensor) (v : Bool), Notice.homed ≠ k.notice v) ∧
    (let s := noticed (burning .writing none) (.passEnded 0)
    s.takes ∧ s.notices.pass.outstanding = some (.passEnded 0) ∧
      (BitVec.ofNat 8 (Notice.passEnded 0).cause).toNat = (Notice.passEnded 0).cause ∧
      s.pass 0 = some (passIn .running .writing)) ∧
    (let s := sync.modNotices fun n => { n with reports := [aReport], reportOut := true }
    s.takes ∧ s.notices.reports = aReport :: [] ∧ s.notices.reportOut = true ∧ (5 : Half) = aReport.disc.tag) := by
  refine ⟨by decide, ?_, by decide +kernel, by decide⟩
  intro k v
  cases k <;> cases v <;> simp [BinSensor.notice]

theorem test_meets_SensorAcknowledgementCompares : (let s := noticed sync (.binEmpty 0)
    s.takes ∧ s.notices.transport.outstanding = some ((BinSensor.input 0).notice true) ∧
      (BitVec.ofNat 8 (Notice.binEmpty 0).cause).toNat = (Notice.binEmpty 0).cause ∧
      ((0 : Half).extractLsb' 0 8).toNat = ((BinSensor.input 0).notice true).objectCode ∧
      (BinSensor.input 0).notice false ∉ s.notices.transport.set ∧
      (BinSensor.input 0).notice false ∈ (s.raise (.binRefilled 0)).notices.transport.set) := by decide

theorem test_meets_ReadAnswersWithData : sync.takes ∧ (hdr 24).len = 24 ∧
    (match readData sync.countGood ⟨18, 0, 0, 1, 0⟩ with
      | .ok d => decide (d.length = 28)
      | _ => false) = true ∧
    18 < (19 : Byte).toNat ∧ 4 ≤ ((4 : Half).extractLsb' 0 8).toNat ∧ 131072 ≤ (131072 : Word).toNat := by
  decide +kernel

theorem test_meets_CommandChecksComeFirst : sync.takes ∧ objectBeyond (.jobRun (hdr 8) 4) = true ∧
    objectBeyond (.portReset (hdr 8) 16) = true ∧ objectBeyond (.loadProfile (hdr 24) 8 ⟨0, 0, 0, 0, 0, 0, 0, 0, 0⟩) = true ∧
    (Instr.jobRun (hdr 8) 4).requiredLength = some (hdr 8).len ∧
    jobStates (.jobRun (hdr 8) 3) = some (3, [.opened]) ∧ (sync.job 3).state ∉ [JobState.opened] := by decide +kernel

theorem test_meets_HeldResourceIsBusy :
    (jobIn .running).takes ∧ ((jobIn .running).job 0).state.inProduction = true ∧
    ((jobIn .running).job 0).profile = 0 ∧
    ((burning .writing none).disc (.tray 0)).isSome ∧ ((burning .writing none).pass 0).isSome ∧
    ((burning .writing none).job 0).state = .running ∧
    (moving (.unload 3 5) (.place (.tray 3)) (.out .x) .grip).transport.move.map Move.source = some (.place (.tray 3)) ∧
    (moving (.feed 3 0) (.bin 0) (.tray 3) .toSource).serviceable 3 = true ∧
    (sync.setDisc .platter (some (disc 5 (some 0) .printing))).disc .platter = some (disc 5 (some 0) .printing) ∧
    (sync.modPrinter fun p => { p with state := .fault }).printer.state = .fault := by decide +kernel

theorem test_meets_JobOpenTakesRing : sync.takes ∧ (hdr 12).len = 12 ∧ (sync.job 1).state = .closed ∧
    64 ≤ (64 : Half).toNat ∧ (16384 : Half).toNat ≤ 16384 ∧ (16384 : Half).toNat ≤ sync.freeSegments ∧
    (63 : Half).toNat < 64 ∧ 16384 < (16385 : Half).toNat ∧
    (let s := (sync.modJob 0 fun x => { x with state := .opened, ring := 16384 }).modJob 2 fun x =>
      { x with state := .opened, ring := 16384 }
    s.freeSegments < (64 : Half).toNat) := by decide +kernel

theorem test_meets_SetJobWritesFields : (jobIn .opened).takes ∧ ((jobIn .opened).job 0).state = .opened ∧
    (16383 : Half).toNat ≤ 16383 ∧ 16383 < (16384 : Half).toNat ∧ (3 : Byte).toNat = (3 : BinId).val ∧
    4 ≤ (4 : Byte).toNat ∧ (7 : Byte).toNat = (7 : ProfileId).val ∧ 8 ≤ (8 : Byte).toNat ∧ (255 : Byte).toNat = 255 ∧
    (∀ f ∈ ((jobIn .opened).template 7).fields, f.kind = .serial → ((jobIn .opened).job 0).serialWidth ≤ f.width) ∧
    8 ≤ (254 : Byte).toNat ∧ (254 : Byte).toNat ≠ 255 ∧
    (let s := { jobIn .opened with templates := upd sync.templates 7 ⟨0, 511, [⟨.serial, 0, 0, 1, 5, []⟩]⟩ }
    s.takes ∧ ∃ f ∈ (s.template 7).fields, f.kind = .serial ∧ f.width < (s.job 0).serialWidth) := by decide +kernel

theorem test_meets_JobRunCloseAndRepeats : (jobIn .opened).takes ∧ ((jobIn .opened).job 0).state = .opened ∧
    ((jobIn .opened).job 0).map.isSome ∧
    ((jobIn .opened).profile ((jobIn .opened).job 0).profile).loaded = true ∧ ((jobIn .opened).job 0).target = 0 ∧
    (((jobIn .opened).modJob 0 fun x => { x with map := none }).job 0).map = none ∧
    (tray (jobIn .opened) (disc 5 (some 0) .scrap)).disc (.tray 0) = some (disc 5 (some 0) .scrap) ∧
    ((jobIn .draining).job 0).state = .draining ∧ ((jobIn .halting).job 0).state = .halting := by decide +kernel

theorem test_meets_JobClose (p : Place) (d : Disc) : (jobIn .opened).disc p = some d → d.job ≠ some 0 := by
  simp [no_disc (jobIn .opened) rfl p]

theorem test_meets_DigestResetAndFaultClear : (jobIn .opened).takes ∧ (3 : Byte).toNat = (3 : JobId).val ∧
    4 ≤ (4 : Byte).toNat ∧ ((jobIn .opened).job 0).state = .opened ∧ ((jobIn .running).job 0).state ≠ .opened := by
  decide +kernel

theorem test_meets_JobDrainGivesUpBlanks :
    (let s := { tray (portIn (jobIn .running) .loaded none) (disc 5 (some 0) .loaded) with
      assign := upd sync.assign 0 (some 0) }
    s.takes ∧ (s.job 0).state = .running ∧ s.assigned 0 = some 0 ∧ (s.port 0).state = .loaded ∧
      s.assigned 1 ≠ some 0) := by decide +kernel

theorem test_meets_JobHaltScraps :
    (let s := tray (portIn (jobIn .draining) .finishing (some .finalise)) (disc 5 (some 0) .burning)
    s.takes ∧ (s.job 0).state = .draining ∧ (s.port 0).state = .finishing ∧
      s.disc (.tray 0) = some (disc 5 (some 0) .burning) ∧ s.waveOf 0 = none ∧ (s.job 0).fault = none ∧
      s.pass 0 = none ∧ (s.port 0).cmd = some .finalise ∧ (s.port 0).reissueAt = none ∧
      ((s.enterHalting 0).job 0).fault = some ⟨.jobHalt, none, some 0, none, some 5, 0⟩) ∧
    (let s := { tray (portIn (jobIn .running) .loaded none) (disc 5 (some 0) .loaded) with
      assign := upd sync.assign 0 (some 0) }
    s.assigned 0 = some 0 ∧ (s.port 0).state = .loaded ∧ s.waveOf 0 = none ∧ s.assigned 15 ≠ some 0 ∧
      ((s.enterHalting 0).disc (.tray 0)).map Disc.state = some .returning) ∧
    (burning .writing none).pass 0 = some (passIn .running .writing) ∧ (passIn .running .writing).live = true := by
  decide +kernel

/-- A pass with an ARMED and a WRITING member, and its halt; a job with neither a live pass nor a disc. -/
theorem test_meets_JobHaltScraps_members :
    (let w : List Member := [⟨0, 5, 3, some 0, .writing⟩, ⟨15, 6, 0, none, .armed⟩]
    let s := (tray (portIn ((jobIn .running).setPass 0 (some { passIn .running .writing with wave := w })) .writing
      (some (.writeSegment 0))) (disc 5 (some 0) .burning)).setDisc (.tray 15) (some (disc 6 (some 0) .loaded))
    s.takes ∧ (s.job 0).state = .running ∧ w.Pairwise Member.before ∧ (passIn .running .writing).failed ≤ 16 ∧
      (s.pass 0).bind (Pass.member · 0) = some ⟨0, 5, 3, some 0, .writing⟩ ∧
      (s.pass 0).bind (Pass.member · 15) = some ⟨15, 6, 0, none, .armed⟩ ∧
      s.disc (.tray 0) = some (disc 5 (some 0) .burning) ∧ (disc 5 (some 0) .burning).cause = none ∧
      s.disc (.tray 15) = some (disc 6 (some 0) .loaded) ∧
      (s.port 0).cmd = some (.writeSegment 0) ∧ (s.port 0).reissueAt = none ∧
      ((s.enterHalting 0).disc (.tray 0)).map Disc.lba = some (some 3) ∧
      ((s.enterHalting 0).disc (.tray 15)).map Disc.state = some .returning) ∧
    (jobIn .running).pass 0 = none ∧ ((jobIn .running).port 0).state ≠ .finishing ∧
    ((jobIn .running).port 0).state ≠ .verifying := by decide +kernel

/-- Lists at the limits: the total, an unaligned STREAM, 64 and 65 entries, FILL alone, none. -/
theorem test_meets_MapAndProfileAreLoaded_map : (jobIn .opened).takes ∧ (hdr 20).len = 12 + 8 * 1 ∧
    mapRefusal [⟨2, 0, 16⟩, ⟨1, 0, 33554416⟩] = none ∧ mapRefusal [⟨2, 0, 16⟩, ⟨1, 0, 33554417⟩] = some 1 ∧
    mapRefusal [⟨1, 0, 48⟩, ⟨3, 0, 16⟩] = some 1 ∧ mapRefusal [⟨1, 0, 48⟩, ⟨2, 0, 0⟩] = some 1 ∧
    mapRefusal [⟨1, 0, 15⟩, ⟨2, 0, 1⟩, ⟨1, 0, 16⟩] = some 0 ∧ mapRefusal [⟨1, 0, 16⟩, ⟨1, 0, 15⟩] = none ∧
    mapRefusal (List.replicate 64 ⟨1, 0, 16⟩) = none ∧ mapRefusal (List.replicate 65 ⟨1, 0, 16⟩) = some 64 ∧
    mapRefusal [⟨2, 0, 16⟩, ⟨2, 0, 16⟩] = some 2 ∧ mapRefusal [] = some 0 := by decide +kernel

theorem test_meets_MapAndProfileAreLoaded_profile (j : JobId) : sync.takes ∧
    (2 : Byte).toNat = VerifyMode.sampled.code ∧
    (0 : Byte).toNat = MarginalDest.o1.code ∧ (1 : Byte).toNat = true.toNat ∧ 2 < (3 : Byte).toNat ∧
    (4 : Half) < 5 ∧ 1 < (2 : Byte).toNat ∧ ((1 : Byte) = 1 ∧ (1 : Byte).toNat ≤ 1) ∧
    ((sync.job j).state = .closed ∨ (sync.job j).state = .opened) := by
  refine ⟨by decide, by decide, by decide, by decide, by decide, by decide, by decide, by decide, ?_⟩
  revert j
  decide +kernel

theorem test_meets_AssignPortWritesEntry : sync.takes ∧ sync.disc (.tray 15) = none ∧ sync.waveOf 15 = none ∧
    sync.transport.move = none ∧ (3 : Byte).toNat = (3 : JobId).val ∧ (255 : Byte).toNat = 255 ∧
    4 ≤ (4 : Byte).toNat ∧ (254 : Byte).toNat ≠ 255 := by decide +kernel

theorem test_meets_LoadTimingClamps : sync.takes ∧ (hdr 48).len = 48 := by decide

theorem test_meets_SetSerialWritesSeries : (jobIn .opened).takes ∧ ((jobIn .opened).job 0).state = .opened ∧
    ((jobIn .running).job 0).state ≠ .opened ∧ 4 ≤ (4 : Byte).toNat ∧
    (0 : Byte).toNat < 1 ∧ 9 < (10 : Byte).toNat ∧ (0 : Half).toNat < 1 ∧ 1000 < (1001 : Half).toNat ∧
    10 ^ (9 : Byte).toNat ≤ (1000000000 : Word).toNat ∧ 2 ≤ (2 : Byte).toNat ∧
    (999999999 : Word).toNat < 10 ^ (9 : Byte).toNat := by decide +kernel

theorem test_meets_PassStartCreatesPass :
    (let s := { tray (portIn (jobIn .running) .loaded none) (disc 5 (some 0) .loaded) with
      assign := upd sync.assign 0 (some 0) }
    s.takes ∧ (s.job 0).state = .running ∧ s.pass 0 = none ∧ s.assigned 0 = some 0 ∧ (s.port 0).state = .loaded ∧
      s.disc (.tray 0) = some (disc 5 (some 0) .loaded)) := by decide +kernel

theorem test_meets_PassAbortTakesWaveDown : (let s := burning .writing (some (.writeSegment 0))
    s.takes ∧ s.pass 0 = some (passIn .running .writing) ∧ (passIn .running .writing).live = true ∧
      (passIn .running .writing).member 0 = some ⟨0, 5, 0, some 0, .writing⟩ ∧ (s.job 0).fault = none ∧
      s.disc (.tray 0) = some (disc 5 (some 0) .burning) ∧ (s.port 0).reissueAt = none) ∧
    (passIn .forming .armed).member 0 = some ⟨0, 5, 0, some 0, .armed⟩ ∧ (passIn .ended .finished).live = false := by
  decide +kernel

/-- The state the frames of the next three tests arrive in: a credit is out, nothing is taken. -/
def fed : State := (jobIn .running).setPass 0 (some (passIn .running .armed))

theorem test_meets_ImageFrameIsComposed : fed.resetHeld = false ∧ fed.link.stage = .none ∧ fed.link.receiver = .synced ∧
    fed.pass 0 = some (passIn .running .armed) ∧ (passIn .running .armed).live = true ∧
    byteAt (imagePayload 1 16 0 0) 0 = (passIn .running .armed).number.extractLsb' 0 8 ∧
    (byteAt (imagePayload 1 16 0 0) 1).toNat = min 16 (48 - 16 * 0) ∧
    half (imagePayload 1 16 0 0) 2 = halfOf (passIn .running .armed).comp.frames ∧
    (fed.job 0).map = some [⟨.stream, 0, 48⟩] ∧ (passIn .running .armed).comp.extent = some 0 ∧
    0 < (passIn .running .armed).comp.outstanding ∧ 64 ≤ (fed.job 0).ring ∧ (fed.job 0).digest ≠ .sealed ∧
    0 + 16 ≤ (fed.job 0).length := by decide +kernel

theorem test_meets_ImageFrameLength (x : List Byte) (h : x.length = 32768) :
    ([1, 16, 0, 0] ++ List.replicate 28 0 ++ x).length = 32 + 2048 * 16 := by simp [h]

theorem test_meets_StrayAndFaultyImageFrames : fed.pass 0 = some (passIn .running .armed) ∧
    (imagePayload 1 16 0 0).length = 32 ∧ byteAt (imagePayload 2 16 0 0) 0 ≠ (1 : Half).extractLsb' 0 8 ∧
    half (imagePayload 1 16 1 0) 2 ≠ halfOf (passIn .running .armed).comp.frames := by decide +kernel

/-- A SEALED table whose entry is any word: a block's value can match it or differ. -/
theorem test_meets_ComposedUnderSealed (w : Word) :
    (let s := { fed.modJob 0 fun x => { x with digest := .sealed, map := some [⟨.stream, 0, 16⟩] } with
      memory := { fed.memory with digests := Vector.replicate 4 [(0, w)] } }
    (s.job 0).digest = .sealed ∧ (s.job 0).length = 16 ∧ s.memory.digest 0 0 = w ∧ (s.job 0).fault = none ∧
      w ≠ ~~~w) := by
  refine ⟨rfl, rfl, ?_, rfl, ?_⟩
  · simp [ImageMemory.digest, nth, Cells.read]
  · intro h
    have := congrArg (fun v : Word => v.getLsbD 0) h
    simp at this

/-- The cursor of a frame stands at its extent's start and sixteen times its frames. -/
theorem test_meets_ImageFrame_cursor : (let m := [⟨.fill, 0, 7⟩, (⟨.stream, 0, 48⟩ : Extent)]
    ((m.take 1).map Extent.length).sum + 16 * 2 = 39 ∧ 39 + 16 = ((m.take 2).map Extent.length).sum) := by decide

theorem test_meets_FillSectorIsComposed :
    (let s := fed.modJob 0 fun x => { x with map := some [⟨.fill, 0xA5, 48⟩] }
    let p := passIn .running .armed
    s.pass 0 = some p ∧ p.live = true ∧ p.at (s.job 0) ⟨.fill, 0xA5, 48⟩ ∧ 1 ≤ p.free (s.job 0) ∧
      p.comp.accumulator = some crcPreset ∧ p.state = .running) := by
  refine ⟨by decide +kernel, by decide, ⟨[⟨.fill, 0xA5, 48⟩], 0, ?_⟩, ?_⟩ <;> decide +kernel

theorem test_meets_PortResetAndService : sync.takes ∧ sync.transport.move = none ∧ (sync.port 15).state = .offline ∧
    ((burning .writing none).port 0).state.burning = true ∧
    (burning .writing none).disc (.tray 0) = some (disc 5 (some 0) .burning) ∧
    (burning .writing none).waveOf 0 = some 0 ∧
    (portIn sync .faulted none).disc (.tray 0) = none ∧
    ((tray (portIn sync .faulted none) (disc 5 (some 0) .scrap)).disc (.tray 0)).isSome ∧
    ((portIn sync .done none).port 0).state ∉ [.offline, .probe, .idle, .standby, PortState.faulted] := by decide +kernel

theorem test_meets_LinkUpAndDown : sync.resetHeld = false ∧ (sync.port 0).state = .offline ∧ (sync.port 0).hold = false ∧
    ((sync.modPort 0 fun q => { q with hold := true }).port 0).hold = true ∧
    ((portIn sync .idle none).port 0).afterReset = none ∧
    (((portIn sync .checking none).modPort 0 fun q => { q with afterReset := some .identify }).port 0).afterReset =
      some .identify ∧
    (portIn sync .opening none).disc (.tray 0) = none ∧
    ((burning .writing none).port 0).state ∉ [.opening, .trayOpen, PortState.closing] := by decide +kernel

/-- The next tag of a part with no record is the counter's; with that tag held, the one after it. -/
theorem test_meets_nextTag : sync.nextTag 0 ∧ (tray sync (disc 0 none .orphan)).nextTag 1 := by
  refine ⟨⟨0, by decide, rfl, fun p d h => ?_, fun k h => absurd h (by omega)⟩,
    ⟨1, by decide, by decide, fun p d h => ?_, fun k h => ⟨.tray 0, disc 0 none .orphan, by decide +kernel, ?_⟩⟩⟩
  · simp [no_disc sync rfl p] at h
  · have : ∀ p : Place, (tray sync (disc 0 none .orphan)).disc p = some (disc 0 none .orphan) ∨
        (tray sync (disc 0 none .orphan)).disc p = none := by
      intro p
      cases p with
      | tray n => revert n; decide +kernel
      | shelf k => revert k; decide +kernel
      | _ => decide +kernel
    rcases this p with e | e <;> rw [e] at h <;> simp_all [disc, Disc.new]
    rw [← h]; decide
  · have : k = 0 := by omega
    subst this
    decide

theorem test_meets_IdentifyDecides : (portIn sync .probe (some .identify)).owes 0 .identify ∧
    ((portIn sync .probe (some .identify)).port 0).state = .probe ∧
    (portIn sync .checking (some .identify)).owes 0 .identify := by decide +kernel

theorem test_meets_TraySleepAndWakeAnswers : (portIn sync .opening (some .openTray)).owes 0 .openTray ∧
    (portIn sync .closing (some .closeTray)).owes 0 .closeTray ∧ (portIn sync .idle (some .sleep)).owes 0 .sleep ∧
    (portIn sync .standby (some .wake)).owes 0 .wake ∧ sync.transport.queue = [] ∧
    (tray (portIn sync .checking (some .closeTray)) (disc 5 (some 0) .scrap)).disc (.tray 0) =
      some (disc 5 (some 0) .scrap) := by decide +kernel

/-- R48: a port that failed in a FORMING pass and comes back has two entries there, the first with its W frozen. -/
theorem test_readmitted_port_keeps_its_entry :
    ((((tray (portIn (jobIn .running) .loaded none) (disc 6 (some 0) .loaded)).setPass 0
      (some (passIn .forming .failed))).joinWave 0 0).pass 0).map Pass.wave =
      some [⟨0, 5, 0, some 0, .failed⟩, ⟨0, 6, 0, none, .armed⟩] := by decide +kernel

/-- R47, log 17: beside 16 entries the first that has left the wave gives way. -/
theorem test_full_wave_gives_way :
    insertMember ⟨1, 6, 0, none, .armed⟩ (⟨0, 5, 0, none, .armed⟩ :: List.replicate 15 ⟨3, 4, 0, none, .failed⟩) =
      [⟨0, 5, 0, none, .armed⟩, ⟨1, 6, 0, none, .armed⟩] ++ List.replicate 14 ⟨3, 4, 0, none, .failed⟩ := by
  decide +kernel

theorem test_meets_MediaChecksAndRetries_check :
    (let s := tray (portIn (jobIn .running) .checking (some (.mediaCheck 48))) (disc 5 (some 0) .feeding)
    s.owes 0 (.mediaCheck 48) ∧ (s.port 0).state = .checking ∧ s.disc (.tray 0) = some (disc 5 (some 0) .feeding) ∧
      (disc 5 (some 0) .feeding).cause = none ∧ (disc 5 (some 0) .feeding).lba = none ∧
      (s.job 0).state = .running ∧ s.pass 0 = none ∧ (s.setPass 0 (some (passIn .forming .failed))).pass 0 =
        some (passIn .forming .failed) ∧ (passIn .forming .failed).member 0 = none ∧
      (passIn .forming .armed).member 0 ≠ none ∧
      s.notices.reports.length + (if s.notices.reserved then 1 else 0) < Config.reportRoom) := by decide +kernel

theorem test_meets_WriteAndFinishAnswers :
    (let s := burning .writing (some (.writeSegment 0))
    s.owes 0 (.writeSegment 0) ∧ (s.port 0).state = .writing ∧ s.waveOf 0 = some 0 ∧
      s.pass 0 = some (passIn .running .writing) ∧
      (passIn .running .writing).member 0 = some ⟨0, 5, 0, some 0, .writing⟩ ∧
      0 + min 16 ((s.job 0).length - 16 * 0) ≠ (s.job 0).length ∧ 32 + min 16 ((s.job 0).length - 16 * 2) =
        (s.job 0).length) ∧
    (let s := tray (portIn (jobIn .running) .finishing (some .finalise)) (disc 5 (some 0) .burning)
    s.owes 0 .finalise ∧ (s.port 0).state = .finishing ∧ s.waveOf 0 = none ∧
      (s.profile (s.job 0).profile).mode = .none) ∧
    (portIn sync .finishing (some .synchronise)).owes 0 .synchronise := by decide +kernel

/-- A verify of J0's last block, every sector received. -/
def aVerify : Verify where
  job := 0
  tag := 5
  sampled := false
  stride := 2
  planned := 1
  position := 0
  block := 0
  blockLen := 48
  reissues := 3
  crc := 0xFFFFFFFF
  received := 48
  lastFailure := none
  peak := 0
  sum := 0
  sectors := 0
  blocks := 0

def verifying : State := (tray (portIn (jobIn .running) .verifying (some (.readBlock 0 48)))
  (disc 5 (some 0) .verifying)).setVerify 0 (some aVerify)

theorem test_meets_IdentifyDecides_verifying :
    (let s := (tray (portIn (jobIn .running) .verifying (some .identify)) (disc 5 (some 0) .verifying)).setVerify 0
      (some { aVerify with reissues := 2 })
    s.owes 0 .identify ∧ (s.port 0).state = .verifying ∧ s.verify 0 = some { aVerify with reissues := 2 } ∧
      s.disc (.tray 0) = some (disc 5 (some 0) .verifying) ∧ 2 < s.timing.retry) ∧
    (let s := (tray (portIn (jobIn .running) .verifying (some .identify)) (disc 5 (some 0) .verifying)).setVerify 0
      (some aVerify)
    s.owes 0 .identify ∧ s.timing.retry ≤ aVerify.reissues) := by decide +kernel

theorem test_meets_VerifyReadsAndGrades : verifying.verify 0 = some aVerify ∧ verifying.owes 0 (.readBlock 0 48) ∧
    (verifying.port 0).state = .verifying ∧ verifying.disc (.tray 0) = some (disc 5 (some 0) .verifying) ∧
    aVerify.received = aVerify.blockLen ∧ crcValue aVerify.crc = verifying.memory.digest 0 0 ∧
    aVerify.planned ≤ aVerify.position + 1 ∧ verifying.timing.retry ≤ aVerify.reissues ∧
    ({ aVerify with received := 47, reissues := 2 } : Verify).received < 48 ∧ 2 < verifying.timing.retry ∧
    ({ aVerify with received := 47 } : Verify).received ≠ aVerify.blockLen ∧ verifying.resetHeld = false ∧
    (verifying.port 0).paused = false ∧ (verifying.port 0).afterReset = none := by
  decide +kernel

theorem test_meets_MediaChecksAndRetries : (portIn sync .probe (some .identify)).owes 0 .identify ∧
    ((portIn sync .probe (some .identify)).port 0).retries < sync.timing.retry ∧
    (let s := (portIn sync .opening (some .openTray)).modPort 0 fun q => { q with retries := 3 }
    s.owes 0 .openTray ∧ s.timing.retry ≤ (s.port 0).retries) ∧
    (let s := (tray (portIn (jobIn .running) .checking (some (.mediaCheck 48))) (disc 5 (some 0) .feeding)).modPort 0
      fun q => { q with retries := 3 }
    s.owes 0 (.mediaCheck 48) ∧ s.timing.retry ≤ (s.port 0).retries ∧ (s.port 0).state = .checking ∧
      s.disc (.tray 0) = some (disc 5 (some 0) .feeding) ∧ (disc 5 (some 0) .feeding).cause = none ∧
      (disc 5 (some 0) .feeding).lba = none) ∧
    ((portIn sync .checking (some .identify)).port 0).state = .checking ∧
    (let s := (tray (portIn (jobIn .running) .verifying (some .identify)) (disc 5 (some 0) .verifying)).modPort 0
      fun q => { q with retries := 3 }
    s.owes 0 .identify ∧ (s.port 0).state = .verifying ∧ s.timing.retry ≤ (s.port 0).retries ∧
      s.disc (.tray 0) = some (disc 5 (some 0) .verifying) ∧ (disc 5 (some 0) .verifying).cause = none) := by
  decide +kernel

theorem test_meets_DriveTimeouts :
    (let s := burning .writing (some (.writeSegment 0))
    s.resetHeld = false ∧ (s.port 0).cmd = some (.writeSegment 0) ∧ (s.port 0).ending = false ∧
      (s.port 0).paused = false ∧ (s.port 0).reissueAt = none ∧ (s.port 0).afterReset = none) ∧
    (let s := (burning .writing (some (.writeSegment 0))).modPort 0 fun q =>
      { q with paused := true, pauseDue := some 8000, reissueAt := some 4000, firstIssue := some 0, ending := true }
    (s.port 0).paused = true ∧ (s.port 0).reissueAt = some 4000 ∧ (s.port 0).firstIssue = some 0 ∧
      s.timing.timeout .write ≤ max s.now 4000 - 0 ∧ max s.now 3999 - 0 < s.timing.timeout .write ∧
      (s.port 0).ending = true) := by decide +kernel

/-- A command of a class in flight, its disc in the tray, below the retry limit (0) and at it (3). -/
def timing (st : PortState) (c : DriveCmd) (r : Nat) (d : DiscState) : State :=
  (tray (portIn (jobIn .running) st (some c)) (disc 5 (some 0) d)).modPort 0 fun q => { q with retries := r }

theorem test_meets_DriveTimeouts_classes :
    (∀ x ∈ [(PortState.finishing, DriveCmd.synchronise, DiscState.burning), (.finishing, .finalise, .burning),
        (.checking, .mediaCheck 48, .feeding), (.verifying, .identify, .verifying),
        (.verifying, .readBlock 0 48, .verifying), (.probe, .identify, .orphan), (.checking, .identify, .scrap),
        (.opening, .openTray, .scrap), (.closing, .closeTray, .scrap), (.idle, .sleep, .orphan),
        (.standby, .wake, .orphan)], ∀ r ∈ [0, 3],
      let s := timing x.1 x.2.1 r x.2.2
      s.resetHeld = false ∧ (s.port 0).cmd = some x.2.1 ∧ (s.port 0).state = x.1 ∧ x.1 ≠ .faulted ∧
        (s.port 0).ending = false ∧ (s.port 0).paused = false ∧ (s.port 0).reissueAt = none ∧
        (s.port 0).afterReset = none ∧ s.waveOf 0 = none ∧ s.disc (.tray 0) = some (disc 5 (some 0) x.2.2) ∧
        (disc 5 (some 0) x.2.2).cause = none ∧ (s.timing.retry ≤ (s.port 0).retries ↔ r = 3)) := by decide +kernel

theorem test_meets_DataPhasesAndStandby :
    (let s := burning .writing (some (.writeSegment 0))
    (s.port 0).cmd = some (.writeSegment 0) ∧ DriveCmd.cls (.writeSegment 0) = .write ∧ (s.port 0).paused = false ∧
      s.waveOf 0 = some 0 ∧ (s.port 0).transferred < min 16 ((s.job 0).length - 16 * 0)) ∧
    (let s := portIn sync .idle none
    (s.port 0).state = .idle ∧ (s.port 0).cmd = none ∧ (s.port 0).afterReset = none ∧ s.timing.standby ≠ 0) := by
  decide +kernel

theorem test_meets_TransportCommandsAct : sync.takes ∧ sync.transport.state = .unhomed ∧
    sync.disc .arm = none ∧ sync.sensors.gripPresent = false ∧
    (moving (.feed 0 0) (.bin 0) (.tray 0) .grip).transport.state = .ready ∧
    (moving (.feed 0 0) (.bin 0) (.tray 0) .grip).transport.move.isSome ∧
    (let s := (tray sync (disc 5 (some 0) .scrap)).modTransport fun t => { t with state := .fault }
    s.takes ∧ s.transport.state ∈ [.paused, TransportState.fault] ∧ (4 : Byte).toNat = (Place.tray 0).code ∧
      (27 : Byte).toNat = (Station.out .x).code ∧ s.mayArrive (disc 5 (some 0) .scrap) (.out .x) = true ∧
      s.mayArrive (disc 5 (some 0) .scrap) (.out .o0) = false ∧
      (s.transport.queue.filter fun r => r.kind.isHost).length < 2) ∧
    (let s := (sync.modTransport fun t => { t with state := .fault }).modSensors fun x => { x with gripPresent := true }
    s.transport.state = .fault ∧ s.transport.move = none ∧ s.disc .arm = none ∧ s.sensors.gripPresent = true ∧
      s.transport.queue = [] ∧ s.takes) ∧
    (let s := (sync.modTransport fun t => { t with state := .paused }).setDisc .arm (some (disc 5 (some 0) .scrap))
    s.transport.state = .paused ∧ s.transport.move = none ∧ s.disc .arm = some (disc 5 (some 0) .scrap) ∧
      s.sensors.gripPresent = false ∧ s.takes ∧
      s.notices.reports.length + (if s.notices.reserved then 1 else 0) < Config.reportRoom) := by decide +kernel

theorem test_meets_MovesGoThroughTheirPhases :
    (let s := moving (.feed 0 0) (.bin 0) (.tray 0) .grip
    s.resetHeld = false ∧ s.transport.move = some ⟨⟨.feed 0 0, 0⟩, .bin 0, .tray 0, none, .grip, false, 9⟩ ∧
      s.transport.state ≠ .homing ∧ s.sensors.gripPresent = false) ∧
    (let s := (tray (portIn (moving (.unload 0 5) (.place (.tray 0)) (.out .x) .grip) .trayOpen none)
      (disc 5 (some 0) .scrap)).modSensors fun x => { x with gripPresent := true }
    s.sensors.gripPresent = true ∧ s.sensors.gripDouble = false ∧ (s.port 0).state = .trayOpen ∧
      s.disc (.tray 0) = some (disc 5 (some 0) .scrap)) ∧
    (let s := ((moving (.unload 0 5) (.place (.tray 0)) (.out .x) .release).setDisc .arm
      (some (disc 5 (some 0) .scrap))).modNotices fun n => { n with reserved := true }
    s.disc .arm = some (disc 5 (some 0) .scrap) ∧ s.sensors.gripPresent = false ∧ s.notices.reserved = true) ∧
    (let s := ((moving (.recover .arm 5) (.place .arm) (.out .x) .release).setDisc .arm
      (some (disc 5 none .orphan))).modNotices fun n => { n with reserved := true }
    s.disc .arm = some (disc 5 none .orphan) ∧ (disc 5 none .orphan).job = none ∧ s.notices.reserved = true ∧
      (after s .releaseDone).notices.reports.length = 1) ∧
    (let s := (tray (portIn (moving (.host (.tray 0) (.out .x) 5) (.place (.tray 0)) (.out .x) .grip) .faulted none)
      (disc 5 (some 0) .scrap)).modSensors fun x => { x with gripPresent := true }
    (s.port 0).state = .faulted ∧ s.disc (.tray 0) = some (disc 5 (some 0) .scrap) ∧
      ((after s .gripDone).port 0).state = .faulted) ∧
    (let s := (portIn (moving (.feed 0 0) (.bin 0) (.tray 0) .release) .faulted none).setDisc .arm
      (some (disc 5 (some 0) .feeding))
    (s.port 0).state = .faulted ∧ s.disc .arm = some (disc 5 (some 0) .feeding) ∧ s.sensors.gripPresent = false) := by
  decide +kernel

/-- A double pick, and a move at each kind of place. -/
theorem test_meets_MovesGoThroughTheirPhases_ends :
    (let s := ({ moving (.feed 0 0) (.bin 0) (.tray 0) .grip with assign := upd sync.assign 0 (some 0) }).modSensors
      fun x => { x with gripPresent := true, gripDouble := true }
    s.sensors.gripPresent = true ∧ s.sensors.gripDouble = true ∧ s.assigned 0 = some 0 ∧ s.transport.queue = [] ∧
      (∃ r ∈ (s.createRequest (.recover .arm 0)).transport.queue, r.kind = .recover .arm 0) ∧ s.freshTag = 0 ∧
      (after s .gripDone).transport.move.map (fun m => m.req.kind) = some (.recover .arm 0)) ∧
    (let s := (moving (.printUnload 5) (.place .platter) (.out .x) .grip).setDisc .platter (some (disc 5 (some 0) .scrap))
    s.disc .platter = some (disc 5 (some 0) .scrap) ∧ s.transport.move.map Move.source = some (.place .platter) ∧
      ¬ (s.printer.state = .loaded ∨ s.printer.state = .waitRibbon ∨ s.printer.state = .printing) ∧
      (s.modPrinter fun p => { p with state := .loaded }).printer.state = .loaded) ∧
    (let s := (moving .printLoad (.place (.shelf 3)) .platter .grip).setDisc (.shelf 3) (some (disc 5 (some 0) .graded))
    s.disc (.shelf 3) = some (disc 5 (some 0) .graded)) ∧
    (let s := (moving .printLoad (.place (.shelf 3)) .platter .release).setDisc .arm (some (disc 5 (some 0) .graded))
    s.disc .arm = some (disc 5 (some 0) .graded) ∧ s.sensors.gripPresent = false ∧
      (after s .releaseDone).printer.state = .loaded) ∧
    (let s := (moving (.host (.tray 0) (.shelf 3) 5) (.place (.tray 0)) (.shelf 3) .release).setDisc .arm
      (some (disc 5 (some 0) .graded))
    (after s .releaseDone).transport.shelfOrder = [3]) ∧
    (let s := (moving (.unload 0 5) (.place (.tray 0)) (.bin 3) .release).setDisc .arm (some (disc 5 (some 0) .returning))
    ((after s .releaseDone).job 0).counters.returned = 1) := by decide +kernel

theorem test_meets_MovesFail :
    (moving (.feed 0 0) (.bin 0) (.tray 0) .toSource).transport.move.map Move.phase = some .toSource ∧
    (let s := ((moving (.feed 0 0) (.bin 0) (.tray 0) .toDest).setDisc .arm (some (disc 5 (some 0) .feeding))).modSensors
      fun x => { x with gripPresent := true }
    s.resetHeld = false ∧ s.transport.move = some ⟨⟨.feed 0 0, 0⟩, .bin 0, .tray 0, none, .toDest, false, 9⟩ ∧
      s.transport.state ≠ .homing ∧ s.sensors.gripPresent = true ∧ s.disc .arm = some (disc 5 (some 0) .feeding) ∧
      s.notices.reserved = false ∧ s.notices.reports.length < Config.reportRoom) := by decide +kernel

/-- Stalls in GRIP and in RELEASE, at a bin, a place and a destination, the present sensor clear and set. -/
theorem test_meets_MovesFail_stall :
    (let s := moving (.feed 0 0) (.bin 0) (.tray 0) .grip
    let t := s.modSensors fun x => { x with gripPresent := true, gripDouble := true }
    s.transport.move = some ⟨⟨.feed 0 0, 0⟩, .bin 0, .tray 0, none, .grip, false, 9⟩ ∧ s.sensors.gripPresent = false ∧
      (after s .armStalled).transport.cause = some .armStall ∧
      t.sensors.gripPresent = true ∧ t.sensors.gripDouble = true ∧
      ((after t .armStalled).disc .arm).map Disc.cause = some (some .doublePick)) ∧
    (let s := (tray (portIn (moving (.unload 0 5) (.place (.tray 0)) (.out .x) .grip) .trayOpen none)
      (disc 5 (some 0) .scrap)).modSensors fun x => { x with gripPresent := true }
    s.sensors.gripPresent = true ∧ s.disc (.tray 0) = some (disc 5 (some 0) .scrap) ∧
      (after s .armStalled).transport.station = some (.tray 0)) ∧
    (let s := (moving (.printUnload 5) (.place .platter) (.out .x) .grip).setDisc .platter
      (some (disc 5 (some 0) .printing))
    s.disc .platter = some (disc 5 (some 0) .printing) ∧ s.sensors.gripPresent = false ∧
      s.notices.reports.length < Config.reportRoom) ∧
    (let s := ((moving (.unload 0 5) (.place (.tray 0)) (.out .x) .release).setDisc .arm
      (some (disc 5 (some 0) .scrap))).modNotices fun n => { n with reserved := true }
    s.disc .arm = some (disc 5 (some 0) .scrap) ∧ s.sensors.gripPresent = false ∧ s.notices.reserved = true ∧
      ((after s .armStalled).job 0).counters.rejected = 1 ∧
      (s.modSensors fun x => { x with gripPresent := true }).sensors.gripPresent = true) := by decide +kernel

theorem test_meets_HomingEnds :
    (let s := (sync.modTransport fun t => { t with state := .homing }).modSensors fun x => { x with platter := true }
    s.resetHeld = false ∧ s.transport.state = .homing ∧ s.sensors.platter = true ∧ s.disc .platter = none ∧
      s.transport.move = none ∧ s.transport.queue = [] ∧ s.sensors.gripPresent = false) := by decide +kernel

/-- R115, R134, R137: an ORPHAN that takes the tag of one lost at the same inventory has a RECOVER request, and the lost one's
leaves the queue; a record kept at ARM has one too. -/
theorem test_meets_HomingEnds_recover :
    (let s := (((((sync.setDisc (.shelf 0) (some (disc 5 none .orphan))).setDisc .arm
      (some (disc 6 (some 0) .scrap))).createRequest (.recover (.shelf 0) 5)).modTransport fun t =>
        { t with state := .homing }).modSensors fun x => { x with shelf := upd x.shelf 1 true, gripPresent := true })
    let t := { s with tagCounter := 5 }
    t.resetHeld = false ∧ t.transport.state = .homing ∧ t.transport.move = none ∧
      t.disc .arm = some (disc 6 (some 0) .scrap) ∧ t.disc (.shelf 1) = none ∧
      (t.homed.disc (.shelf 1)).map Disc.tag = some 5 ∧ t.homed.pruneRequests.transport.queue.map Request.kind =
        [.recover (.shelf 1) 5, .recover .arm 6]) := by decide +kernel

/-- A record lost from the platter, a label in progress or not, with room for its report and without. -/
theorem test_meets_HomingEnds_loss : ∀ ps ∈ [PrinterState.loaded, .waitRibbon, .printing, .done, .fault],
    let s := (((jobIn .running).modTransport fun t => { t with state := .homing }).setDisc .platter
      (some { disc 5 (some 0) .printing with serial := some 4 })).modPrinter fun p => { p with state := ps }
    let full := s.modNotices fun n =>
      { n with reports := List.replicate Config.reportRoom ⟨disc 6 none .orphan, none, none, none⟩ }
    s.resetHeld = false ∧ s.transport.state = .homing ∧ s.sensors.platter = false ∧
      s.disc .platter = some { disc 5 (some 0) .printing with serial := some 4 } ∧ s.printer.state = ps ∧
      s.notices.reports.length + (if s.notices.reserved then 1 else 0) < Config.reportRoom ∧
      ¬ full.notices.reports.length + (if full.notices.reserved then 1 else 0) < Config.reportRoom ∧
      (s.homed.notices.reports.map fun x => x.disc.void) = [decide (ps ∉ [.done, .fault])] := by decide +kernel

theorem test_meets_SensorsChange : sync.resetHeld = false ∧ sync.sensors.bins.get (.input 3) ≠ true ∧
    sync.pendingPair (.binEmpty 3) = false ∧ sync.pendingPair (.binRefilled 3) = false ∧
    true ≠ sync.transport.latched.get (.input 3) ∧ (sync.raise (.binEmpty 3)).pendingPair (.binEmpty 3) = true ∧
    (let s := sync.modTransport fun t => { t with state := .paused }
    s.transport.state ∈ [.ready, .paused, TransportState.fault] ∧ s.transport.move = none ∧ s.disc .arm = none ∧
      s.sensors.gripPresent = false ∧ s.transport.queue = []) ∧
    (let s := ((sync.modTransport fun t => { t with state := .paused }).setDisc .arm (some (disc 5 (some 0) .scrap))).modSensors
      fun x => { x with gripPresent := true }
    s.sensors.gripPresent = true ∧ s.transport.move = none ∧ s.disc .arm = some (disc 5 (some 0) .scrap) ∧
      s.transport.state ∈ [.ready, .paused, TransportState.fault] ∧
      s.notices.reports.length + (if s.notices.reserved then 1 else 0) < Config.reportRoom) := by decide +kernel

/-- A field entry that SET TEMPLATE takes: TEXT of one glyph at the far corner. -/
def aField : FieldEntry := ⟨3, 4, 16, 1, 1023, 1023, Vector.replicate 16 15⟩

theorem test_meets_LabelTablesAreLoaded (p : Place) (d : Disc) : (sync.disc p = some d → d.state ≠ .printing) ∧
    (hdr 17).len = 16 + [(0 : Byte)].length ∧ (131071 : Word).toNat + [(0 : Byte)].length ≤ 131072 ∧
    131072 < (131072 : Word).toNat + [(0 : Byte)].length ∧ (hdr 44).len = 20 + 24 * [aField].length ∧
    (510 : Half).toNat < min 511 (600 : Half).toNat ∧ min 511 (600 : Half).toNat ≤ (511 : Half).toNat ∧
    (1 ≤ aField.kind.toNat ∧ aField.kind.toNat ≤ 5 ∧ aField.x.toNat ≤ 1023 ∧ aField.scale.toNat ≤ 4 ∧
      aField.count.toNat ≤ aField.width.toNat ∧
      ∀ g ∈ aField.glyphs.toList.take aField.count.toNat, g.toNat ≤ 15) ∧
    8 < (List.replicate 9 aField).length ∧ ¬ ({ aField with scale := 5 } : FieldEntry).scale.toNat ≤ 4 := by
  refine ⟨by simp [no_disc sync rfl p], ?_⟩
  decide +kernel

theorem test_meets_RibbonLoadAndPrinterResume : sync.takes ∧ sync.printer.state ≠ .waitRibbon ∧
    (let s := (((jobIn .running).modJob 0 fun x => { x with template := some 0 }).setDisc .platter
      (some (disc 5 (some 0) .printing))).modPrinter fun p => { p with state := .waitRibbon }
    s.takes ∧ s.printer.state = .waitRibbon ∧ (1 : Half) ≠ 0 ∧ s.disc .platter = some (disc 5 (some 0) .printing) ∧
      (s.job 0).template = some 0) ∧
    (let s := sync.modPrinter fun p => { p with state := .fault }
    s.printer.state = .fault ∧ s.disc .platter = none ∧ s.sensors.platter = false) := by decide +kernel

theorem test_meets_PrinterReports :
    (let s := (((jobIn .running).modJob 0 fun x => { x with template := some 0 }).setDisc .platter
      (some (disc 5 (some 0) .printing))).modPrinter fun p => { p with state := .loaded, ribbon := 1 }
    s.resetHeld = false ∧ s.disc .platter = some (disc 5 (some 0) .printing) ∧ s.printer.state = .loaded ∧
      s.printer.ribbon ≠ 0 ∧ (s.job 0).template = some 0) ∧
    (sync.resetHeld = false ∧ sync.disc .platter = none ∧ sync.printer.state = .empty) ∧
    (let s := (sync.setDisc .platter (some (disc 5 (some 0) .printing))).modPrinter fun p =>
      { p with state := .printing, rows := 1023, label := some ⟨0, []⟩ }
    s.printer.state = .printing ∧ s.printer.rows < 1024 ∧ s.printer.label = some ⟨0, []⟩ ∧
      s.printer.rows ≠ 1024 ∧ s.printer.ribbon = 0) := by decide +kernel

/-- A field that covers a dot, and a dot that none covers. -/
theorem test_meets_PrinterReports_dots : (let f : MergeField := ⟨.serial, 512, 400, 1, 9, []⟩
    let d := { disc 65535 (some 0) .printing with serial := some 999999999, pass := some 0, grade := some .unverified }
    (f.x ≤ 655 ∧ 655 < f.x + 16 * f.scale * f.width ∧ f.y ≤ 423 ∧ 423 < f.y + 24 * f.scale) ∧
      ¬ 656 < f.x + 16 * f.scale * f.width ∧ d.serial = some 999999999 ∧ 999999999 < 10 ^ 9 ∧ d.pass = some 0 ∧
      d.grade = some .unverified ∧ Grade.unverified ≠ .fail ∧ [f][0]? = some f ∧ [[some 9]][0]? = some [some 9]) := by
  decide +kernel

/-- Two members far apart: ingress newly blocked, the laggard a straggler, the leader not. -/
def lagging : State :=
  ((jobIn .running).modJob 0 fun x => { x with lagLimit := 1, map := some [⟨.stream, 0, 2048⟩] }).setPass 0 (some
    { passIn .running .writing with
      wave := [⟨0, 5, 0, some 0, .writing⟩, ⟨15, 6, 1024, none, .writing⟩]
      comp := { Composition.start with head := 1024, frames := 64, framesInExtent := 64, credits := 64 } })

theorem test_meets_EndOfEventRunsPasses :
    (let p := (lagging.pass 0).getD (Pass.start 1)
    let q := p.examine (lagging.job 0)
    lagging.pass 0 = some p ∧ p.live = true ∧ q.comp.blocked = true ∧ p.comp.blocked = false ∧ p.state = .running ∧
      (q.stragglers (lagging.job 0).lagLimit).map Member.port = [0] ∧
      p.wave.Pairwise Member.before ∧ p.cut ≤ 16 ∧
      ((lagging.examine 0).pass 0).map Pass.cut = some 1) ∧
    (let s := (jobIn .running).setPass 0 (some { Pass.start 1 with state := .running })
    s.pass 0 = some { Pass.start 1 with state := .running } ∧
      ((s.endPass 0).pass 0).map Pass.cause = some (some .waveEmpty)) ∧
    (let p := passIn .forming .armed
    p.state = .forming ∧ p.member 0 = some ⟨0, 5, 0, some 0, .armed⟩ ∧ p.wave.Pairwise Member.before ∧
      (⟨0, 4, 0, none, .failed⟩ :: p.wave).Pairwise Member.before) ∧
    ((jobIn .draining).completeJob 0).notices.system.set = [.jobComplete 0] ∧
    sync.link.stage ≠ .answered ∧
    (State.outbound sync (sync.raise .homed)).link.queue = [.notice .transport] := by decide +kernel

/-- A port with each kind of request, a queue with a first choice, and grants from a bin and from ARM. -/
theorem test_meets_EndOfEventServesTransport :
    (let s := { portIn (jobIn .running) .idle none with assign := upd sync.assign 0 (some 0) }
    (s.port 0).state = .idle ∧ s.transport.queue = [] ∧ s.transport.move = none ∧ s.assigned 0 = some 0 ∧
      (s.job 0).state = .running ∧ (s.job 0).target = 0 ∧
      (s.feedPort 0).transport.queue = [⟨.feed 0 0, 0⟩] ∧
      (((s.feedPort 0).servePort 0).port 0).state = .opening) ∧
    (let s := tray (portIn sync .done none) (disc 5 (some 0) .scrap)
    (s.port 0).state = .done ∧ (s.createUnload 0).transport.queue = [⟨.unload 0 5, 0⟩]) ∧
    (let s := (sync.modTransport fun t => { t with
      state := .ready, queue := [⟨.recover .arm 6, 0⟩, ⟨.host .arm (.out .x) 5, 1⟩] }).modSensors
        fun x => { x with gripPresent := true }
    s.transport.move = none ∧ s.transport.pausePending = false ∧
      s.transport.queue = [⟨.recover .arm 6, 0⟩] ++ ⟨.host .arm (.out .x) 5, 1⟩ :: [] ∧
      s.eligible (.host .arm (.out .x) 5) = true ∧ s.eligible (.recover .arm 6) = true ∧
      s.choice = some ⟨.host .arm (.out .x) 5, 1⟩ ∧
      s.resolve (.host .arm (.out .x) 5) = some (.place .arm, .out .x, some 5)) ∧
    (sync.setDisc .platter (some (disc 5 (some 0) .finished))).resolve (.printUnload 5) =
      some (.place .platter, .out .o0, some 5) ∧
    sync.resolve (.feed 15 3) = some (.bin 0, .tray 15, none) := by decide +kernel

theorem test_meets_ExaminationOfAPass : (passIn .running .writing).comp.outstanding ≤ 8 ∧
    (∃ m ∈ (passIn .running .writing).wave, m.status = .writing) ∧ (passIn .ended .finished).live = false := by
  decide +kernel

theorem test_meets_CommandsDecodeAsEncoded : (Instr.hostMove (hdr 12) 4 27).wf = true ∧
    (Instr.hostMove (hdr 12) 4 27).header = some (hdr 12) ∧
    encodeCommand (.hostMove (hdr 12) 4 27) = some [20, 0, 0, 0, 4, 0, 0, 0, 27, 0, 0, 0] := by decide

/-- The invariants of the steps, and a step from a state that has them. -/
theorem test_meets_StepsKeep : State.reset.memory.wf = true ∧ State.reset.notices.reports = [] ∧
    State.reset.link.queue = [] ∧ step State.reset = .next { State.reset with now := 1 } ∧
    State.reset.noticesOk ∧ State.reset.wavesOk := by
  refine ⟨by decide, rfl, rfl, rfl, fun c => ?_, fun j p h => ?_⟩
  · cases c <;> simp [State.reset, Notices.reset, Notices.get]
  · simp [State.pass, State.reset, nth] at h

end Sys2Proof.Tests
end

namespace Sys2Proof.Machine

/-! ## The part right after power-on -/

@[simp] theorem nth_replicate (n : Nat) (x : α) (i : Fin n) : nth (Vector.replicate n x) i = x := by
  simp [nth]

theorem reset_job (j : JobId) : State.reset.job j = Job.reset := nth_replicate 4 _ j
theorem reset_pass (j : JobId) : State.reset.pass j = none := nth_replicate 4 _ j
theorem reset_profile (g : ProfileId) : State.reset.profile g = Profile.reset := nth_replicate 8 _ g
theorem reset_assigned (p : PortId) : State.reset.assigned p = none := nth_replicate 16 _ p
theorem reset_verify (p : PortId) : State.reset.verify p = none := nth_replicate 16 _ p
theorem reset_port (p : PortId) : State.reset.port p = Port.reset := nth_replicate 16 _ p
theorem reset_disc (p : Place) : State.reset.disc p = none := nth_replicate 22 _ p.idx
theorem reset_template (t : TemplateId) : State.reset.template t = Template.reset := nth_replicate 8 _ t

theorem reset_raster (t : TemplateId) (o : Nat) : State.reset.memory.raster t o = 0 :=
  congrArg (fun m => Cells.read Config.dramByte m o) (nth_replicate 8 ([] : List Host.Cell) t)

theorem reset_glyph_blank : nth State.reset.glyphs 15 = Vector.replicate 24 0 := by
  simp [nth, State.reset, builtinGlyph]

theorem reset_latched (k : BinSensor) : State.reset.transport.latched.get k = false := by
  cases k with
  | input i => exact nth_replicate 4 false i
  | full b => cases b <;> rfl

/-- Settles O3: each field is read from the reset values, a numbered thing from its row of equal entries. -/
theorem resetValues : Obligations.ResetValues := by
  unfold Obligations.ResetValues
  refine ⟨fun j => ⟨reset_job j, reset_pass j⟩, by decide, reset_profile, rfl, fun p => ?_, reset_disc, rfl, rfl,
    fun t => ⟨reset_template t, reset_raster t⟩, reset_glyph_blank, rfl, rfl, rfl, rfl, rfl, rfl, rfl,
    nth_replicate 4 false, rfl, rfl, reset_latched, rfl, rfl, rfl, rfl, rfl, rfl, fun c => ?_, rfl, rfl, rfl, rfl,
    rfl, rfl, rfl, rfl, rfl, rfl, rfl⟩
  · simp [reset_assigned, reset_verify, reset_port, Port.reset, Port.idleTime]
  · cases c <;> rfl
end Sys2Proof.Machine

namespace Sys2Proof.Machine

/-! ## Commands: what a command's own work decides about its row

Every command row is `State.command` of its work (`openJob`, `setJob`, …). The lemmas here turn one equation about that
work, on the state with the frame counted, into the row's outcome. -/

@[simp] theorem job_countGood (s : State) (j : JobId) : s.countGood.job j = s.job j := rfl
@[simp] theorem pass_countGood (s : State) (j : JobId) : s.countGood.pass j = s.pass j := rfl
@[simp] theorem port_countGood (s : State) (p : PortId) : s.countGood.port p = s.port p := rfl
@[simp] theorem disc_countGood (s : State) (p : Place) : s.countGood.disc p = s.disc p := rfl
@[simp] theorem assigned_countGood (s : State) (p : PortId) : s.countGood.assigned p = s.assigned p := rfl
@[simp] theorem profile_countGood (s : State) (g : ProfileId) : s.countGood.profile g = s.profile g := rfl
@[simp] theorem template_countGood (s : State) (t : TemplateId) : s.countGood.template t = s.template t := rfl
@[simp] theorem waveOf_countGood (s : State) (p : PortId) : s.countGood.waveOf p = s.waveOf p := rfl
@[simp] theorem freeSegments_countGood (s : State) : s.countGood.freeSegments = s.freeSegments := rfl

section
variable {c : Instr} {s u : State} {h : CmdHdr} {n : Nat} {after : After} {perform : State → State × Result}

/-- A row whose work refuses answers the refusal and changes nothing (R22). -/
theorem exec_refused (ht : s.takes) (hl : h.len = n) (he : exec c s = .next (State.command h n after perform s))
    {r : Result} (hr : r.isOk = false) (hp : perform s.countGood = s.countGood.refuse r) :
    ∃ t, exec c s = .next t ∧ State.replies s.countGood t (answerTo h r) :=
  ⟨_, he, command_refused ht hl after hr hp⟩

/-- A table row whose work is done answers OK; only the link acts after it. -/
theorem exec_posted (ht : s.takes) (hl : h.len = n) (he : exec c s = .next (State.command h n .post perform s))
    (hp : perform s.countGood = u.accept) : ∃ t, exec c s = .next t ∧ State.replies u t (okTo h) :=
  ⟨_, he, command_post ht hl hp⟩

/-- A row whose work is done answers OK; every block acts after it. -/
theorem exec_settled (ht : s.takes) (hl : h.len = n) (he : exec c s = .next (State.command h n .settle perform s))
    (hp : perform s.countGood = u.accept) : exec c s = .next (State.settle s.countGood (u.answer (okTo h))) :=
  he.trans (congrArg _ (command_settle ht hl hp))

end

/-! ## Numbered objects -/

theorem withJob_eq {b : Byte} {j : JobId} (hj : b.toNat = j.val) (s : State) (f : JobId → State × Result) :
    withJob b s f = f j := by
  rw [withJob, numbered_eq hj]

theorem withJob_beyond {b : Byte} (hb : 4 ≤ b.toNat) (s : State) (f : JobId → State × Result) :
    withJob b s f = s.refuse (.invalid 0) := by
  rw [withJob, numbered_none hb]

theorem withPort_eq {b : Byte} {p : PortId} (hp : b.toNat = p.val) (s : State) (f : PortId → State × Result) :
    withPort b s f = f p := by
  rw [withPort, numbered_eq hp]

theorem withPort_beyond {b : Byte} (hb : 16 ≤ b.toNat) (s : State) (f : PortId → State × Result) :
    withPort b s f = s.refuse (.invalid 0) := by
  rw [withPort, numbered_none hb]

theorem loadProfile_beyond {b : Byte} (hb : 8 ≤ b.toNat) (e : ProfileEntry) (s : State) :
    loadProfile b e s = s.refuse (.invalid 0) := by
  rw [loadProfile, numbered_none hb]

theorem loadTemplate_beyond {b : Byte} (hb : 8 ≤ b.toNat) (o : Word) (ch : List Byte) (s : State) :
    loadTemplate b o ch s = s.refuse (.invalid 0) := by
  rw [loadTemplate, numbered_none hb]

theorem setTemplate_beyond {b : Byte} (hb : 8 ≤ b.toNat) (i o : Half) (fs : List FieldEntry) (s : State) :
    setTemplate b i o fs s = s.refuse (.invalid 0) := by
  rw [setTemplate, numbered_none hb]

theorem assignPort_beyond {b : Byte} (hb : 16 ≤ b.toNat) (k : Byte) (s : State) :
    assignPort b k s = s.refuse (.invalid 0) := by
  rw [assignPort, numbered_none hb]

/-! ## The work of a job command in a state in which it is not taken (1.2.1) -/

section
variable {b : Byte} {j : JobId} {s : State}

theorem openJob_wrongState (hj : b.toNat = j.val) (hs : (s.job j).state ≠ .closed) (r : Half) :
    openJob b r s = s.refuse .state := by
  rw [openJob, withJob_eq hj]; exact if_pos hs

theorem setJob_wrongState (hj : b.toNat = j.val) (hs : (s.job j).state ≠ .opened) (pre lag tgt : Half)
    (bin prof tmpl : Byte) : setJob b pre lag tgt bin prof tmpl s = s.refuse .state := by
  rw [setJob, withJob_eq hj]; exact if_pos hs

theorem runJob_wrongState (hj : b.toNat = j.val) (hs : (s.job j).state ≠ .opened) : runJob b s = s.refuse .state := by
  rw [runJob, withJob_eq hj]; exact if_neg fun hc => hs hc.1

theorem drainJob_wrongState (hj : b.toNat = j.val) (hs : (s.job j).state ∉ [.running, .draining]) :
    drainJob b s = s.refuse .state := by
  rw [drainJob, withJob_eq hj]
  cases e : (s.job j).state <;> simp_all

theorem haltJob_wrongState (hj : b.toNat = j.val) (hs : (s.job j).state ∉ [.running, .draining, .halting]) :
    haltJob b s = s.refuse .state := by
  rw [haltJob, withJob_eq hj]
  cases e : (s.job j).state <;> simp_all

theorem closeJob_wrongState (hj : b.toNat = j.val) (hs : (s.job j).state ≠ .opened) :
    closeJob b s = s.refuse .state := by
  rw [closeJob, withJob_eq hj]; exact if_neg fun hc => hs hc.1

theorem loadMap_wrongState (hj : b.toNat = j.val) (hs : (s.job j).state ≠ .opened) (es : List ExtentEntry) :
    loadMap b es s = s.refuse .state := by
  rw [loadMap, withJob_eq hj]; exact if_pos hs

theorem setSerial_wrongState (hj : b.toNat = j.val) (hs : (s.job j).state ≠ .opened) (base : Word) (st : Half)
    (w pad : Byte) : setSerial b base st w pad s = s.refuse .state := by
  rw [setSerial, withJob_eq hj]; exact if_pos hs

theorem digestReset_wrongState (hj : b.toNat = j.val) (hs : (s.job j).state ≠ .opened) :
    digestReset b s = s.refuse .state := by
  rw [digestReset, withJob_eq hj]; exact if_pos hs

theorem passStart_wrongState (hj : b.toNat = j.val) (hs : (s.job j).state ≠ .running) :
    passStart b s = s.refuse .state := by
  rw [passStart, withJob_eq hj]; exact if_pos hs

end

/-- A command that names an object beyond the last is refused INVALID with index 0 (R22). -/
theorem exec_objectBeyond {c : Instr} {h : CmdHdr} {n : Nat} {s : State} (hh : c.header = some h)
    (hn : c.requiredLength = some n) (hl : h.len = n) (ht : s.takes) (hb : objectBeyond c = true) :
    ∃ t, exec c s = .next t ∧ State.replies s.countGood t (answerTo h (.invalid 0)) := by
  cases c <;> cases hh <;> cases hn <;> simp only [objectBeyond, decide_eq_true_eq, Bool.false_eq_true] at hb
  case jobOpen => exact exec_refused ht hl rfl rfl (withJob_beyond hb _ _)
  case setJob => exact exec_refused ht hl rfl rfl (withJob_beyond hb _ _)
  case jobRun => exact exec_refused ht hl rfl rfl (withJob_beyond hb _ _)
  case jobDrain => exact exec_refused ht hl rfl rfl (withJob_beyond hb _ _)
  case jobHalt => exact exec_refused ht hl rfl rfl (withJob_beyond hb _ _)
  case jobClose => exact exec_refused ht hl rfl rfl (withJob_beyond hb _ _)
  case loadMap => exact exec_refused ht hl rfl rfl (withJob_beyond hb _ _)
  case setSerial => exact exec_refused ht hl rfl rfl (withJob_beyond hb _ _)
  case digestReset => exact exec_refused ht hl rfl rfl (withJob_beyond hb _ _)
  case passStart => exact exec_refused ht hl rfl rfl (withJob_beyond hb _ _)
  case passAbort => exact exec_refused ht hl rfl rfl (withJob_beyond hb _ _)
  case faultClear => exact exec_refused ht hl rfl rfl (withJob_beyond hb _ _)
  case portReset => exact exec_refused ht hl rfl rfl (withPort_beyond hb _ _)
  case portService => exact exec_refused ht hl rfl rfl (withPort_beyond hb _ _)
  case assignPort => exact exec_refused ht hl rfl rfl (assignPort_beyond hb _ _)
  case loadProfile => exact exec_refused ht hl rfl rfl (loadProfile_beyond hb _ _)
  case loadTemplate => exact exec_refused ht hl rfl rfl (loadTemplate_beyond hb _ _ _)
  case setTemplate => exact exec_refused ht hl rfl rfl (setTemplate_beyond hb _ _ _ _)

/-- A job command in a state in which it is not taken is refused STATE (1.2.1). -/
theorem exec_wrongState {c : Instr} {h : CmdHdr} {n : Nat} {s : State} {b : Byte} {j : JobId} {states : List JobState}
    (hh : c.header = some h) (hn : c.requiredLength = some n) (hl : h.len = n) (ht : s.takes)
    (hc : jobStates c = some (b, states)) (hj : b.toNat = j.val) (hs : (s.job j).state ∉ states) :
    ∃ t, exec c s = .next t ∧ State.replies s.countGood t (answerTo h .state) := by
  have single {x : JobState} (hx : (s.job j).state ∉ [x]) : (s.countGood.job j).state ≠ x := fun e => hx (by simp [← e])
  cases c <;> cases hh <;> cases hn <;> cases hc
  case jobOpen => exact exec_refused ht hl rfl rfl (openJob_wrongState hj (single hs) _)
  case setJob => exact exec_refused ht hl rfl rfl (setJob_wrongState hj (single hs) _ _ _ _ _ _)
  case jobRun => exact exec_refused ht hl rfl rfl (runJob_wrongState hj (single hs))
  case jobDrain => exact exec_refused ht hl rfl rfl (drainJob_wrongState hj hs)
  case jobHalt => exact exec_refused ht hl rfl rfl (haltJob_wrongState hj hs)
  case jobClose => exact exec_refused ht hl rfl rfl (closeJob_wrongState hj (single hs))
  case loadMap => exact exec_refused ht hl rfl rfl (loadMap_wrongState hj (single hs) _)
  case setSerial => exact exec_refused ht hl rfl rfl (setSerial_wrongState hj (single hs) _ _ _ _)
  case digestReset => exact exec_refused ht hl rfl rfl (digestReset_wrongState hj (single hs))
  case passStart => exact exec_refused ht hl rfl rfl (passStart_wrongState hj (single hs))

/-- Settles O18: each command row checks its object's number, then its job's state, before anything else. -/
theorem commandChecksComeFirst : Obligations.CommandChecksComeFirst :=
  ⟨fun _ _ _ _ hh hn hl ht hb => exec_objectBeyond hh hn hl ht hb,
    fun _ _ _ _ _ _ _ hh hn hl ht hc hj hs => exec_wrongState hh hn hl ht hc hj hs⟩

end Sys2Proof.Machine

namespace Sys2Proof.Machine

/-! ## Records of the roster -/

/-- A record of the roster is one at some place (R114). -/
theorem mem_discs {s : State} {d : Disc} : d ∈ s.discs ↔ ∃ p, s.disc p = some d := by
  constructor
  · intro h
    simp only [State.discs, List.mem_filterMap, id, exists_eq_right] at h
    obtain ⟨i, hi, e⟩ := List.mem_iff_getElem.mp h
    obtain ⟨p, hp⟩ := place_of_idx ⟨i, by simpa using hi⟩
    exact ⟨p, by simp only [State.disc, nth, hp]; simpa using e⟩
  · rintro ⟨p, h⟩
    exact List.mem_filterMap.mpr ⟨some d, h ▸ nth_mem_toList s.places p.idx, rfl⟩

/-- No record of the job is left when every place holds none of it (R10). -/
theorem discsOf_isEmpty {s : State} {j : JobId} :
    (s.discsOf j).isEmpty = true ↔ ∀ p d, s.disc p = some d → d.job ≠ some j := by
  simp only [State.discsOf, List.isEmpty_iff, List.filter_eq_nil_iff, decide_eq_true_eq, mem_discs]
  exact ⟨fun h p d hd => h d ⟨p, hd⟩, fun h d ⟨p, hd⟩ => h p d hd⟩

/-- A record in PRINTING of a job that names the template holds the template (R154, R155). -/
theorem templateBusy_of_printing {s : State} {t : TemplateId} {p : Place} {d : Disc} {j : JobId} (hd : s.disc p = some d)
    (hp : d.state = .printing) (hj : d.job = some j) (ht : (s.job j).template = some t) : s.templateBusy t = true :=
  List.any_eq_true.mpr ⟨d, mem_discs.mpr ⟨p, hd⟩, by simp [hp, hj, ht]⟩

/-- A record in PRINTING holds the glyphs (R156). -/
theorem printing_of_disc {s : State} {p : Place} {d : Disc} (hd : s.disc p = some d) (hp : d.state = .printing) :
    s.printing = true :=
  List.any_eq_true.mpr ⟨d, mem_discs.mpr ⟨p, hd⟩, by simp [hp]⟩

/-! ## What holds a resource -/

/-- A granted FEED move of a port. -/
theorem granted_feedFor {s : State} {p : PortId} {m : Move} {j : JobId} (hm : s.transport.move = some m)
    (hk : m.req.kind = .feed p j) : s.granted (ReqKind.isFeedFor p) = true := by
  simp [State.granted, hm, hk, ReqKind.isFeedFor]

section
variable {b : Byte} {s : State}

theorem loadProfile_busy {g : ProfileId} {j : JobId} (hb : b.toNat = g.val) (hp : (s.job j).state.inProduction = true)
    (hg : (s.job j).profile = g) (e : ProfileEntry) : loadProfile b e s = s.refuse .busy := by
  have hany : (s.jobs.toList.any fun x => x.state.inProduction && decide (x.profile = g)) = true :=
    List.any_eq_true.mpr ⟨s.job j, nth_mem_toList _ _, by simp [hp, hg]⟩
  rw [loadProfile, numbered_eq hb]; exact if_pos hany

theorem assignPort_busy {p : PortId} (hb : b.toNat = p.val) (k : Byte) (hbusy : s.assignBusy p = true) :
    assignPort b k s = s.refuse .busy := by
  rw [assignPort, numbered_eq hb]; exact if_pos hbusy

theorem passStart_busy {j : JobId} (hb : b.toNat = j.val) (hs : (s.job j).state = .running)
    (hp : (s.pass j).isSome = true) : passStart b s = s.refuse .busy := by
  rw [passStart, withJob_eq hb, if_neg (by simp [hs]), if_pos hp]

theorem portReset_busy {p : PortId} (hb : b.toNat = p.val) (ha : s.armAtTray p = true) :
    portReset b s = s.refuse .busy := by
  rw [portReset, withPort_eq hb]; exact if_pos ha

theorem portService_busy {p : PortId} (hb : b.toNat = p.val) (hs : s.serviceable p = true)
    (hg : s.granted (ReqKind.isFeedFor p) = true) : portService b s = s.refuse .busy := by
  rw [portService, withPort_eq hb, if_neg (by simp [hs]), if_pos hg]

theorem transportHome_busy (hs : s.transport.state = .paused) (hm : s.transport.move.isSome = true) :
    transportHome s = s.refuse .busy := by
  rw [transportHome, hs]; exact if_pos hm

theorem loadTemplate_busy {t : TemplateId} (hb : b.toNat = t.val) (ht : s.templateBusy t = true) (o : Word)
    (ch : List Byte) : loadTemplate b o ch s = s.refuse .busy := by
  rw [loadTemplate, numbered_eq hb]; exact if_pos ht

theorem setTemplate_busy {t : TemplateId} (hb : b.toNat = t.val) (ht : s.templateBusy t = true) (i o : Half)
    (fs : List FieldEntry) : setTemplate b i o fs s = s.refuse .busy := by
  rw [setTemplate, numbered_eq hb]; exact if_pos ht

theorem loadGlyphs_busy (hp : s.printing = true) (gs : Vector Glyph 16) : loadGlyphs gs s = s.refuse .busy := by
  rw [loadGlyphs, if_pos hp]

theorem printerResume_busy (hs : s.printer.state = .fault) (hp : s.platterFree = false) :
    printerResume s = s.refuse .busy := by
  rw [printerResume, if_neg (by simp [hs]), if_pos (by simp [hp])]

end

/-- A tray, a wave or a granted FEED move holds the port of ASSIGN PORT (R17). -/
theorem assignBusy_of_held {s : State} {p : PortId} (hp : (s.disc (.tray p)).isSome ∨ (s.waveOf p).isSome ∨
    ∃ m j, s.transport.move = some m ∧ m.req.kind = .feed p j) : s.assignBusy p = true := by
  rcases hp with hd | hw | ⟨m, j, hm, hk⟩
  · simp [State.assignBusy, hd]
  · simp [State.assignBusy, hw]
  · simp [State.assignBusy, granted_feedFor hm hk]

/-- A granted move with the tray ahead of it, or leaving it before its grip, holds the port of PORT RESET (R91). -/
theorem armAtTray_of_move {s : State} {p : PortId} {m : Move} (hm : s.transport.move = some m)
    (hp : m.dest = .tray p ∨ (m.source = .place (.tray p) ∧ (m.phase = .toSource ∨ m.phase = .grip))) :
    s.armAtTray p = true := by
  rcases hp with hd | ⟨hsrc, hph⟩
  · simp [State.armAtTray, hm, hd]
  · simp [State.armAtTray, hm, hsrc, Move.beforeGrip, hph]

/-- A record on the platter, or its present sensor set, keeps the platter from being free (R166). -/
theorem platterFree_of_taken {s : State} (hp : (s.disc .platter).isSome ∨ s.sensors.platter = true) :
    s.platterFree = false := by
  rcases hp with hd | hsens
  · simp [State.platterFree, Option.isNone_eq_false_iff.mpr hd]
  · simp [State.platterFree, hsens]

/-- Settles O19: each row's BUSY check finds what holds its resource. -/
theorem heldResourceIsBusy : Obligations.HeldResourceIsBusy := by
  intro c h n s hh hn hl ht hheld
  rcases hheld with ⟨b, e, g, j, rfl, hb, hp, hg⟩ | ⟨b, k, p, rfl, hb, hp⟩ | ⟨b, j, rfl, hb, hs, hp⟩ |
    ⟨b, p, m, rfl, hb, hm, hp⟩ | ⟨b, p, m, j, rfl, hb, hs, hm, hk⟩ | ⟨rfl, hs, hm⟩ |
    ⟨b, o, ch, t, p, d, j, rfl, hb, hd, hp, hj, htm⟩ | ⟨b, i, o, fs, t, p, d, j, rfl, hb, hd, hp, hj, htm⟩ |
    ⟨gs, p, d, rfl, hd, hp⟩ | ⟨rfl, hs, hp⟩ <;> cases hn
  · exact exec_refused ht hl rfl rfl (loadProfile_busy hb (s := s.countGood) hp hg e)
  · exact exec_refused ht hl rfl rfl (assignPort_busy hb k (assignBusy_of_held (s := s.countGood) hp))
  · exact exec_refused ht hl rfl rfl (passStart_busy hb (s := s.countGood) hs hp)
  · exact exec_refused ht hl rfl rfl (portReset_busy hb (armAtTray_of_move (s := s.countGood) hm hp))
  · exact exec_refused ht hl rfl rfl (portService_busy hb (s := s.countGood) hs (granted_feedFor hm hk))
  · exact exec_refused ht hl rfl rfl (transportHome_busy (s := s.countGood) hs hm)
  · exact exec_refused ht hl rfl rfl (loadTemplate_busy hb (templateBusy_of_printing (s := s.countGood) hd hp hj htm) o ch)
  · exact exec_refused ht hl rfl rfl
      (setTemplate_busy hb (templateBusy_of_printing (s := s.countGood) hd hp hj htm) i o fs)
  · exact exec_refused ht hl rfl rfl (loadGlyphs_busy (printing_of_disc (s := s.countGood) hd hp) gs)
  · exact exec_refused ht hl rfl rfl (printerResume_busy (s := s.countGood) hs (platterFree_of_taken hp))

/-! ## JOB OPEN (R2) -/

section
variable {b : Byte} {j : JobId} {s : State} {r : Half}

theorem openJob_outOfRange (hj : b.toNat = j.val) (hs : (s.job j).state = .closed)
    (hr : r.toNat < 64 ∨ 16384 < r.toNat) : openJob b r s = s.refuse (.invalid 1) := by
  rw [openJob, withJob_eq hj, if_neg (by simp [hs]), if_pos hr]

theorem openJob_noSpace (hj : b.toNat = j.val) (hs : (s.job j).state = .closed) (h1 : 64 ≤ r.toNat)
    (h2 : r.toNat ≤ 16384) (hf : s.freeSegments < r.toNat) : openJob b r s = s.refuse .noSpace := by
  rw [openJob, withJob_eq hj, if_neg (by simp [hs]), if_neg (by omega), if_pos hf]

theorem openJob_taken (hj : b.toNat = j.val) (hs : (s.job j).state = .closed) (h1 : 64 ≤ r.toNat)
    (h2 : r.toNat ≤ 16384) (hf : r.toNat ≤ s.freeSegments) : openJob b r s = State.accept { s with
      jobs := upd s.jobs j { Job.reset with
        state := .opened, ring := r.toNat, prefill := r.toNat, passCounter := (s.job j).passCounter }
      memory := s.memory.clearRing j } := by
  rw [openJob, withJob_eq hj, if_neg (by simp [hs]), if_neg (by omega), if_neg (by omega)]; rfl

end

/-- Settles O20: the ring's size and the free segments decide, in that order. -/
theorem jobOpenTakesRing : Obligations.JobOpenTakesRing := fun _ _ _ s _ ht hl hj hs =>
  ⟨fun h1 h2 hf => exec_posted ht hl rfl (openJob_taken (s := s.countGood) hj hs h1 h2 hf),
    fun hr => exec_refused ht hl rfl rfl (openJob_outOfRange (s := s.countGood) hj hs hr),
    fun h1 h2 hf => exec_refused ht hl rfl rfl (openJob_noSpace (s := s.countGood) hj hs h1 h2 hf)⟩

end Sys2Proof.Machine

namespace Sys2Proof.Machine

/-! ## SET JOB (R3) -/

/-- A template is too narrow for a serial width when one of its SERIAL fields is (R3, R20). -/
theorem narrower_iff {t : Template} {w : Nat} :
    t.narrower w = true ↔ ∃ f ∈ t.fields, f.kind = .serial ∧ f.width < w := by
  simp [Template.narrower]

section
variable {b bin prof tmpl : Byte} {pre lag tgt : Half} {j : JobId} {s : State}

theorem setJob_badLag (hj : b.toNat = j.val) (hs : (s.job j).state = .opened) (hl : 16383 < lag.toNat) :
    setJob b pre lag tgt bin prof tmpl s = s.refuse (.invalid 2) := by
  rw [setJob, withJob_eq hj, if_neg (by simp [hs]), if_pos hl]

theorem setJob_badBin (hj : b.toNat = j.val) (hs : (s.job j).state = .opened) (hl : lag.toNat ≤ 16383)
    (hb : 4 ≤ bin.toNat) : setJob b pre lag tgt bin prof tmpl s = s.refuse (.invalid 4) := by
  rw [setJob, withJob_eq hj, if_neg (by simp [hs]), if_neg (by omega), numbered_none hb]

theorem setJob_badProfile (hj : b.toNat = j.val) (hs : (s.job j).state = .opened) (hl : lag.toNat ≤ 16383)
    (hb : bin.toNat < 4) (hp : 8 ≤ prof.toNat) :
    setJob b pre lag tgt bin prof tmpl s = s.refuse (.invalid 5) := by
  rw [setJob, withJob_eq hj, if_neg (by simp [hs]), if_neg (by omega), numbered_eq (i := ⟨_, hb⟩) rfl,
    numbered_none hp]

/-- SET JOB once lag limit, bin and profile have passed: the template's code decides (R3). -/
theorem setJob_template {i : BinId} {g : ProfileId} (hj : b.toNat = j.val) (hs : (s.job j).state = .opened)
    (hl : lag.toNat ≤ 16383) (hb : bin.toNat = i.val) (hp : prof.toNat = g.val) :
    setJob b pre lag tgt bin prof tmpl s =
      let t := numbered 8 tmpl
      if t.isNone ∧ tmpl.toNat ≠ noneCode then s.refuse (.invalid 6)
      else if t.any fun t => (s.template t).narrower (s.job j).serialWidth then s.refuse (.invalid 6)
      else State.accept { s with jobs := upd s.jobs j { s.job j with
        prefill := max 1 (min pre.toNat (s.job j).ring), lagLimit := lag.toNat, target := tgt.toNat, bin := i
        profile := g, template := t } } := by
  rw [setJob, withJob_eq hj, if_neg (by simp [hs]), if_neg (by omega), numbered_eq hb, numbered_eq hp]
  rfl

theorem setJob_noTemplate {i : BinId} {g : ProfileId} (hj : b.toNat = j.val) (hs : (s.job j).state = .opened)
    (hl : lag.toNat ≤ 16383) (hb : bin.toNat = i.val) (hp : prof.toNat = g.val) (ht : 8 ≤ tmpl.toNat)
    (hn : tmpl.toNat ≠ 255) : setJob b pre lag tgt bin prof tmpl s = s.refuse (.invalid 6) := by
  rw [setJob_template hj hs hl hb hp, numbered_none ht]
  exact if_pos ⟨rfl, hn⟩

theorem setJob_narrow {i : BinId} {g : ProfileId} {k : TemplateId} (hj : b.toNat = j.val)
    (hs : (s.job j).state = .opened) (hl : lag.toNat ≤ 16383) (hb : bin.toNat = i.val) (hp : prof.toNat = g.val)
    (ht : tmpl.toNat = k.val) (hn : ∃ f ∈ (s.template k).fields, f.kind = .serial ∧ f.width < (s.job j).serialWidth) :
    setJob b pre lag tgt bin prof tmpl s = s.refuse (.invalid 6) := by
  rw [setJob_template hj hs hl hb hp, numbered_eq ht]
  exact (if_neg (by simp)).trans (if_pos (narrower_iff.mpr hn))

theorem setJob_taken {i : BinId} {g : ProfileId} {t : Option TemplateId} (hj : b.toNat = j.val)
    (hs : (s.job j).state = .opened) (hl : lag.toNat ≤ 16383) (hb : bin.toNat = i.val) (hp : prof.toNat = g.val)
    (ht : (∃ k, t = some k ∧ tmpl.toNat = k.val ∧
        ∀ f ∈ (s.template k).fields, f.kind = .serial → (s.job j).serialWidth ≤ f.width) ∨
      (t = none ∧ tmpl.toNat = 255)) :
    setJob b pre lag tgt bin prof tmpl s = State.accept { s with jobs := upd s.jobs j { s.job j with
      prefill := max 1 (min pre.toNat (s.job j).ring), lagLimit := lag.toNat, target := tgt.toNat, bin := i
      profile := g, template := t } } := by
  rw [setJob_template hj hs hl hb hp]
  rcases ht with ⟨k, rfl, hk, hw⟩ | ⟨rfl, hn⟩
  · have hwide : ¬ (s.template k).narrower (s.job j).serialWidth = true := fun hc => by
      obtain ⟨f, hf, hser, hlt⟩ := narrower_iff.mp hc
      exact absurd (hw f hf hser) (by omega)
    rw [numbered_eq hk]
    exact (if_neg (by simp)).trans (if_neg hwide)
  · rw [numbered_none (show 8 ≤ tmpl.toNat by omega)]
    exact (if_neg fun hc => hc.2 hn).trans (if_neg (by simp))

end

/-- Settles O21: the fields are checked in the order of their indices, then written together. -/
theorem setJobWritesFields : Obligations.SetJobWritesFields := fun _ _ _ _ _ _ _ _ s _ ht hl hj hs =>
  ⟨fun _ _ _ hlag hb hp htm => exec_posted ht hl rfl (setJob_taken (s := s.countGood) hj hs hlag hb hp htm),
    fun hlag => exec_refused ht hl rfl rfl (setJob_badLag (s := s.countGood) hj hs hlag),
    fun hlag hb => exec_refused ht hl rfl rfl (setJob_badBin (s := s.countGood) hj hs hlag hb),
    fun hlag hb hp => exec_refused ht hl rfl rfl (setJob_badProfile (s := s.countGood) hj hs hlag hb hp),
    fun hlag hb hp htm hn => exec_refused ht hl rfl rfl
      (setJob_noTemplate (i := ⟨_, hb⟩) (g := ⟨_, hp⟩) (s := s.countGood) hj hs hlag rfl rfl htm hn),
    fun _ hlag hb hp hk hn => exec_refused ht hl rfl rfl
      (setJob_narrow (i := ⟨_, hb⟩) (g := ⟨_, hp⟩) (s := s.countGood) hj hs hlag rfl rfl hk hn)⟩

/-! ## JOB RUN, JOB CLOSE, and JOB DRAIN and JOB HALT repeated (R4, R5, R8, R10) -/

section
variable {b : Byte} {j : JobId} {s : State}

theorem runJob_taken (hj : b.toNat = j.val) (hs : (s.job j).state = .opened) (hm : (s.job j).map.isSome = true)
    (hp : (s.profile (s.job j).profile).loaded = true)
    (ht : (s.job j).target = 0 ∨ (s.job j).counters.delivered < (s.job j).target) :
    runJob b s = State.accept { s with jobs := upd s.jobs j { s.job j with state := .running } } := by
  rw [runJob, withJob_eq hj]; exact if_pos ⟨hs, hm, hp, ht⟩

theorem runJob_refused (hj : b.toNat = j.val) (hno : (s.job j).map = none ∨
      (s.profile (s.job j).profile).loaded = false ∨
      ((s.job j).target ≠ 0 ∧ (s.job j).target ≤ (s.job j).counters.delivered)) :
    runJob b s = s.refuse .state := by
  rw [runJob, withJob_eq hj]
  refine if_neg ?_
  rintro ⟨-, hm, hp, ht⟩
  rcases hno with h | h | ⟨h0, hle⟩
  · simp [h] at hm
  · simp [h] at hp
  · rcases ht with ht | ht
    · exact h0 ht
    · omega

theorem closeJob_taken (hj : b.toNat = j.val) (hs : (s.job j).state = .opened)
    (hd : ∀ p d, s.disc p = some d → d.job ≠ some j) : closeJob b s = State.accept { s with
      jobs := upd s.jobs j { s.job j with state := .closed, map := none, digest := .empty } } := by
  rw [closeJob, withJob_eq hj]; exact if_pos ⟨hs, discsOf_isEmpty.mpr hd⟩

theorem closeJob_refused (hj : b.toNat = j.val) (hd : ∃ p d, s.disc p = some d ∧ d.job = some j) :
    closeJob b s = s.refuse .state := by
  obtain ⟨p, d, hp, hdj⟩ := hd
  rw [closeJob, withJob_eq hj]; exact if_neg fun hc => discsOf_isEmpty.mp hc.2 p d hp hdj

theorem drainJob_repeated (hj : b.toNat = j.val) (hs : (s.job j).state = .draining) : drainJob b s = s.accept := by
  rw [drainJob, withJob_eq hj, hs]

theorem haltJob_repeated (hj : b.toNat = j.val) (hs : (s.job j).state = .halting) : haltJob b s = s.accept := by
  rw [haltJob, withJob_eq hj, hs]

end

/-- Settles O22: what each of the four commands does in OPEN, or in the state that it has already brought about. -/
theorem jobRunCloseAndRepeats : Obligations.JobRunCloseAndRepeats := fun _ _ s _ ht hl hj =>
  ⟨fun hs hm hp htg => exec_settled ht hl rfl (runJob_taken (s := s.countGood) hj hs hm hp htg),
    fun _ hno => exec_refused ht hl rfl rfl (runJob_refused (s := s.countGood) hj hno),
    fun hs hd => exec_posted ht hl rfl (closeJob_taken (s := s.countGood) hj hs hd),
    fun _ hd => exec_refused ht hl rfl rfl (closeJob_refused (s := s.countGood) hj hd),
    fun hs => exec_settled ht hl rfl (drainJob_repeated (s := s.countGood) hj hs),
    fun hs => exec_settled ht hl rfl (haltJob_repeated (s := s.countGood) hj hs)⟩

/-! ## DIGEST RESET and FAULT CLEAR (R21, R179) -/

section
variable {b : Byte} {j : JobId} {s : State}

theorem digestReset_taken (hj : b.toNat = j.val) (hs : (s.job j).state = .opened) : digestReset b s =
    State.accept { s with jobs := upd s.jobs j { s.job j with digest := .empty } } := by
  rw [digestReset, withJob_eq hj, if_neg (by simp [hs])]; rfl

theorem faultClear_taken (hj : b.toNat = j.val) : faultClear b s =
    State.accept { s with jobs := upd s.jobs j { s.job j with fault := none } } := by
  rw [faultClear, withJob_eq hj]; rfl

/-- The next fault fills a record that is not valid (R178). -/
theorem faultOf_fresh (hf : (s.job j).fault = none) (c : FaultCause) (n : Option Half) (p : Option PortId)
    (l : Option Nat) (g : Option Half) : ((s.faultOf j c n p l g).job j).fault = some ⟨c, n, p, l, g, 0⟩ := by
  rw [State.faultOf, job_modJob_self]; simp only [hf, FaultRecord.take]

/-- The fault record of the job after FAULT CLEAR is not valid (R179). -/
theorem exec_faultClear_fault {h : CmdHdr} {t : State} (ht : s.takes) (hl : h.len = 8) (hj : b.toNat = j.val)
    (he : exec (.faultClear h b) s = .next t) : (t.job j).fault = none := by
  obtain ⟨t', he', rest, -, rfl⟩ := exec_posted (c := .faultClear h b) ht hl rfl (faultClear_taken (s := s.countGood) hj)
  cases he.symm.trans he'
  exact congrArg Job.fault (nth_upd_self s.jobs j _)

end

/-- Settles O23: OPEN decides DIGEST RESET; FAULT CLEAR asks for no state. -/
theorem digestResetAndFaultClear : Obligations.DigestResetAndFaultClear := by
  refine ⟨fun h b s j ht hl hj => ?_, fun h b s ht hl => ⟨fun j hj => ?_, fun hb => ?_, ?_⟩⟩
  · by_cases hs : (s.job j).state = .opened
    · simp only [if_pos hs]
      exact exec_posted ht hl rfl (digestReset_taken (s := s.countGood) hj hs)
    · simp only [if_neg hs]
      exact exec_refused ht hl rfl rfl (digestReset_wrongState (s := s.countGood) hj hs)
  · exact exec_posted ht hl rfl (faultClear_taken (s := s.countGood) hj)
  · exact exec_refused ht hl rfl rfl (withJob_beyond hb _ _)
  · exact fun j t c n p l g hj he => faultOf_fresh (exec_faultClear_fault ht hl hj he) c n p l g

/-! ## SET SERIAL (R20) -/

section
variable {b w pad : Byte} {base : Word} {st : Half} {j : JobId} {s : State}

theorem padOf_none (hp : 2 ≤ pad.toNat) : padOf pad = none := by
  unfold padOf
  split <;> first | omega | rfl

theorem padOf_some (hp : ¬ 2 ≤ pad.toNat) : padOf pad = some (if pad = 0 then .zero else .space) := by
  obtain rfl | rfl : pad = 0 ∨ pad = 1 := by bv_omega
  · rfl
  · rfl

/-- The template named by a job is too narrow for a width (R20). -/
theorem template_narrower_iff {n : Nat} : ((s.job j).template.any fun t => (s.template t).narrower n) = true ↔
    ∃ k, (s.job j).template = some k ∧ ∃ f ∈ (s.template k).fields, f.kind = .serial ∧ f.width < n := by
  cases (s.job j).template with
  | none => simp
  | some k => simp [narrower_iff]

/-- SET SERIAL in OPEN: its checks in the order of their indices (R20). -/
theorem setSerial_opened (hj : b.toNat = j.val) (hs : (s.job j).state = .opened) : setSerial b base st w pad s =
    if w.toNat < 1 ∨ 9 < w.toNat then s.refuse (.invalid 1)
    else if st.toNat < 1 ∨ 1000 < st.toNat then s.refuse (.invalid 2)
    else if 10 ^ w.toNat ≤ base.toNat then s.refuse (.invalid 3)
    else if 2 ≤ pad.toNat then s.refuse (.invalid 4)
    else if ∃ k, (s.job j).template = some k ∧ ∃ f ∈ (s.template k).fields, f.kind = .serial ∧ f.width < w.toNat then
      s.refuse (.invalid 5)
    else State.accept { s with jobs := upd s.jobs j { s.job j with
      serialBase := base.toNat, serialStep := st.toNat, serialWidth := w.toNat
      serialPad := if pad = 0 then .zero else .space, serialNext := base.toNat } } := by
  rw [setSerial, withJob_eq hj, if_neg (by simp [hs])]
  by_cases hp : 2 ≤ pad.toNat
  · simp only [padOf_none hp, if_pos hp]
  · simp only [padOf_some hp, if_neg hp, template_narrower_iff]
    rfl

end

/-- Settles O29: the work of SET SERIAL is a chain of checks, one answer for each. -/
theorem setSerialWritesSeries : Obligations.SetSerialWritesSeries := by
  intro h b base st w pad s ht hl
  refine ⟨fun hb => exec_refused ht hl rfl rfl (withJob_beyond hb _ _), fun j hj => ?_⟩
  by_cases hs : (s.job j).state = .opened
  · have hp := setSerial_opened (base := base) (st := st) (w := w) (pad := pad) (s := s.countGood) hj hs
    generalize (if pad = 0 then Pad.zero else Pad.space) = pd at hp ⊢
    split_ifs with ho hw hst hbase hpad hser
    · exact absurd hs ho
    · exact exec_refused ht hl rfl rfl (hp.trans <| if_pos hw)
    · exact exec_refused ht hl rfl rfl (hp.trans <| (if_neg hw).trans <| if_pos hst)
    · exact exec_refused ht hl rfl rfl (hp.trans <| (if_neg hw).trans <| (if_neg hst).trans <| if_pos hbase)
    · exact exec_refused ht hl rfl rfl
        (hp.trans <| (if_neg hw).trans <| (if_neg hst).trans <| (if_neg hbase).trans <| if_pos hpad)
    · exact exec_refused ht hl rfl rfl (hp.trans <| (if_neg hw).trans <| (if_neg hst).trans <|
        (if_neg hbase).trans <| (if_neg hpad).trans <| if_pos hser)
    · exact exec_posted ht hl rfl (hp.trans <| (if_neg hw).trans <| (if_neg hst).trans <|
        (if_neg hbase).trans <| (if_neg hpad).trans <| if_neg hser)
  · simp only [if_pos hs]
    exact exec_refused ht hl rfl rfl (setSerial_wrongState (s := s.countGood) hj hs _ _ _ _)

end Sys2Proof.Machine

namespace Sys2Proof.Machine

/-! ## LOAD MAP (R13) -/

theorem extentKindOf_eq (c : Byte) :
    extentKindOf c = if c = 1 then some .stream else if c = 2 then some .fill else none := by
  unfold extentKindOf
  split
  · next h => rw [if_pos (BitVec.eq_of_toNat_eq h)]
  · next h => rw [BitVec.eq_of_toNat_eq (y := 2) h]; rfl
  · next h1 h2 => rw [if_neg (by rintro rfl; exact h1 rfl), if_neg (by rintro rfl; exact h2 rfl)]

theorem extentKindOf_stream {c : Byte} : extentKindOf c = some .stream ↔ c = 1 := by
  rw [extentKindOf_eq]; split_ifs <;> simp_all

theorem extentKindOf_none {c : Byte} : (extentKindOf c).isNone = true ↔ c ≠ 1 ∧ c ≠ 2 := by
  rw [extentKindOf_eq]; split_ifs <;> simp_all

/-- A loaded extent is a stream for kind 1, else fill: a list that passes holds no third kind (R13). -/
theorem loadExtent_eq (e : ExtentEntry) :
    loadExtent e = ⟨if e.kind = 1 then .stream else .fill, e.fill, e.length.toNat⟩ := by
  rw [loadExtent, extentKindOf_eq]; split_ifs <;> rfl

theorem extentFails_iff {total : Nat} {e : ExtentEntry} {later : List ExtentEntry} :
    extentFails total e later = true ↔ (e.kind ≠ 1 ∧ e.kind ≠ 2) ∨ e.length.toNat = 0 ∨
      33554432 < total + e.length.toNat ∨
      (e.kind = 1 ∧ e.length.toNat % 16 ≠ 0 ∧ ∃ x ∈ later, x.kind = 1) := by
  simp only [extentFails, Bool.or_eq_true, Bool.and_eq_true, decide_eq_true_eq, extentKindOf_none, extentKindOf_stream,
    List.any_eq_true, or_assoc, and_assoc]
  rfl

/-- The total of a list's lengths (R13). -/
def totalLength (es : List ExtentEntry) : Nat := (es.map fun x => x.length.toNat).sum

/-- The extent at a place of a list fails its checks, `total` being what stands before the list (R13). -/
def failsAt (total : Nat) (es : List ExtentEntry) (i : Nat) : Prop :=
  ∃ e, es[i]? = some e ∧ extentFails (total + totalLength (es.take i)) e (es.drop (i + 1)) = true

theorem failsAt_zero {total : Nat} {e : ExtentEntry} {es : List ExtentEntry} :
    failsAt total (e :: es) 0 ↔ extentFails total e es = true := by
  simp [failsAt, totalLength]

theorem failsAt_succ {total i : Nat} {e : ExtentEntry} {es : List ExtentEntry} :
    failsAt total (e :: es) (i + 1) ↔ failsAt (total + e.length.toNat) es i := by
  simp [failsAt, totalLength, Nat.add_assoc]

theorem firstBadExtent_none {es : List ExtentEntry} : ∀ {n total : Nat}, (∀ i, ¬ failsAt total es i) →
    firstBadExtent n total es = none := by
  induction es with
  | nil => exact fun _ => rfl
  | cons e es ih =>
    intro n total h
    rw [firstBadExtent, if_neg fun hc => h 0 (failsAt_zero.mpr hc)]
    exact ih fun i hi => h (i + 1) (failsAt_succ.mpr hi)

theorem firstBadExtent_some {es : List ExtentEntry} : ∀ {n total i : Nat}, failsAt total es i →
    (∀ k, k < i → ¬ failsAt total es k) → firstBadExtent n total es = some (n + i) := by
  induction es with
  | nil => rintro n total i ⟨e, he, -⟩; simp at he
  | cons e es ih =>
    intro n total i hi hlt
    cases i with
    | zero => rw [firstBadExtent, if_pos (failsAt_zero.mp hi)]; rfl
    | succ i =>
      rw [firstBadExtent, if_neg fun hc => hlt 0 (by omega) (failsAt_zero.mpr hc),
        ih (failsAt_succ.mp hi) fun k hk hf => hlt (k + 1) (by omega) (failsAt_succ.mpr hf)]
      congr 1; omega

/-- R13's checks on the extent at a place, the running total with it. -/
theorem failsAt_iff {es : List ExtentEntry} {i : Nat} :
    failsAt 0 es i ↔ ∃ e, es[i]? = some e ∧ ((e.kind ≠ 1 ∧ e.kind ≠ 2) ∨ e.length.toNat = 0 ∨
      33554432 < ((es.take (i + 1)).map fun x => x.length.toNat).sum ∨
      (e.kind = 1 ∧ e.length.toNat % 16 ≠ 0 ∧ ∃ x ∈ es.drop (i + 1), x.kind = 1)) := by
  refine exists_congr fun e => and_congr_right fun he => ?_
  have htake : es.take (i + 1) = es.take i ++ [e] := by rw [List.take_add_one, he]; rfl
  rw [extentFails_iff, htake]
  simp [totalLength]

section
variable {b : Byte} {es : List ExtentEntry} {j : JobId} {s : State}

theorem mapRefusal_extent {i : Nat} (hi : failsAt 0 es i) (hlt : ∀ k, k < i → ¬ failsAt 0 es k) :
    mapRefusal es = some i := by
  rw [mapRefusal, firstBadExtent_some hi hlt, Nat.zero_add]

/-- A list whose extents pass: its number of entries and a STREAM extent decide (R13). -/
theorem mapRefusal_passed (hn : ∀ i, ¬ failsAt 0 es i) : mapRefusal es =
    if 64 < es.length then some 64 else if ∃ e ∈ es, e.kind = 1 then none else some es.length := by
  rw [mapRefusal, firstBadExtent_none hn]
  simp only [List.any_eq_true, decide_eq_true_eq, extentKindOf_stream]

theorem loadMap_refused {i : Nat} (hj : b.toNat = j.val) (hs : (s.job j).state = .opened) (hr : mapRefusal es = some i) :
    loadMap b es s = s.refuse (.invalid i) := by
  rw [loadMap, withJob_eq hj, if_neg (by simp [hs]), hr]

theorem loadMap_taken (hj : b.toNat = j.val) (hs : (s.job j).state = .opened) (hr : mapRefusal es = none) :
    loadMap b es s = State.accept { s with jobs := upd s.jobs j { s.job j with
      digest := .empty
      map := some (es.map fun e => ⟨if e.kind = 1 then .stream else .fill, e.fill, e.length.toNat⟩) } } := by
  rw [loadMap, withJob_eq hj, if_neg (by simp [hs]), hr, List.map_congr_left fun e _ => loadExtent_eq e]
  rfl

end

/-! ## LOAD PROFILE (R15) -/

theorem verifyModeOf_code {c : Byte} {m : VerifyMode} (hc : c.toNat = m.code) : verifyModeOf c = some m := by
  unfold verifyModeOf; rw [hc]; cases m <;> rfl

theorem marginalDestOf_code {c : Byte} {d : MarginalDest} (hc : c.toNat = d.code) : marginalDestOf c = some d := by
  unfold marginalDestOf; rw [hc]; cases d <;> rfl

theorem yesNoOf_code {c : Byte} {p : Bool} (hc : c.toNat = p.toNat) : yesNoOf c = some p := by
  unfold yesNoOf; rw [hc]; cases p <;> rfl

theorem verifyModeOf_none {c : Byte} (hc : 2 < c.toNat) : verifyModeOf c = none := by
  unfold verifyModeOf; split <;> first | omega | rfl

theorem marginalDestOf_none {c : Byte} (hc : 1 < c.toNat) : marginalDestOf c = none := by
  unfold marginalDestOf; split <;> first | omega | rfl

theorem yesNoOf_none {c : Byte} (hc : 1 < c.toNat) : yesNoOf c = none := by
  unfold yesNoOf; split <;> first | omega | rfl

/-- A code up to 2 names a verify mode (11.2). -/
theorem verifyMode_of_le {c : Byte} (hc : c.toNat ≤ 2) : ∃ m : VerifyMode, c.toNat = m.code := by
  obtain h | h | h : c.toNat = 0 ∨ c.toNat = 1 ∨ c.toNat = 2 := by omega
  · exact ⟨.none, h⟩
  · exact ⟨.full, h⟩
  · exact ⟨.sampled, h⟩

/-- A code up to 1 names a place for MARGINAL discs (11.2). -/
theorem marginalDest_of_le {c : Byte} (hc : c.toNat ≤ 1) : ∃ d : MarginalDest, c.toNat = d.code := by
  obtain h | h : c.toNat = 0 ∨ c.toNat = 1 := by omega
  · exact ⟨.o1, h⟩
  · exact ⟨.reject, h⟩

section
variable {e : ProfileEntry} {m : VerifyMode}

theorem profileOf_badMode (hm : 2 < e.mode.toNat) : profileOf e = .error 0 := by
  rw [profileOf, verifyModeOf_none hm]

theorem profileOf_badPeak (hm : e.mode.toNat = m.code) (hp : e.peakFail < e.peakWarn) : profileOf e = .error 3 := by
  rw [profileOf, verifyModeOf_code hm]; exact if_pos (BitVec.lt_def.mp hp)

theorem profileOf_badMean (hm : e.mode.toNat = m.code) (hp : e.peakWarn ≤ e.peakFail) (ha : e.meanFail < e.meanWarn) :
    profileOf e = .error 5 := by
  rw [profileOf, verifyModeOf_code hm]
  exact (if_neg (Nat.not_lt.mpr (BitVec.le_def.mp hp))).trans (if_pos (BitVec.lt_def.mp ha))

/-- Mode and limits have passed: the codes of destination and print decide (R15). -/
theorem profileOf_codes (hm : e.mode.toNat = m.code) (hp : e.peakWarn ≤ e.peakFail) (ha : e.meanWarn ≤ e.meanFail) :
    profileOf e = match marginalDestOf e.dest, yesNoOf e.printMarginal with
      | none, _ => .error 7
      | _, none => .error 8
      | some dest, some print =>
        if print ∧ dest = .reject then .error 8
        else .ok {
          loaded := true, mode := m, stride := max 2 (min 64 e.stride.toNat), weight := e.weight.toNat
          peakWarn := e.peakWarn.toNat, peakFail := e.peakFail.toNat
          meanWarn := e.meanWarn.toNat, meanFail := e.meanFail.toNat, dest := dest, printMarginal := print } := by
  rw [profileOf, verifyModeOf_code hm]
  exact (if_neg (Nat.not_lt.mpr (BitVec.le_def.mp hp))).trans (if_neg (Nat.not_lt.mpr (BitVec.le_def.mp ha)))

theorem profileOf_badDest (hm : e.mode.toNat = m.code) (hp : e.peakWarn ≤ e.peakFail) (ha : e.meanWarn ≤ e.meanFail)
    (hd : 1 < e.dest.toNat) : profileOf e = .error 7 := by
  rw [profileOf_codes hm hp ha, marginalDestOf_none hd]

theorem profileOf_badPrint {d : MarginalDest} (hm : e.mode.toNat = m.code) (hp : e.peakWarn ≤ e.peakFail)
    (ha : e.meanWarn ≤ e.meanFail) (hd : e.dest.toNat = d.code)
    (hq : 1 < e.printMarginal.toNat ∨ (e.printMarginal = 1 ∧ e.dest = 1)) : profileOf e = .error 8 := by
  rw [profileOf_codes hm hp ha, marginalDestOf_code hd]
  rcases hq with hq | ⟨hq, h1⟩
  · rw [yesNoOf_none hq]
  · have hrej : d = .reject := by
      rw [h1] at hd; cases d
      · exact absurd hd (by decide)
      · rfl
    rw [hq, hrej]; rfl

theorem profileOf_taken {d : MarginalDest} {p : Bool} (hm : e.mode.toNat = m.code) (hp : e.peakWarn ≤ e.peakFail)
    (ha : e.meanWarn ≤ e.meanFail) (hd : e.dest.toNat = d.code) (hq : e.printMarginal.toNat = p.toNat)
    (hdp : p = true → d = .o1) : profileOf e = .ok {
      loaded := true, mode := m, stride := max 2 (min 64 e.stride.toNat), weight := e.weight.toNat
      peakWarn := e.peakWarn.toNat, peakFail := e.peakFail.toNat, meanWarn := e.meanWarn.toNat
      meanFail := e.meanFail.toNat, dest := d, printMarginal := p } := by
  rw [profileOf_codes hm hp ha, marginalDestOf_code hd, yesNoOf_code hq]
  exact if_neg fun ⟨hpt, hr⟩ => by rw [hdp hpt] at hr; cases hr

end

/-- Every element of a row is the element at a number. -/
theorem exists_nth_of_mem {v : Vector α n} {x : α} (hx : x ∈ v.toList) : ∃ i, nth v i = x := by
  obtain ⟨i, hi, rfl⟩ := Vector.mem_iff_getElem.mp (Vector.mem_toList_iff.mp hx)
  exact ⟨⟨i, hi⟩, rfl⟩

/-- LOAD PROFILE of a profile that no job in production names: its entry decides (R15). -/
theorem loadProfile_free {b : Byte} {g : ProfileId} {s : State} (hb : b.toNat = g.val)
    (hfree : ∀ j, (s.job j).profile = g → (s.job j).state = .closed ∨ (s.job j).state = .opened) (e : ProfileEntry) :
    loadProfile b e s = match profileOf e with
      | .error i => s.refuse (.invalid i)
      | .ok x => State.accept { s with profiles := upd s.profiles g x } := by
  have hany : ¬ (s.jobs.toList.any fun x => x.state.inProduction && decide (x.profile = g)) = true := fun hc => by
    obtain ⟨x, hx, hprod⟩ := List.any_eq_true.mp hc
    obtain ⟨j, rfl⟩ := exists_nth_of_mem hx
    simp only [Bool.and_eq_true, decide_eq_true_eq] at hprod
    rcases hfree j hprod.2 with h | h <;> simp [State.job] at h <;> simp [h, JobState.inProduction] at hprod
  rw [loadProfile, numbered_eq hb]
  exact if_neg hany

/-- Settles O26: the first failing extent of LOAD MAP, or the first failing field of LOAD PROFILE, gives the index; a list
or an entry with none replaces what was there. -/
theorem mapAndProfileAreLoaded : Obligations.MapAndProfileAreLoaded := by
  refine ⟨fun h b es s j ht hl hj hs => ?_, fun h b e s g ht hl hb hfree => ?_⟩
  · simp only [← failsAt_iff]
    have refused {i : Nat} (hr : mapRefusal es = some i) :=
      exec_refused (c := .loadMap h b es) ht hl rfl rfl (loadMap_refused (s := s.countGood) hj hs hr)
    refine ⟨fun i hi hlt => refused (mapRefusal_extent hi hlt), fun hn h64 => refused ?_, fun hn h64 hst => refused ?_,
      fun hn h64 hst => exec_posted (c := .loadMap h b es) ht hl rfl (loadMap_taken (s := s.countGood) hj hs ?_)⟩
    · rw [mapRefusal_passed hn, if_pos h64]
    · rw [mapRefusal_passed hn, if_neg (by omega), if_neg fun ⟨x, hx, hk⟩ => hst x hx hk]
    · rw [mapRefusal_passed hn, if_neg (by omega), if_pos hst]
  · have work := loadProfile_free (s := s.countGood) hb hfree e
    have refused {i : Nat} (hp : profileOf e = .error i) :=
      exec_refused (c := .loadProfile h b e) ht hl rfl rfl (work.trans (by rw [hp]))
    refine ⟨fun m d p hm hp ha hd hq hdp => exec_posted (c := .loadProfile h b e) ht hl rfl
        (work.trans (by rw [profileOf_taken hm hp ha hd hq hdp]; rfl)),
      fun hm => refused (profileOf_badMode hm), fun hm hp => ?_, fun hm hp ha => ?_, fun hm hp ha hd => ?_,
      fun hm hp ha hd hq => ?_⟩ <;> obtain ⟨m, hm⟩ := verifyMode_of_le hm
    · exact refused (profileOf_badPeak hm hp)
    · exact refused (profileOf_badMean hm hp ha)
    · exact refused (profileOf_badDest hm hp ha hd)
    · obtain ⟨d, hd⟩ := marginalDest_of_le hd
      exact refused (profileOf_badPrint hm hp ha hd hq)

end Sys2Proof.Machine

namespace Sys2Proof.Machine

/-! ## Folds over numbered things -/

theorem numbers_eq_finRange (n : Nat) : numbers n = List.finRange n := by
  rw [numbers, ← List.map_coe_finRange_eq_range, List.filterMap_map]
  simp

theorem numbers_nodup (n : Nat) : (numbers n).Nodup := numbers_eq_finRange n ▸ List.nodup_finRange n

section
variable {σ α β : Type} {f : σ → α → σ} {obs : σ → α → β} {R : σ → σ → Prop}

/-- What relates a state to itself, and every step's result to the step's state, relates the ends of a fold. -/
theorem foldl_rel (refl : ∀ s, R s s) (trans : ∀ {s t u}, R s t → R t u → R s u) (step : ∀ s a, R s (f s a))
    (l : List α) : ∀ s, R s (l.foldl f s) := by
  induction l with
  | nil => exact refl
  | cons a l ih => exact fun s => trans (step s a) (ih _)

/-- What steps at other numbers leave, a fold that does not visit a number leaves there. -/
theorem foldl_unvisited (other : ∀ s a b, b ≠ a → obs (f s a) b = obs s b) {b : α} :
    ∀ {l : List α}, b ∉ l → ∀ s, obs (l.foldl f s) b = obs s b := by
  intro l
  induction l with
  | nil => exact fun _ _ => rfl
  | cons a l ih =>
    intro hb s
    obtain ⟨hab, hl⟩ := not_or.mp (fun hc => hb (List.mem_cons.mpr hc))
    exact (ih hl _).trans (other s a b hab)

/-- A fold visits a number once: the visit finds there what the fold found, and the fold leaves there what the visit did. -/
theorem foldl_visit (refl : ∀ s, R s s) (trans : ∀ {s t u}, R s t → R t u → R s u) (step : ∀ s a, R s (f s a))
    (other : ∀ s a b, b ≠ a → obs (f s a) b = obs s b) {b : α} : ∀ {l : List α}, l.Nodup → b ∈ l → ∀ s, ∃ t, R s t ∧
      obs t b = obs s b ∧ R (f t b) (l.foldl f s) ∧ obs (l.foldl f s) b = obs (f t b) b := by
  intro l
  induction l with
  | nil => intro _ hb; cases hb
  | cons a l ih =>
    intro hl hb s
    obtain ⟨hal, hl⟩ := List.nodup_cons.mp hl
    by_cases hab : b = a
    · subst hab
      exact ⟨s, refl s, rfl, foldl_rel refl trans step l _, foldl_unvisited other hal _⟩
    · obtain ⟨t, hst, hobs, hend, hres⟩ := ih hl ((List.mem_cons.mp hb).resolve_left hab) (f s a)
      exact ⟨t, trans (step s a) hst, hobs.trans (other s a b hab), hend, hres⟩

end

/-! ## ASSIGN PORT (R17) -/

section
variable {b k : Byte} {p : PortId} {s : State}

/-- Nothing at the tray, no wave and no granted FEED move: nothing holds the port (R17, log 46). -/
theorem assignBusy_free (hd : s.disc (.tray p) = none) (hw : s.waveOf p = none)
    (hm : ∀ m, s.transport.move = some m → ∀ j, m.req.kind ≠ .feed p j) : s.assignBusy p = false := by
  have hg : s.granted (ReqKind.isFeedFor p) = false := by
    cases hmv : s.transport.move with
    | none => simp [State.granted, hmv]
    | some m =>
      have hk := hm m hmv
      cases hk' : m.req.kind <;> simp_all [State.granted, ReqKind.isFeedFor]
  simp [State.assignBusy, hd, hw, hg]

theorem jobOrNone_code {j : Option JobId} (hk : (∃ i, j = some i ∧ k.toNat = i.val) ∨ (j = none ∧ k.toNat = 255)) :
    jobOrNone k = some j := by
  rcases hk with ⟨i, rfl, hi⟩ | ⟨rfl, hn⟩
  · rw [jobOrNone, numbered_eq hi]
  · rw [jobOrNone, numbered_none (by omega)]; exact if_pos hn

theorem jobOrNone_bad (h4 : 4 ≤ k.toNat) (hn : k.toNat ≠ 255) : jobOrNone k = none := by
  rw [jobOrNone, numbered_none h4]; exact if_neg hn

theorem assignPort_taken {j : Option JobId} (hb : b.toNat = p.val) (hfree : s.assignBusy p = false)
    (hk : jobOrNone k = some j) : assignPort b k s = State.accept (if s.assigned p = j then s else { s with
      assign := upd s.assign p j
      transport := { s.transport with queue := s.transport.queue.filter fun r => !r.kind.isFeedFor p } }) := by
  rw [assignPort, numbered_eq hb]
  refine (if_neg (by simp [hfree])).trans ?_
  rw [hk]
  by_cases hj : s.assigned p = j
  · simp only [if_pos hj]
  · simp only [if_neg hj]; rfl

theorem assignPort_badJob (hb : b.toNat = p.val) (hfree : s.assignBusy p = false) (hk : jobOrNone k = none) :
    assignPort b k s = s.refuse (.invalid 1) := by
  rw [assignPort, numbered_eq hb]
  refine (if_neg (by simp [hfree])).trans ?_
  rw [hk]

end

/-- Settles O27: with nothing holding the port, the job's code decides. -/
theorem assignPortWritesEntry : Obligations.AssignPortWritesEntry := fun h b k s _ ht hl hb hd hw hm =>
  have hfree := assignBusy_free (s := s.countGood) hd hw hm
  ⟨fun _ hk => exec_settled (c := .assignPort h b k) ht hl rfl (assignPort_taken hb hfree (jobOrNone_code hk)),
    fun h4 hn => exec_refused ht hl rfl rfl (assignPort_badJob hb hfree (jobOrNone_bad h4 hn))⟩

/-! ## LOAD TIMING (R18, R19) -/

/-- Only the ports may differ. -/
def onlyPorts (s t : State) : Prop := t = { s with ports := t.ports }

theorem onlyPorts_trans {s t u : State} (h : onlyPorts s t) (g : onlyPorts t u) : onlyPorts s u := by
  unfold onlyPorts at *; rw [g, h]

theorem sleepPort_only (s : State) (p : PortId) : onlyPorts s (s.sleepPort p) := by
  unfold State.sleepPort; split <;> rfl

theorem sleepPort_other (s : State) (p q : PortId) (hq : q ≠ p) : (s.sleepPort p).port q = s.port q := by
  unfold State.sleepPort
  split
  · exact (port_modPort s p q _).trans (if_neg hq)
  · rfl

theorem sleepPort_self (s : State) (p : PortId) :
    (s.sleepPort p).port p = if s.sleepDue p then (s.port p).issue s.now s.timing .sleep 0 else s.port p := by
  unfold State.sleepPort
  split
  · exact port_modPort_self s p _
  · rfl

/-- R19, R77: sleep is due at an IDLE port with no command once its idle time has reached an interval that is not 0. -/
theorem sleepDue_iff {s : State} {p : PortId} : s.sleepDue p = true ↔ (s.port p).state = .idle ∧
    (s.port p).cmd = none ∧ (s.port p).afterReset = none ∧ s.timing.standby ≠ 0 ∧
    15000 * s.timing.standby ≤ s.now - (s.port p).idleSince := by
  simp only [State.sleepDue, Port.busy, Bool.and_eq_true, decide_eq_true_eq, Bool.not_eq_true', Bool.or_eq_false_iff,
    Option.isSome_eq_false_iff, Option.isNone_iff_eq_none, and_assoc]
  refine and_congr_right fun hi => ?_
  simp [Port.idleTime, hi]

/-- What a pass over the ports leaves at each: its sleep where it is due. -/
theorem sleepPorts_port (s : State) (p : PortId) : ((numbers 16).foldl State.sleepPort s).port p =
    if s.sleepDue p then (s.port p).issue s.now s.timing .sleep 0 else s.port p := by
  obtain ⟨t, hst, hp, -, hres⟩ := foldl_visit (R := onlyPorts) (obs := State.port) (fun _ => rfl) onlyPorts_trans
    sleepPort_only sleepPort_other (numbers_nodup 16) (mem_numbers p) s
  have hdue : t.sleepDue p = s.sleepDue p := by
    rw [Bool.eq_iff_iff, sleepDue_iff, sleepDue_iff, hp, hst]
  rw [hres, sleepPort_self, hdue, hp, hst]

/-- Settles O28: the table is written, then each port is judged by it, no port's sleep touching another's. -/
theorem loadTimingClamps : Obligations.LoadTimingClamps := by
  intro h e s ht hl
  have hu : onlyPorts { s.countGood with timing := timingOf e }
      ((numbers 16).foldl State.sleepPort { s.countGood with timing := timingOf e }) :=
    foldl_rel (R := onlyPorts) (fun _ => rfl) onlyPorts_trans sleepPort_only _ _
  refine ⟨_, exec_settled (c := .loadTiming h e) ht hl rfl rfl, ?_, ?_, fun p => ?_⟩
  · rw [hu]; rfl
  · rw [hu]; rfl
  · have htiming : ((numbers 16).foldl State.sleepPort { s.countGood with timing := timingOf e }).timing = timingOf e := by
      rw [hu]
    rw [htiming, sleepPorts_port]
    have hz : (timingOf e).standby ≠ 0 ↔ e.standby ≠ 0 := by
      simp only [timingOf]; bv_omega
    simp only [sleepDue_iff, hz]
    rfl

end Sys2Proof.Machine

namespace Sys2Proof.Machine

/-! ## Folds whose visits find what the fold found -/

section
variable {σ α β γ : Type} {f : σ → α → σ} {obs : σ → α → β} {val : σ → γ}

/-- A value that no visit changes, each visit finding at its number what the fold found, is unchanged by the fold. -/
theorem foldl_keeps (other : ∀ s a b, b ≠ a → obs (f s a) b = obs s b) (s : σ) {l : List α} (hl : l.Nodup)
    (keeps : ∀ t a, a ∈ l → obs t a = obs s a → val t = val s → val (f t a) = val s) :
    val (l.foldl f s) = val s := by
  suffices h : ∀ (l : List α) (t : σ), l.Nodup → (∀ a ∈ l, obs t a = obs s a) → val t = val s →
      (∀ t a, a ∈ l → obs t a = obs s a → val t = val s → val (f t a) = val s) → val (l.foldl f t) = val s from
    h l s hl (fun _ _ => rfl) rfl keeps
  intro l
  induction l with
  | nil => exact fun _ _ _ hv _ => hv
  | cons a l ih =>
    intro t hl hobs hv keeps
    obtain ⟨hal, hl⟩ := List.nodup_cons.mp hl
    refine ih (f t a) hl (fun b hb => ?_) (keeps t a (by simp) (hobs a (by simp)) hv)
      fun t b hb => keeps t b (List.mem_cons_of_mem a hb)
    have hba : b ≠ a := fun e => hal (e ▸ hb)
    exact (other t a b hba).trans (hobs b (List.mem_cons_of_mem a hb))

theorem foldl_fixedPoint {s : σ} {l : List α} (h : ∀ a ∈ l, f s a = s) : l.foldl f s = s := by
  induction l with
  | nil => rfl
  | cons a l ih => rw [List.foldl_cons, h a (by simp)]; exact ih fun b hb => h b (List.mem_cons_of_mem a hb)

end

/-- The numbers before a number, and those after it. -/
theorem numbers_split {n : Nat} (p : Fin n) : ∃ before after, numbers n = before ++ p :: after ∧ ∀ k ∈ before, k < p := by
  obtain ⟨before, after, h⟩ := List.append_of_mem (mem_numbers p)
  refine ⟨before, after, h, fun k hk => ?_⟩
  have hs : (numbers n).Pairwise (· < ·) := numbers_eq_finRange n ▸ List.pairwise_lt_finRange n
  rw [h, List.pairwise_append] at hs
  exact hs.2.2 k hk p (by simp)

/-! ## What stands at a port -/

/-- What stands at a port: its context, the record at its tray, its verify context. -/
structure Bay where
  port : Port
  disc : Option Disc
  verify : Option Verify

def State.bay (s : State) (p : PortId) : Bay := ⟨s.port p, s.disc (.tray p), s.verify p⟩

/-- DONE with no errand and no recovery, as `State.goDone` leaves a port (R81, R139). -/
def Port.retired (now : Nat) (q : Port) : Port := { q.goto now .done with errand := .none, step := .none }

@[simp] theorem retired_state (now : Nat) (q : Port) : (q.retired now).state = .done := rfl
@[simp] theorem retired_errand (now : Nat) (q : Port) : (q.retired now).errand = .none := rfl

section
variable (s : State) (p q : PortId)

@[simp] theorem bay_port : (s.bay p).port = s.port p := rfl
@[simp] theorem bay_disc : (s.bay p).disc = s.disc (.tray p) := rfl
@[simp] theorem bay_verify : (s.bay p).verify = s.verify p := rfl
@[simp] theorem bay_modPass (j : JobId) (f : Pass → Pass) : (s.modPass j f).bay p = s.bay p := rfl
@[simp] theorem bay_setPass (j : JobId) (x : Option Pass) : (s.setPass j x).bay p = s.bay p := rfl
@[simp] theorem bay_modJob (j : JobId) (f : Job → Job) : (s.modJob j f).bay p = s.bay p := rfl
@[simp] theorem bay_raise (x : Notice) : (s.raise x).bay p = s.bay p := rfl
@[simp] theorem bay_withdraw (x : Notice) : (s.withdraw x).bay p = s.bay p := rfl

@[simp] theorem bay_modPort_self (f : Port → Port) :
    (s.modPort p f).bay p = { s.bay p with port := f (s.port p) } := by
  simp only [State.bay, port_modPort_self]; rfl

@[simp] theorem bay_modDisc_self (f : Disc → Disc) :
    (s.modDisc (.tray p) f).bay p = { s.bay p with disc := (s.disc (.tray p)).map f } := by
  simp only [State.bay, disc_modDisc_self]; rfl

@[simp] theorem bay_setVerify_self (x : Option Verify) : (s.setVerify p x).bay p = { s.bay p with verify := x } := by
  simp only [State.bay, verify_setVerify_self]; rfl

@[simp] theorem bay_goDone_self : (s.goDone p).bay p = { s.bay p with port := (s.port p).retired s.now } :=
  bay_modPort_self s p _

variable {p q} (h : q ≠ p)
include h

theorem bay_modPort_ne (f : Port → Port) : (s.modPort p f).bay q = s.bay q := by
  simp only [State.bay, port_modPort, if_neg h]; rfl

theorem bay_modDisc_ne (f : Disc → Disc) : (s.modDisc (.tray p) f).bay q = s.bay q := by
  simp only [State.bay, disc_modDisc, Place.tray.injEq, if_neg h]; rfl

theorem bay_setVerify_ne (x : Option Verify) : (s.setVerify p x).bay q = s.bay q := by
  have hv : (s.setVerify p x).verify q = s.verify q := nth_upd_ne _ _ h
  simp only [State.bay, hv]; rfl

theorem bay_goDone_ne : (s.goDone p).bay q = s.bay q := bay_modPort_ne s h _

end

/-! ## Work at the ports -/

/-- `b` is the fault record `a` with later faults counted, if `a` is valid (R178). -/
def FaultGrows (a b : Option FaultRecord) : Prop := ∀ r, a = some r → ∃ n, b = some { r with further := n }

theorem faultGrows_refl (a : Option FaultRecord) : FaultGrows a a := fun r h => ⟨r.further, h⟩

theorem faultGrows_trans {a b c : Option FaultRecord} (h : FaultGrows a b) (g : FaultGrows b c) : FaultGrows a c := by
  intro r hr
  obtain ⟨n, hn⟩ := h r hr
  obtain ⟨m, hm⟩ := g _ hn
  exact ⟨m, hm⟩

theorem faultGrows_take (a : Option FaultRecord) (x : FaultRecord) : FaultGrows a (FaultRecord.take a x) := by
  rintro r rfl
  exact ⟨_, rfl⟩

/-- What taking members and discs down at the ports leaves alone: records elsewhere than at a tray, jobs but for their
fault records, which only take faults, and all but jobs, passes, ports, places and verify contexts. -/
structure PortWork (s t : State) : Prop where
  frame : t = { s with
    jobs := t.jobs, passes := t.passes, ports := t.ports, places := t.places, verifies := t.verifies }
  disc : ∀ q, (∀ p, q ≠ .tray p) → t.disc q = s.disc q
  job : ∀ k, t.job k = { s.job k with fault := (t.job k).fault }
  fault : ∀ k, FaultGrows (s.job k).fault (t.job k).fault

theorem PortWork.refl (s : State) : PortWork s s := ⟨rfl, fun _ _ => rfl, fun _ => rfl, fun _ => faultGrows_refl _⟩

theorem PortWork.trans {s t u : State} (h : PortWork s t) (g : PortWork t u) : PortWork s u where
  frame := by rw [g.frame, h.frame]
  disc q hq := (g.disc q hq).trans (h.disc q hq)
  job k := by rw [g.job k, h.job k]
  fault k := faultGrows_trans (h.fault k) (g.fault k)

section
variable {s t : State} (h : PortWork s t)
include h

theorem PortWork.now : t.now = s.now := by rw [h.frame]
theorem PortWork.timing : t.timing = s.timing := by rw [h.frame]
theorem PortWork.assigned (p : PortId) : t.assigned p = s.assigned p := by rw [h.frame]; rfl
theorem PortWork.notices : t.notices = s.notices := by rw [h.frame]
theorem PortWork.state (k : JobId) : (t.job k).state = (s.job k).state := by rw [h.job k]

end

section
variable (s : State) (p : PortId)

theorem modPort_work (f : Port → Port) : PortWork s (s.modPort p f) :=
  ⟨rfl, fun _ _ => rfl, fun _ => rfl, fun _ => faultGrows_refl _⟩

theorem goDone_work : PortWork s (s.goDone p) := modPort_work s p _

theorem modPass_work (j : JobId) (f : Pass → Pass) : PortWork s (s.modPass j f) :=
  ⟨rfl, fun _ _ => rfl, fun _ => rfl, fun _ => faultGrows_refl _⟩

theorem setVerify_work (x : Option Verify) : PortWork s (s.setVerify p x) :=
  ⟨rfl, fun _ _ => rfl, fun _ => rfl, fun _ => faultGrows_refl _⟩

theorem modDisc_work (f : Disc → Disc) : PortWork s (s.modDisc (.tray p) f) :=
  ⟨rfl, fun q hq => (disc_modDisc s (.tray p) q f).trans (if_neg (hq p)), fun _ => rfl, fun _ => faultGrows_refl _⟩

theorem faultOf_work (j : JobId) (c : FaultCause) (n : Option Half) (o : Option PortId) (l : Option Nat)
    (g : Option Half) : PortWork s (s.faultOf j c n o l g) where
  frame := rfl
  disc _ _ := rfl
  job k := by
    rw [State.faultOf, job_modJob]
    by_cases e : k = j
    · rw [if_pos e, e]
    · rw [if_neg e]
  fault k := by
    rw [State.faultOf, job_modJob]
    by_cases e : k = j
    · rw [if_pos e, e]; exact faultGrows_take _ _
    · rw [if_neg e]; exact faultGrows_refl _

theorem giveUpBlank_work : PortWork s (s.giveUpBlank p) := (modDisc_work s p _).trans (goDone_work _ p)

end

/-- Every block that hands a disc's failure on has one of two effects: a fault of the disc's job, or none (R93). -/
theorem handFault_cases (s : State) (p : PortId) (c : FaultCause) (l : Option Nat) :
    (∃ d j, s.disc (.tray p) = some d ∧ d.job = some j ∧
      s.handFault p c l = s.faultOf j c d.pass (some p) l (some d.tag)) ∨ s.handFault p c l = s := by
  unfold State.handFault
  cases hd : s.disc (.tray p) with
  | none => exact .inr rfl
  | some d =>
    cases hj : d.job with
    | none => simp [hj]
    | some j => exact .inl ⟨d, j, rfl, hj, by simp [hj]⟩

theorem handFault_work (s : State) (p : PortId) (c : FaultCause) (l : Option Nat) : PortWork s (s.handFault p c l) := by
  rcases handFault_cases s p c l with ⟨d, j, -, -, e⟩ | e
  · rw [e]; exact faultOf_work s j c _ _ l _
  · rw [e]; exact PortWork.refl s

@[simp] theorem handFault_bay (s : State) (p q : PortId) (c : FaultCause) (l : Option Nat) :
    (s.handFault p c l).bay q = s.bay q := by
  rcases handFault_cases s p c l with ⟨d, j, -, -, e⟩ | e <;> rw [e]
  rfl

/-- A disc of another job, or none, hands nothing to a job's fault record. -/
theorem handFault_otherJob {s : State} {p : PortId} {j k : JobId} (hk : k ≠ j)
    (hd : ∀ d, s.disc (.tray p) = some d → d.job = some j) (c : FaultCause) (l : Option Nat) :
    (s.handFault p c l).job k = s.job k := by
  rcases handFault_cases s p c l with ⟨d, i, hdi, hi, e⟩ | e <;> rw [e]
  have hij : i = j := Option.some.inj (hi.symm.trans (hd d hdi))
  rw [State.faultOf, job_modJob, if_neg (hij ▸ hk)]

/-- A disc of the job fills the job's fault record that is not valid (R93, R178). -/
theorem handFault_fills {s : State} {p : PortId} {d : Disc} {j : JobId} (hd : s.disc (.tray p) = some d)
    (hj : d.job = some j) (hf : (s.job j).fault = none) (c : FaultCause) (l : Option Nat) :
    ((s.handFault p c l).job j).fault = some ⟨c, d.pass, some p, l, some d.tag, 0⟩ := by
  rw [State.handFault, hd]; simp only [hj]; exact faultOf_fresh hf c _ _ l _

/-! ## Giving up blanks (R6, R8) -/

theorem giveUpBlank_bay_self (s : State) (p : PortId) : (s.giveUpBlank p).bay p = { s.bay p with
    port := (s.port p).retired s.now, disc := (s.disc (.tray p)).map fun d => { d with state := .returning } } := by
  simp only [State.giveUpBlank, bay_goDone_self, bay_modDisc_self]; rfl

theorem giveUpBlank_bay_ne (s : State) {p q : PortId} (h : q ≠ p) : (s.giveUpBlank p).bay q = s.bay q :=
  (bay_goDone_ne _ h).trans (bay_modDisc_ne s h _)

/-- One port of `State.giveUpBlanks`. -/
def State.giveUpAt (j : JobId) (s : State) (p : PortId) : State :=
  if s.assigned p = some j ∧ (s.port p).state = .loaded then s.giveUpBlank p else s

theorem giveUpBlanks_eq (s : State) (j : JobId) : s.giveUpBlanks j = (numbers 16).foldl (State.giveUpAt j) s := rfl

theorem giveUpAt_work (j : JobId) (s : State) (p : PortId) : PortWork s (s.giveUpAt j p) := by
  unfold State.giveUpAt
  split
  · exact giveUpBlank_work s p
  · exact PortWork.refl s

theorem giveUpAt_bay_ne (j : JobId) (s : State) (p q : PortId) (h : q ≠ p) : (s.giveUpAt j p).bay q = s.bay q := by
  unfold State.giveUpAt
  split
  · exact giveUpBlank_bay_ne s h
  · rfl

theorem giveUpBlanks_work (s : State) (j : JobId) : PortWork s (s.giveUpBlanks j) :=
  foldl_rel PortWork.refl PortWork.trans (giveUpAt_work j) _ s

/-- What giving up blanks leaves at each port: a LOADED port of the job is DONE, its record RETURNING (R6). -/
theorem giveUpBlanks_bay (s : State) (j : JobId) (p : PortId) : (s.giveUpBlanks j).bay p =
    if s.assigned p = some j ∧ (s.port p).state = .loaded then { s.bay p with
      port := (s.port p).retired s.now, disc := (s.disc (.tray p)).map fun d => { d with state := .returning } }
    else s.bay p := by
  obtain ⟨t, hst, hobs, -, hres⟩ := foldl_visit (obs := State.bay) PortWork.refl PortWork.trans (giveUpAt_work j)
    (giveUpAt_bay_ne j) (numbers_nodup 16) (mem_numbers p) s
  have hport : t.port p = s.port p := congrArg Bay.port hobs
  have hdisc : t.disc (.tray p) = s.disc (.tray p) := congrArg Bay.disc hobs
  rw [giveUpBlanks_eq, hres, State.giveUpAt, hst.assigned, hport]
  split
  · rw [giveUpBlank_bay_self, hobs, hport, hdisc, hst.now]
  · exact hobs

/-- Only ports and places may differ. -/
def onlyTrays (s t : State) : Prop := t = { s with ports := t.ports, places := t.places }

theorem onlyTrays_trans {s t u : State} (h : onlyTrays s t) (g : onlyTrays t u) : onlyTrays s u := by
  unfold onlyTrays at *; rw [g, h]

theorem giveUpAt_only (j : JobId) (s : State) (p : PortId) : onlyTrays s (s.giveUpAt j p) := by
  unfold State.giveUpAt; split <;> rfl

/-- Giving up blanks touches neither jobs nor passes nor verify contexts. -/
theorem giveUpBlanks_only (s : State) (j : JobId) : onlyTrays s (s.giveUpBlanks j) :=
  foldl_rel (R := onlyTrays) (fun _ => rfl) onlyTrays_trans (giveUpAt_only j) _ s

/-! ## JOB DRAIN (R5, R6) -/

theorem drainJob_taken {b : Byte} {j : JobId} {s : State} (hj : b.toNat = j.val) (hs : (s.job j).state = .running) :
    drainJob b s = State.accept (s.enterDraining j) := by
  rw [drainJob, withJob_eq hj, hs]

/-- JOB DRAIN's own work: the job's state, then its ports, then the withdrawal (R6). -/
theorem enterDraining_spec (s : State) (j : JobId) : ∃ t, s.enterDraining j = t.withdraw (.waveReady j) ∧
    onlyTrays (s.modJob j fun x => { x with state := .draining }) t ∧
    (∀ q, (∀ p, q ≠ .tray p) → t.disc q = s.disc q) ∧
    ∀ p, t.bay p = if s.assigned p = some j ∧ (s.port p).state = .loaded then { s.bay p with
        port := (s.port p).retired s.now, disc := (s.disc (.tray p)).map fun d => { d with state := .returning } }
      else s.bay p :=
  ⟨_, rfl, giveUpBlanks_only _ j, (giveUpBlanks_work _ j).disc, giveUpBlanks_bay _ j⟩

/-- Settles O24: the ports are visited in turn, each visit touching its own port alone. -/
theorem jobDrainGivesUpBlanks : Obligations.JobDrainGivesUpBlanks := by
  intro h b s j ht hl hj hs
  obtain ⟨t, hdrain, hframe, hdisc, hbay⟩ := enterDraining_spec s.countGood j
  refine ⟨t.withdraw (.waveReady j), ?_, ?_, ?_, fun p ha hp => ?_, fun p hno => ?_, hdisc, ?_⟩
  · rw [← hdrain]
    exact exec_settled (c := .jobDrain h b) ht hl rfl (drainJob_taken (s := s.countGood) hj hs)
  · rw [hframe]; rfl
  · rw [hframe]; rfl
  · have hb := (hbay p).trans (if_pos ⟨ha, hp⟩)
    have hport : t.port p = (s.port p).retired s.now := congrArg Bay.port hb
    exact ⟨congrArg Port.state hport, congrArg Port.errand hport, congrArg Bay.disc hb⟩
  · have hb := (hbay p).trans (if_neg fun hc => hno.elim (· hc.1) (· hc.2))
    exact ⟨congrArg Bay.port hb, congrArg Bay.disc hb⟩
  · rw [hframe]; rfl

end Sys2Proof.Machine

namespace Sys2Proof.Machine

/-! ## Live entries of a wave (R47, R48) -/

theorem live_iff {m : Member} : m.live = true ↔ m.status = .armed ∨ m.status = .writing := by
  simp [Member.live]

theorem live_writing {m : Member} (h : m.status = .writing) : m.live = true := live_iff.mpr (.inr h)

theorem live_armed {m : Member} (h : m.status = .armed) : m.live = true := live_iff.mpr (.inl h)

theorem any_live_eq_false {w : List Member} :
    w.any Member.live = false ↔ ∀ m ∈ w, m.status ≠ .armed ∧ m.status ≠ .writing := by
  simp only [List.any_eq_false, live_iff, not_or, ne_eq]

theorem any_live_eq_true {w : List Member} :
    w.any Member.live = true ↔ ∃ m ∈ w, m.status = .armed ∨ m.status = .writing := by
  simp only [List.any_eq_true, live_iff]

section
variable {x : Pass} {n : PortId} {m : Member}

theorem member_none_iff : x.member n = none ↔ ∀ m ∈ x.wave, m.port = n → m.live = false := by
  simp [Pass.member, List.find?_eq_none]

theorem member_some (hm : x.member n = some m) : m ∈ x.wave ∧ m.port = n ∧ m.live = true := by
  have h := List.find?_some hm
  simp only [Bool.and_eq_true, decide_eq_true_eq] at h
  exact ⟨List.mem_of_find?_eq_some hm, h⟩

/-- A wave in order has one live entry of a port, at one place. -/
theorem wave_split (hw : x.wave.Pairwise Member.before) (hm : x.member n = some m) : ∃ before after,
    x.wave = before ++ m :: after ∧ ∀ k ∈ before ++ after, ¬ (k.port = n ∧ k.live = true) := by
  obtain ⟨-, before, after, hwave, hbefore⟩ := List.find?_eq_some_iff_append.mp hm
  obtain ⟨-, hport, hlive⟩ := member_some hm
  refine ⟨before, after, hwave, fun k hk hc => ?_⟩
  rcases List.mem_append.mp hk with hk | hk
  · have := hbefore k hk
    simp [hc.1, hc.2] at this
  · rw [hwave, List.pairwise_append, List.pairwise_cons] at hw
    rcases hw.2.1.1 k hk with hlt | ⟨-, hdead⟩
    · exact absurd (hport.trans hc.1.symm) (ne_of_lt hlt)
    · rw [hlive] at hdead; cases hdead

/-- In a wave in order the live entry of a port is the member found for it. -/
theorem live_at_port_iff (hw : x.wave.Pairwise Member.before) (hm : x.member n = some m) {k : Member}
    (hk : k ∈ x.wave) : (k.port = n ∧ k.live = true) ↔ k = m := by
  constructor
  · intro hc
    obtain ⟨before, after, hwave, hother⟩ := wave_split hw hm
    rw [hwave, List.mem_append, List.mem_cons] at hk
    rcases hk with hk | hk | hk
    · exact absurd hc (hother k (by simp [hk]))
    · exact hk
    · exact absurd hc (hother k (by simp [hk]))
  · rintro rfl; exact (member_some hm).2

/-- Rewriting a port's live entries rewrites its member. -/
theorem mapMember_wave (hw : x.wave.Pairwise Member.before) (hm : x.member n = some m) (f : Member → Member) :
    (x.mapMember n f).wave = x.wave.map fun k => if k = m then f k else k := by
  refine List.map_congr_left fun k hk => if_congr ?_ rfl rfl
  rw [← live_at_port_iff hw hm hk]; simp

/-- A live entry of a wave in order is the member of its port. -/
theorem member_of_live (hw : x.wave.Pairwise Member.before) (hm : m ∈ x.wave) (hl : m.live = true) :
    x.member m.port = some m := by
  cases hk : x.member m.port with
  | none => rw [member_none_iff.mp hk m hm rfl] at hl; cases hl
  | some k => exact congrArg some ((live_at_port_iff hw hk hm).mp ⟨rfl, hl⟩).symm

/-- No entry of a port is live: rewriting its live entries changes nothing. -/
theorem mapMember_none (hm : x.member n = none) (f : Member → Member) : x.mapMember n f = x := by
  have : (x.wave.map fun m => if m.port = n && m.live then f m else m) = x.wave := by
    refine (List.map_congr_left fun k hk => ?_).trans (List.map_id _)
    refine if_neg fun hc => ?_
    simp only [Bool.and_eq_true, decide_eq_true_eq] at hc
    rw [member_none_iff.mp hm k hk hc.1] at hc
    cases hc.2
  rw [Pass.mapMember, this]

/-- Rewriting the live entries of one port leaves another port's member. -/
theorem member_mapMember_ne {p : PortId} (h : p ≠ n) (f : Member → Member) (hf : ∀ m, (f m).port = m.port) :
    (x.mapMember n f).member p = x.member p := by
  simp only [Pass.member, Pass.mapMember, List.find?_map]
  have hpred : ((fun m : Member => decide (m.port = p) && m.live) ∘ fun m => if m.port = n && m.live then f m else m) =
      fun m => decide (m.port = p) && m.live := by
    funext k
    by_cases hk : (k.port = n && k.live) = true
    · simp only [Bool.and_eq_true, decide_eq_true_eq] at hk
      simp [hk.1, hk.2, hf, h.symm]
    · simp only [Function.comp, if_neg hk]
  rw [hpred]
  cases hfind : x.wave.find? fun m => decide (m.port = p) && m.live with
  | none => rfl
  | some k =>
    have hkp := (member_some (x := x) hfind).2.1
    simp [hkp, h]

end

/-- An entry that has left the wave with a status, its in-flight segment absent (log 57). -/
def Member.left (m : Member) (st : MemberStatus) : Member := { m with status := st, inFlight := none }

theorem leave_wave (x : Pass) (n : PortId) (st : MemberStatus) :
    (x.leave n st).wave = (x.mapMember n fun m => m.left st).wave := by
  cases st <;> rfl

theorem member_leave_ne {x : Pass} {n p : PortId} (h : p ≠ n) (st : MemberStatus) :
    (x.leave n st).member p = x.member p := by
  rw [← member_mapMember_ne (x := x) h (fun m => m.left st) fun _ => rfl]
  simp only [Pass.member, leave_wave]

/-- Rewriting entries without moving them or reviving one keeps a wave in order. -/
theorem pairwise_map_before {w : List Member} {f : Member → Member} (hp : ∀ m, (f m).port = m.port)
    (hl : ∀ m, m.live = false → (f m).live = false) (hw : w.Pairwise Member.before) :
    (w.map f).Pairwise Member.before := by
  refine List.pairwise_map.mpr (hw.imp fun {a b} hab => ?_)
  simp only [Member.before, hp]
  exact hab.imp id fun ⟨he, hd⟩ => ⟨he, hl a hd⟩

/-! ## Treating the ports of a wave one after another -/

/-- What treats each port's entries by `g`, which leaves entries that are not live, treats a wave entry by entry. -/
theorem foldl_ports_wave {h : Pass → PortId → Pass} {g : Member → Member} (hp : ∀ m, (g m).port = m.port)
    (hl : ∀ m, m.live = false → g m = m)
    (step : ∀ x n, x.wave.Pairwise Member.before → (h x n).wave = x.wave.map fun m => if m.port = n then g m else m) :
    ∀ (l : List PortId) (x : Pass), l.Nodup → x.wave.Pairwise Member.before →
      (l.foldl h x).wave = x.wave.map fun m => if m.port ∈ l then g m else m := by
  intro l
  induction l with
  | nil => intro x _ _; simp
  | cons a l ih =>
    intro x hnd hw
    obtain ⟨hal, hnd⟩ := List.nodup_cons.mp hnd
    have hw' : (h x a).wave.Pairwise Member.before := by
      rw [step x a hw]
      refine pairwise_map_before (fun m => ?_) (fun m hm => ?_) hw
      · split
        · exact hp m
        · rfl
      · split
        · rw [hl m hm]; exact hm
        · exact hm
    rw [List.foldl_cons, ih _ hnd hw', step x a hw, List.map_map]
    refine List.map_congr_left fun m _ => ?_
    by_cases hma : m.port = a
    · simp [hma, hp, hal]
    · simp [hma]

/-- The same over every port. -/
theorem foldl_numbers_wave {h : Pass → PortId → Pass} {g : Member → Member} (hp : ∀ m, (g m).port = m.port)
    (hl : ∀ m, m.live = false → g m = m)
    (step : ∀ x n, x.wave.Pairwise Member.before → (h x n).wave = x.wave.map fun m => if m.port = n then g m else m)
    {x : Pass} (hw : x.wave.Pairwise Member.before) : ((numbers 16).foldl h x).wave = x.wave.map g := by
  rw [foldl_ports_wave hp hl step _ x (numbers_nodup 16) hw]
  exact List.map_congr_left fun m _ => if_pos (mem_numbers m.port)

/-- A fold on the state whose every step maps the job's pass folds the pass. -/
theorem pass_foldl {j : JobId} {f : State → α → State} {h : Pass → α → Pass}
    (step : ∀ s a, (f s a).pass j = (s.pass j).map (h · a)) (l : List α) :
    ∀ s, (l.foldl f s).pass j = (s.pass j).map (l.foldl h ·) := by
  induction l with
  | nil => intro s; simp
  | cons a l ih => intro s; rw [List.foldl_cons, ih, step, Option.map_map]; rfl

theorem pass_modPass (s : State) (j k : JobId) (f : Pass → Pass) :
    (s.modPass j f).pass k = if k = j then (s.pass j).map f else s.pass k := pass_setPass s j k _

@[simp] theorem pass_modPass_self (s : State) (j : JobId) (f : Pass → Pass) :
    (s.modPass j f).pass j = (s.pass j).map f := pass_setPass_self s j _

end Sys2Proof.Machine

namespace Sys2Proof.Machine

/-! ## Ended commands and scrapped writers (R72, R58, R63) -/

/-- Ending a command that is not waiting for its reissue keeps it in flight, marked as ending (R72). -/
theorem endCommand_keeps {q : Port} {c : DriveCmd} (hc : q.cmd = some c) (hr : q.reissueAt = none) (now : Nat)
    (t : Timing) : (q.endCommand now t).cmd = some c ∧ (q.endCommand now t).ending = true := by
  unfold Port.endCommand
  rw [hc]
  by_cases he : q.ending = true
  · simp [he, hc]
  · simp [he, hr]

/-- The port of a disc whose writing or finishing is ended: its command ended, then DONE. -/
def Port.stopped (now : Nat) (t : Timing) (q : Port) : Port := (q.endCommand now t).retired now

theorem stopped_state (now : Nat) (t : Timing) (q : Port) : (q.stopped now t).state = .done := rfl

theorem stopped_keeps {q : Port} {c : DriveCmd} (hc : q.cmd = some c) (hr : q.reissueAt = none) (now : Nat)
    (t : Timing) : (q.stopped now t).cmd = some c ∧ (q.stopped now t).ending = true :=
  endCommand_keeps hc hr now t

/-- A writing member is taken out of its wave with a status: its write ended, its disc SCRAP at the LBA it had written
(R58, R63). -/
def State.scrapWriter (s : State) (j : JobId) (p : PortId) (st : MemberStatus) (c : FaultCause) (w : Nat) : State :=
  ((((s.modPort p (Port.endCommand s.now s.timing)).modPass j fun x => x.leave p st).modDisc (.tray p)
    fun d => d.scrap c (some w)).handFault p c (some w)).goDone p

section
variable (s : State) (j : JobId) (p : PortId) (st : MemberStatus) (c : FaultCause) (w : Nat)

theorem cutMember_eq (m : Member) : s.cutMember j m = s.scrapWriter j m.port .cut .straggler m.written := rfl

theorem scrapWriter_work : PortWork s (s.scrapWriter j p st c w) :=
  (modPort_work s p _).trans <| (modPass_work _ j _).trans <| (modDisc_work _ p _).trans <|
    (handFault_work _ p c _).trans (goDone_work _ p)

theorem scrapWriter_bay_self : (s.scrapWriter j p st c w).bay p = { s.bay p with
    port := (s.port p).stopped s.now s.timing, disc := (s.disc (.tray p)).map fun d => d.scrap c (some w) } := by
  have hnow : ∀ t : State, (t.handFault p c (some w)).now = t.now := fun t => (handFault_work t p c _).now
  simp only [State.scrapWriter, bay_goDone_self, handFault_bay, bay_modDisc_self, bay_modPass, bay_modPort_self, hnow]
  rw [← bay_port, handFault_bay, bay_modDisc_self, bay_modPass, bay_modPort_self]
  rfl

theorem scrapWriter_bay_ne {q : PortId} (h : q ≠ p) : (s.scrapWriter j p st c w).bay q = s.bay q := by
  rw [State.scrapWriter, bay_goDone_ne _ h, handFault_bay, bay_modDisc_ne _ h, bay_modPass, bay_modPort_ne _ h]

theorem scrapWriter_passes : (s.scrapWriter j p st c w).passes = (s.modPass j fun x => x.leave p st).passes :=
  handFault_passes _ _ _ _

theorem scrapWriter_pass : (s.scrapWriter j p st c w).pass j = (s.pass j).map fun x => x.leave p st :=
  (congrArg (nth · j) (scrapWriter_passes s j p st c w)).trans (pass_modPass_self s j _)

/-- Only the job of the disc at the tray can be handed the fault. -/
theorem scrapWriter_otherJob {k : JobId} (hk : k ≠ j) (hd : ∀ d, s.disc (.tray p) = some d → d.job = some j) :
    (s.scrapWriter j p st c w).job k = s.job k := by
  refine (handFault_otherJob hk (fun d hdd => ?_) c (some w)).trans rfl
  rw [disc_modDisc_self, Option.map_eq_some_iff] at hdd
  obtain ⟨d0, hd0, rfl⟩ := hdd
  have hj := hd d0 hd0
  unfold Disc.scrap; split <;> exact hj

end

theorem scrap_pass (d : Disc) (c : FaultCause) (l : Option Nat) : (d.scrap c l).pass = d.pass := by
  unfold Disc.scrap; split <;> rfl

theorem scrap_tag (d : Disc) (c : FaultCause) (l : Option Nat) : (d.scrap c l).tag = d.tag := by
  unfold Disc.scrap; split <;> rfl

theorem scrap_job (d : Disc) (c : FaultCause) (l : Option Nat) : (d.scrap c l).job = d.job := by
  unfold Disc.scrap; split <;> rfl

theorem scrap_state (d : Disc) (c : FaultCause) (l : Option Nat) : (d.scrap c l).state = .scrap := by
  unfold Disc.scrap; split <;> rfl

/-- The first failure writes cause and LBA (R121). -/
theorem scrap_fresh {d : Disc} (h : d.cause = none) (c : FaultCause) (l : Option Nat) :
    d.scrap c l = { d with state := .scrap, cause := some c, lba := l } := by
  simp [Disc.scrap, h]

theorem scrap_cause (d : Disc) (c : FaultCause) (l : Option Nat) : (d.scrap c l).cause = some (d.cause.getD c) := by
  cases h : d.cause <;> simp [Disc.scrap, h]

/-- The disc of a scrapped writer fills its job's fault record that is not valid (R93, R178). -/
theorem scrapWriter_fills {s : State} {p : PortId} {d : Disc} {k : JobId} (hd : s.disc (.tray p) = some d)
    (hk : d.job = some k) (hf : (s.job k).fault = none) (j : JobId) (st : MemberStatus) (c : FaultCause) (w : Nat) :
    ((s.scrapWriter j p st c w).job k).fault = some ⟨c, d.pass, some p, some w, some d.tag, 0⟩ := by
  let t := (((s.modPort p (Port.endCommand s.now s.timing)).modPass j fun x => x.leave p st).modDisc (.tray p)
    fun d => d.scrap c (some w))
  have hdt : t.disc (.tray p) = some (d.scrap c (some w)) :=
    (disc_modDisc_self _ (.tray p) _).trans (congrArg (Option.map _) hd)
  have h := handFault_fills hdt ((scrap_job d c _).trans hk) (show (t.job k).fault = none from hf) c (some w)
  rw [scrap_pass, scrap_tag] at h
  exact h

/-! ## The abort of a pass, member by member (R63) -/

/-- What an abort makes of an entry: ARMED is RETURNED, WRITING is FAILED (R63). -/
def Member.aborted (m : Member) : Member :=
  if m.status = .armed then m.left .returned else if m.status = .writing then m.left .failed else m

theorem aborted_port (m : Member) : m.aborted.port = m.port := by unfold Member.aborted; split_ifs <;> rfl

theorem aborted_dead {m : Member} (h : m.live = false) : m.aborted = m := by
  have hn : ¬ (m.status = .armed ∨ m.status = .writing) := fun hc => by rw [live_iff.mpr hc] at h; cases h
  rw [Member.aborted, if_neg fun e => hn (.inl e), if_neg fun e => hn (.inr e)]

/-- What an abort does to a pass for one port. -/
def Pass.abortAt (x : Pass) (n : PortId) : Pass :=
  match x.member n with
  | none => x
  | some m => if m.status = .armed then x.leave n .returned else x.leave n .failed

theorem abortAt_none {x : Pass} {n : PortId} (h : x.member n = none) : x.abortAt n = x := by
  rw [Pass.abortAt, h]

theorem abortAt_some {x : Pass} {n : PortId} {m : Member} (h : x.member n = some m) :
    x.abortAt n = x.leave n (if m.status = .armed then .returned else .failed) := by
  rw [Pass.abortAt, h]; dsimp only; split_ifs <;> rfl

theorem abortAt_wave (x : Pass) (n : PortId) (hw : x.wave.Pairwise Member.before) :
    (x.abortAt n).wave = x.wave.map fun m => if m.port = n then m.aborted else m := by
  cases hm : x.member n with
  | none =>
    rw [abortAt_none hm]
    refine ((List.map_congr_left fun k hk => ?_).trans (List.map_id _)).symm
    split
    · next hp => exact aborted_dead (member_none_iff.mp hm k hk hp)
    · rfl
  | some m =>
    obtain ⟨-, hport, hlive⟩ := member_some hm
    rw [abortAt_some hm, leave_wave, mapMember_wave hw hm]
    refine List.map_congr_left fun k hk => ?_
    by_cases hkm : k = m
    · subst hkm
      rw [if_pos rfl, if_pos hport, Member.aborted]
      rcases live_iff.mp hlive with h | h <;> simp [h]
    · rw [if_neg hkm]
      split
      · next hp =>
        refine (aborted_dead ?_).symm
        rw [← Bool.not_eq_true]
        exact fun hl => hkm ((live_at_port_iff hw hm hk).mp ⟨hp, hl⟩)
      · rfl

/-- An entry that leaves is no member any more. -/
theorem member_leave_self (x : Pass) (n : PortId) {st : MemberStatus} (h : st ≠ .armed ∧ st ≠ .writing) :
    (x.leave n st).member n = none := by
  have hdead : ∀ k : Member, (k.left st).live = false := fun k => by
    rw [← Bool.not_eq_true, live_iff]; exact fun hc => hc.elim h.1 h.2
  rw [member_none_iff, leave_wave]
  intro m hm hp
  obtain ⟨k, -, rfl⟩ := List.mem_map.mp hm
  by_cases hc : (k.port = n && k.live) = true
  · rw [if_pos hc]; exact hdead k
  · rw [if_neg hc] at hp ⊢
    simpa [hp] using hc

theorem member_abortAt_self (x : Pass) (n : PortId) : (x.abortAt n).member n = none := by
  cases hm : x.member n with
  | none => rw [abortAt_none hm, hm]
  | some m => rw [abortAt_some hm]; exact member_leave_self x n (by split <;> decide)

theorem member_abortAt_ne (x : Pass) (n p : PortId) (h : p ≠ n) : (x.abortAt n).member p = x.member p := by
  cases hm : x.member n with
  | none => rw [abortAt_none hm]
  | some m => rw [abortAt_some hm]; exact member_leave_ne h _

/-- After an abort the wave is empty (R48, R63). -/
theorem member_abortAll (x : Pass) (n : PortId) : ((numbers 16).foldl Pass.abortAt x).member n = none := by
  obtain ⟨t, -, -, -, h⟩ := foldl_visit (R := fun _ _ => True) (obs := Pass.member) (fun _ => trivial)
    (fun _ _ => trivial) (fun _ _ => trivial) member_abortAt_ne (numbers_nodup 16) (mem_numbers n) x
  exact h.trans (member_abortAt_self t n)

theorem wave_abortAll {x : Pass} (hw : x.wave.Pairwise Member.before) :
    ((numbers 16).foldl Pass.abortAt x).wave = x.wave.map Member.aborted :=
  foldl_numbers_wave aborted_port (fun _ => aborted_dead) abortAt_wave hw

/-- What an abort's member treatment keeps of a pass: all but wave and failed count. -/
def Pass.rest (x y : Pass) : Prop := y = { x with wave := y.wave, failed := y.failed }

theorem abortAt_rest (x : Pass) (n : PortId) : x.rest (x.abortAt n) := by
  cases hm : x.member n with
  | none => rw [abortAt_none hm]; rfl
  | some m => rw [abortAt_some hm]; split_ifs <;> rfl

theorem abortAll_rest (x : Pass) : x.rest ((numbers 16).foldl Pass.abortAt x) :=
  foldl_rel (R := Pass.rest) (fun _ => rfl) (fun {s t u} h g => by unfold Pass.rest at *; rw [g, h]) abortAt_rest _ x

/-- The WRITING entries of a pass. -/
def Pass.writers (x : Pass) : Nat := (x.wave.filter fun m => decide (m.status = .writing)).length

/-- A member of a wave in order that leaves is one writer less if it was WRITING. -/
theorem leave_writers {x : Pass} {n : PortId} {m : Member} (hw : x.wave.Pairwise Member.before)
    (hm : x.member n = some m) {st : MemberStatus} (hst : st ≠ .writing) :
    (x.leave n st).writers + (if m.status = .writing then 1 else 0) = x.writers := by
  obtain ⟨before, after, hwave, hother⟩ := wave_split hw hm
  obtain ⟨-, hport, hlive⟩ := member_some hm
  have hid : ∀ l : List Member, (∀ k ∈ l, k ∈ before ++ after) →
      l.map (fun k => if k.port = n && k.live then k.left st else k) = l := fun l hl =>
    (List.map_congr_left fun k hk => if_neg (by simpa using hother k (hl k hk))).trans (List.map_id l)
  have hleft : (x.leave n st).wave = before ++ m.left st :: after := by
    rw [leave_wave, Pass.mapMember, hwave, List.map_append, List.map_cons, hid before (by simp +contextual),
      hid after (by simp +contextual), if_pos (by simp [hport, hlive])]
  by_cases h : m.status = .writing
  · simp [Pass.writers, hleft, hwave, Member.left, hst, h]; omega
  · simp [Pass.writers, hleft, hwave, Member.left, hst, h]

theorem satInc_min {n k : Nat} (hn : n ≤ 16) : satInc maxCount n ≤ 16 ∧ min 16 (satInc maxCount n + k) = min 16 (n + (k + 1)) := by
  unfold satInc maxCount; split <;> omega

/-- The failed count and the writers still to fail: an abort moves a member from one to the other (R47, R63). -/
theorem abortAt_failed {x : Pass} {n : PortId} (hw : x.wave.Pairwise Member.before) (hf : x.failed ≤ 16) :
    (x.abortAt n).failed ≤ 16 ∧
      min 16 ((x.abortAt n).failed + (x.abortAt n).writers) = min 16 (x.failed + x.writers) := by
  cases hm : x.member n with
  | none => rw [abortAt_none hm]; exact ⟨hf, rfl⟩
  | some m =>
    rw [abortAt_some hm]
    rcases live_iff.mp (member_some hm).2.2 with h | h
    · have hwr := leave_writers hw hm (st := .returned) (by decide)
      rw [if_neg (by simp [h])] at hwr
      rw [if_pos h, ← hwr]
      exact ⟨hf, rfl⟩
    · have hwr := leave_writers hw hm (st := .failed) (by decide)
      rw [if_pos h] at hwr
      rw [if_neg (by simp [h]), ← hwr]
      exact satInc_min hf

theorem abortAt_before {x : Pass} {n : PortId} (hw : x.wave.Pairwise Member.before) :
    (x.abortAt n).wave.Pairwise Member.before := by
  rw [abortAt_wave x n hw]
  refine pairwise_map_before (fun m => ?_) (fun m hm => ?_) hw
  · split
    · exact aborted_port m
    · rfl
  · split
    · rw [aborted_dead hm]; exact hm
    · exact hm

theorem aborted_not_writing (m : Member) : m.aborted.status ≠ .writing := by
  unfold Member.aborted; split_ifs with h1 h2
  · simp [Member.left]
  · simp [Member.left]
  · exact h2

/-- An abort counts every writer as failed (R47, R63). -/
theorem failed_abortAll {x : Pass} (hw : x.wave.Pairwise Member.before) (hf : x.failed ≤ 16) :
    ((numbers 16).foldl Pass.abortAt x).failed = min 16 (x.failed + x.writers) := by
  have hmoves : ∀ (l : List PortId) (y : Pass), y.wave.Pairwise Member.before → y.failed ≤ 16 →
      (l.foldl Pass.abortAt y).failed ≤ 16 ∧
        min 16 ((l.foldl Pass.abortAt y).failed + (l.foldl Pass.abortAt y).writers) = min 16 (y.failed + y.writers) := by
    intro l
    induction l with
    | nil => exact fun y _ hy => ⟨hy, rfl⟩
    | cons a l ih =>
      intro y hyw hy
      obtain ⟨h1, h2⟩ := abortAt_failed (n := a) hyw hy
      obtain ⟨h3, h4⟩ := ih _ (abortAt_before hyw) h1
      exact ⟨h3, h4.trans h2⟩
  have hend : ((numbers 16).foldl Pass.abortAt x).writers = 0 := by
    rw [Pass.writers, wave_abortAll hw, List.length_eq_zero_iff, List.filter_eq_nil_iff]
    intro m hm
    obtain ⟨k, -, rfl⟩ := List.mem_map.mp hm
    simpa using aborted_not_writing k
  obtain ⟨hle, hsum⟩ := hmoves (numbers 16) x hw hf
  rw [hend] at hsum
  omega

end Sys2Proof.Machine

namespace Sys2Proof.Machine

/-! ## The abort of a pass, port by port (R62 to R64) -/

/-- The member of a port in a job's pass (R48). -/
def State.memberIn (s : State) (j : JobId) (p : PortId) : Option Member := (s.pass j).bind (Pass.member · p)

section
variable {s : State} {j : JobId} {p : PortId} {m : Member} (c : FaultCause)

theorem abortMember_none (h : s.memberIn j p = none) : s.abortMember j c p = s := by
  unfold State.memberIn at h
  rw [State.abortMember, h]

theorem abortMember_armed (h : s.memberIn j p = some m) (hm : m.status = .armed) : s.abortMember j c p =
    let t := (s.modPass j fun x => x.leave p .returned).modDisc (.tray p) fun d => { d with pass := none }
    if (s.job j).state = .draining ∨ (s.job j).state = .halting then t.giveUpBlank p else t.gotoPort p .loaded := by
  unfold State.memberIn at h
  rw [State.abortMember, h]
  simp only [hm]
  rfl

theorem abortMember_writing (h : s.memberIn j p = some m) (hm : m.status = .writing) :
    s.abortMember j c p = s.scrapWriter j p .failed c m.written := by
  unfold State.memberIn at h
  rw [State.abortMember, h]
  simp only [hm]
  rfl

/-- The member of a port is ARMED or WRITING (R48). -/
theorem memberIn_status (h : s.memberIn j p = some m) : m.status = .armed ∨ m.status = .writing := by
  obtain ⟨x, -, hx⟩ := Option.bind_eq_some_iff.mp h
  exact live_iff.mp (member_some hx).2.2

theorem abortMember_work : PortWork s (s.abortMember j c p) := by
  cases h : s.memberIn j p with
  | none => rw [abortMember_none c h]; exact PortWork.refl s
  | some m =>
    rcases memberIn_status h with hm | hm
    · have ht : PortWork s ((s.modPass j fun x => x.leave p .returned).modDisc (.tray p)
          fun d => { d with pass := none }) := (modPass_work s j _).trans (modDisc_work _ p _)
      rw [abortMember_armed c h hm]
      dsimp only
      split
      · exact ht.trans (giveUpBlank_work _ p)
      · exact ht.trans (modPort_work _ p _)
    · rw [abortMember_writing c h hm]; exact scrapWriter_work s j p _ _ _

theorem abortMember_pass_eq : (s.abortMember j c p).pass j = (s.pass j).map (Pass.abortAt · p) := by
  cases hx : s.pass j with
  | none => rw [abortMember_none c (by simp [State.memberIn, hx])]; exact hx
  | some x =>
    have hmem : s.memberIn j p = x.member p := by simp [State.memberIn, hx]
    cases h : s.memberIn j p with
    | none => rw [abortMember_none c h, hx, Option.map_some, abortAt_none (hmem ▸ h)]
    | some m =>
      rw [Option.map_some, abortAt_some (hmem ▸ h)]
      rcases memberIn_status h with hm | hm
      · have hp : (s.abortMember j c p).pass j = (s.modPass j fun x => x.leave p .returned).pass j := by
          rw [abortMember_armed c h hm]; dsimp only; split <;> rfl
        rw [hp, pass_modPass_self, hx, if_pos hm]; rfl
      · rw [abortMember_writing c h hm, scrapWriter_pass, hx, if_neg (by simp [hm])]; rfl

theorem abortMember_bay_ne {q : PortId} (hq : q ≠ p) : (s.abortMember j c p).bay q = s.bay q := by
  cases h : s.memberIn j p with
  | none => rw [abortMember_none c h]
  | some m =>
    rcases memberIn_status h with hm | hm
    · rw [abortMember_armed c h hm]
      have ht : ((s.modPass j fun x => x.leave p .returned).modDisc (.tray p) fun d => { d with pass := none }).bay q =
          s.bay q := (bay_modDisc_ne _ hq _).trans (bay_modPass s q j _)
      dsimp only
      split
      · exact (giveUpBlank_bay_ne _ hq).trans ht
      · exact (bay_modPort_ne _ hq _).trans ht
    · rw [abortMember_writing c h hm]; exact scrapWriter_bay_ne s j p _ _ _ hq

theorem abortMember_memberIn_ne {q : PortId} (hq : q ≠ p) : (s.abortMember j c p).memberIn j q = s.memberIn j q := by
  simp only [State.memberIn, abortMember_pass_eq]
  cases s.pass j with
  | none => rfl
  | some x => exact member_abortAt_ne x p q hq

/-- An ARMED member of a halting job gives up its blank (R63). -/
theorem abortMember_bay_armed (h : s.memberIn j p = some m) (hm : m.status = .armed)
    (hs : (s.job j).state = .halting) : (s.abortMember j c p).bay p = { s.bay p with
      port := (s.port p).retired s.now
      disc := (s.disc (.tray p)).map fun d => { d with pass := none, state := .returning } } := by
  rw [abortMember_armed c h hm]
  dsimp only
  rw [if_pos (.inr hs), giveUpBlank_bay_self, bay_modDisc_self, bay_modPass, disc_modDisc_self]
  simp only [Option.map_map]
  rfl

theorem abortMember_bay_writing (h : s.memberIn j p = some m) (hm : m.status = .writing) :
    (s.abortMember j c p).bay p = { s.bay p with
      port := (s.port p).stopped s.now s.timing, disc := (s.disc (.tray p)).map fun d => d.scrap c (some m.written) } := by
  rw [abortMember_writing c h hm, scrapWriter_bay_self]

/-- Only the jobs of the discs at the members' trays can be handed a fault. -/
theorem abortMember_otherJob {k : JobId} (hk : k ≠ j)
    (hd : ∀ m d, s.memberIn j p = some m → s.disc (.tray p) = some d → d.job = some j) :
    (s.abortMember j c p).job k = s.job k := by
  cases h : s.memberIn j p with
  | none => rw [abortMember_none c h]
  | some m =>
    rcases memberIn_status h with hm | hm
    · rw [abortMember_armed c h hm]; dsimp only; split <;> rfl
    · rw [abortMember_writing c h hm]; exact scrapWriter_otherJob s j p _ _ _ hk (hd m · h)

end

/-! ## The members' fold -/

section
variable (s : State) (j : JobId) (c : FaultCause)

/-- The treatment of every member at an abort, in port order (R63). -/
def State.abortMembers (s : State) (j : JobId) (c : FaultCause) : State :=
  (numbers 16).foldl (fun s n => s.abortMember j c n) s

theorem abortMembers_work : PortWork s (s.abortMembers j c) :=
  foldl_rel PortWork.refl PortWork.trans (fun _ _ => abortMember_work c) _ s

theorem abortMembers_pass_eq : (s.abortMembers j c).pass j = (s.pass j).map fun x => (numbers 16).foldl Pass.abortAt x := by
  rw [State.abortMembers, pass_foldl (h := Pass.abortAt) fun _ _ => abortMember_pass_eq c]

theorem abortMembers_otherPass {k : JobId} (hk : k ≠ j) : (s.abortMembers j c).pass k = s.pass k :=
  (abortMembers_pass j c (numbers 16) s).1 k hk

/-- With no member in the wave there is none to treat. -/
theorem abortMembers_none (h : ∀ p, s.memberIn j p = none) : s.abortMembers j c = s :=
  foldl_fixedPoint fun p _ => abortMember_none c (h p)

/-- What an abort finds at a port and for it in the wave. -/
def State.station (j : JobId) (s : State) (p : PortId) : Bay × Option Member := (s.bay p, s.memberIn j p)

theorem abortMember_station_ne (t : State) (p q : PortId) (hq : q ≠ p) :
    (t.abortMember j c p).station j q = t.station j q :=
  Prod.ext (abortMember_bay_ne c hq) (abortMember_memberIn_ne c hq)

/-- The treatment of a port finds what the abort found there, and what it leaves there stays. -/
theorem abortMembers_visit (p : PortId) : ∃ t, PortWork s t ∧ t.bay p = s.bay p ∧ t.memberIn j p = s.memberIn j p ∧
    (s.abortMembers j c).bay p = (t.abortMember j c p).bay p := by
  obtain ⟨t, hw, hobs, -, hres⟩ := foldl_visit (R := PortWork) (obs := State.station j)
    (f := fun s n => s.abortMember j c n) PortWork.refl PortWork.trans (fun _ _ => abortMember_work c)
    (abortMember_station_ne j c) (numbers_nodup 16) (mem_numbers p) s
  simp only [State.station, Prod.mk.injEq] at hobs hres
  exact ⟨t, hw, hobs.1, hobs.2, hres.1⟩

variable {s j} {p : PortId} {m : Member}

theorem abortMembers_bay_none (h : s.memberIn j p = none) : (s.abortMembers j c).bay p = s.bay p := by
  obtain ⟨t, -, hb, hm, hres⟩ := abortMembers_visit s j c p
  rw [hres, abortMember_none c (hm.trans h), hb]

theorem abortMembers_bay_armed (h : s.memberIn j p = some m) (hm : m.status = .armed)
    (hs : (s.job j).state = .halting) : (s.abortMembers j c).bay p = { s.bay p with
      port := (s.port p).retired s.now
      disc := (s.disc (.tray p)).map fun d => { d with pass := none, state := .returning } } := by
  obtain ⟨t, hw, hb, hmt, hres⟩ := abortMembers_visit s j c p
  rw [hres, abortMember_bay_armed c (hmt.trans h) hm ((hw.state j).trans hs), hb, ← bay_port, ← bay_disc, hb, hw.now]
  rfl

theorem abortMembers_bay_writing (h : s.memberIn j p = some m) (hm : m.status = .writing) :
    (s.abortMembers j c).bay p = { s.bay p with
      port := (s.port p).stopped s.now s.timing, disc := (s.disc (.tray p)).map fun d => d.scrap c (some m.written) } := by
  obtain ⟨t, hw, hb, hmt, hres⟩ := abortMembers_visit s j c p
  rw [hres, abortMember_bay_writing c (hmt.trans h) hm, hb, ← bay_port, ← bay_disc, hb, hw.now, hw.timing]
  rfl

theorem abortMembers_otherJob {k : JobId} (hk : k ≠ j)
    (hd : ∀ p m d, s.memberIn j p = some m → s.disc (.tray p) = some d → d.job = some j) :
    (s.abortMembers j c).job k = s.job k := by
  refine foldl_keeps (obs := State.station j) (val := fun t => t.job k) (abortMember_station_ne j c) s
    (numbers_nodup 16) fun t p _ hobs hv => ?_
  refine (abortMember_otherJob c hk fun m d hm hdt => ?_).trans hv
  have hmem : t.memberIn j p = s.memberIn j p := congrArg Prod.snd hobs
  have hdisc : t.disc (.tray p) = s.disc (.tray p) := congrArg (fun o => o.1.disc) hobs
  exact hd p m d (hmem ▸ hm) (hdisc ▸ hdt)

end

/-! ## The abort -/

/-- R62, R64: the fault record takes the abort, the pass is ABORTED, a digest table that was BUILDING is EMPTY. -/
def State.markAborted (s : State) (j : JobId) (number : Half) (c : AbortCause) (lba : Option Nat) : State :=
  ((s.faultOf j c.fault (some number) none lba none).modPass j fun p =>
      { p with state := .aborted, cause := some c, comp := { p.comp with accumulator := none, blocked := false } }).modJob j
    fun x => { x with digest := if x.digest = .building then .empty else x.digest }

/-- A pass as its abort marks it (R62). -/
def Pass.marked (p : Pass) (c : AbortCause) : Pass :=
  { p with state := .aborted, cause := some c, comp := { p.comp with accumulator := none, blocked := false } }

/-- A job as the abort of its pass marks it (R62, R178). -/
def Job.marked (x : Job) (number : Half) (c : AbortCause) (lba : Option Nat) : Job :=
  { x with
    fault := FaultRecord.take x.fault ⟨c.fault, some number, none, lba, none, 0⟩
    digest := if x.digest = .building then .empty else x.digest }

theorem markAborted_eq {s : State} {j : JobId} {p : Pass} (hp : s.pass j = some p) (c : AbortCause)
    (lba : Option Nat) : s.markAborted j p.number c lba = { s with
      jobs := upd s.jobs j ((s.job j).marked p.number c lba), passes := upd s.passes j (some (p.marked c)) } := by
  have hpass : nth s.passes j = some p := hp
  simp only [State.markAborted, State.modPass, State.modJob, State.faultOf, State.setPass, State.job, State.pass,
    upd_upd, nth_upd_self, hpass, Option.map_some]
  rfl

theorem abortPass_live {s : State} {j : JobId} {p : Pass} (hp : s.pass j = some p) (hl : p.live = true)
    (c : AbortCause) (lba : Option Nat) :
    s.abortPass j c lba = ((s.markAborted j p.number c lba).abortMembers j c.fault).raise (.passAborted j) := by
  rw [State.abortPass, hp]
  simp only [hl, Bool.not_true, Bool.false_eq_true, if_false]
  rfl

theorem abortPass_dead {s : State} {j : JobId} (h : ∀ p, s.pass j = some p → p.live = false) (c : AbortCause)
    (lba : Option Nat) : s.abortPass j c lba = s := by
  rw [State.abortPass]
  cases hp : s.pass j with
  | none => rfl
  | some p => simp [h p hp]

end Sys2Proof.Machine

namespace Sys2Proof.Machine

/-! ## The wave in which a port is (R48) -/

theorem waveOf_none_iff {s : State} {n : PortId} : s.waveOf n = none ↔ ∀ j, s.memberIn j n = none := by
  simp only [State.waveOf, List.find?_eq_none, State.memberIn]
  exact ⟨fun h j => by simpa using h j (mem_numbers j), fun h j _ => by simp [h j]⟩

theorem memberIn_of_waveOf {s : State} {n : PortId} {j : JobId} (h : s.waveOf n = some j) : s.memberIn j n ≠ none := by
  intro hn
  have hsome : (s.memberIn j n).isSome = true :=
    List.find?_some (p := fun j => ((s.pass j).bind fun x => x.member n).isSome) h
  rw [hn] at hsome
  cases hsome

/-- A port that is in no wave leaves none. -/
theorem memberLeaves_none {s : State} {p : PortId} (h : s.waveOf p = none) (st : MemberStatus) :
    s.memberLeaves p st = s := by
  rw [State.memberLeaves, h]

/-- A port that is not in the wave of a pass does not change that pass by leaving its wave. -/
theorem memberLeaves_pass {s : State} {p : PortId} {j : JobId} (h : s.memberIn j p = none) (st : MemberStatus) :
    (s.memberLeaves p st).pass j = s.pass j := by
  unfold State.memberLeaves
  split
  · rfl
  · next k hk =>
    rw [pass_modPass, if_neg]
    rintro rfl
    exact memberIn_of_waveOf hk h

theorem memberLeaves_work (s : State) (p : PortId) (st : MemberStatus) : PortWork s (s.memberLeaves p st) := by
  unfold State.memberLeaves
  split
  · exact PortWork.refl s
  · exact modPass_work s _ _

@[simp] theorem memberLeaves_bay (s : State) (p q : PortId) (st : MemberStatus) :
    (s.memberLeaves p st).bay q = s.bay q := by
  unfold State.memberLeaves; split <;> rfl

theorem memberLeaves_jobs (s : State) (p : PortId) (st : MemberStatus) : (s.memberLeaves p st).jobs = s.jobs := by
  unfold State.memberLeaves; split <;> rfl

/-! ## Discs in FINISHING and VERIFYING at a halt (R8) -/

/-- The port's disc belongs to the job and is in FINISHING or VERIFYING (R8). -/
abbrev Bay.halts (x : Bay) (j : JobId) : Prop :=
  (x.port.state = .finishing ∨ x.port.state = .verifying) ∧ x.disc.bind Disc.job = some j

theorem bay_halts_iff {s : State} {j : JobId} {p : PortId} : (s.bay p).halts j ↔ ∃ d,
    ((s.port p).state = .finishing ∨ (s.port p).state = .verifying) ∧ s.disc (.tray p) = some d ∧ d.job = some j := by
  simp only [Bay.halts, bay_port, bay_disc, Option.bind_eq_some_iff, exists_and_left]

/-- A disc in FINISHING or VERIFYING is stopped: its command ended, its member FAILED, its record SCRAP (R8). -/
def State.stopDisc (s : State) (p : PortId) : State :=
  ((s.modPort p (Port.endCommand s.now s.timing)).memberLeaves p .failed).modDisc (.tray p)
    fun d => d.scrap .jobHalt none

section
variable (s : State) (p : PortId)

theorem stopDisc_work : PortWork s (s.stopDisc p) :=
  (modPort_work s p _).trans <| (memberLeaves_work _ p _).trans (modDisc_work _ p _)

theorem stopDisc_bay_self : (s.stopDisc p).bay p = { s.bay p with
    port := (s.port p).endCommand s.now s.timing, disc := (s.disc (.tray p)).map fun d => d.scrap .jobHalt none } := by
  rw [State.stopDisc, bay_modDisc_self, ← bay_disc, memberLeaves_bay, bay_modPort_self]; rfl

theorem stopDisc_bay_ne {q : PortId} (hq : q ≠ p) : (s.stopDisc p).bay q = s.bay q := by
  rw [State.stopDisc, bay_modDisc_ne _ hq, memberLeaves_bay, bay_modPort_ne _ hq]

theorem stopDisc_job (k : JobId) : (s.stopDisc p).job k = s.job k :=
  congrArg (nth · k) (memberLeaves_jobs (s.modPort p _) p .failed)

theorem stopDisc_disc {d : Disc} (hd : s.disc (.tray p) = some d) :
    (s.stopDisc p).disc (.tray p) = some (d.scrap .jobHalt none) := by
  rw [← bay_disc, stopDisc_bay_self, hd]; rfl

end

section
variable {s : State} {j : JobId} {p : PortId}

theorem haltPort_of_not (h : ¬ (s.bay p).halts j) : s.haltPort j p = s := if_neg h

theorem haltPort_of_halts (h : (s.bay p).halts j) : s.haltPort j p =
    (((s.stopDisc p).handFault p .jobHalt none).setVerify p none).goDone p := if_pos h

theorem haltPort_work (s : State) (j : JobId) (p : PortId) : PortWork s (s.haltPort j p) := by
  by_cases h : (s.bay p).halts j
  · rw [haltPort_of_halts h]
    exact (stopDisc_work s p).trans <| (handFault_work _ p _ _).trans <| (setVerify_work _ p _).trans (goDone_work _ p)
  · rw [haltPort_of_not h]; exact PortWork.refl s

theorem haltPort_bay_ne (s : State) (p q : PortId) (hq : q ≠ p) : (s.haltPort j p).bay q = s.bay q := by
  by_cases h : (s.bay p).halts j
  · rw [haltPort_of_halts h, bay_goDone_ne _ hq, bay_setVerify_ne _ hq, handFault_bay, stopDisc_bay_ne _ _ hq]
  · rw [haltPort_of_not h]

theorem haltPort_bay_self (h : (s.bay p).halts j) : (s.haltPort j p).bay p = {
    port := (s.port p).stopped s.now s.timing
    disc := (s.disc (.tray p)).map fun d => d.scrap .jobHalt none
    verify := none } := by
  have hbay : (((s.stopDisc p).handFault p .jobHalt none).setVerify p none).bay p = {
      port := (s.port p).endCommand s.now s.timing
      disc := (s.disc (.tray p)).map fun d => d.scrap .jobHalt none
      verify := none } := by
    rw [bay_setVerify_self, handFault_bay, stopDisc_bay_self]
  have hnow : ((s.stopDisc p).handFault p .jobHalt none).now = s.now :=
    ((stopDisc_work s p).trans (handFault_work _ p _ _)).now
  rw [haltPort_of_halts h, bay_goDone_self, ← bay_port, hbay, setVerify_now, hnow]
  rfl

/-- Only the job that halts is handed the fault: its disc is of that job. -/
theorem haltPort_otherJob {k : JobId} (hk : k ≠ j) : (s.haltPort j p).job k = s.job k := by
  by_cases h : (s.bay p).halts j
  · obtain ⟨d, -, hd, hj⟩ := bay_halts_iff.mp h
    rw [haltPort_of_halts h, ← stopDisc_job s p k]
    refine handFault_otherJob (j := j) hk (fun e he => ?_) .jobHalt none
    rw [stopDisc_disc s p hd] at he
    cases he
    exact (scrap_job d _ _).trans hj
  · rw [haltPort_of_not h]

/-- A disc of the job in FINISHING or VERIFYING fills its fault record that is not valid (R178). -/
theorem haltPort_fills {d : Disc} (h : (s.bay p).halts j) (hd : s.disc (.tray p) = some d)
    (hf : (s.job j).fault = none) :
    ((s.haltPort j p).job j).fault = some ⟨.jobHalt, d.pass, some p, none, some d.tag, 0⟩ := by
  obtain ⟨e, -, he, hj⟩ := bay_halts_iff.mp h
  cases hd.symm.trans he
  rw [haltPort_of_halts h, ← scrap_pass d .jobHalt none, ← scrap_tag d .jobHalt none]
  refine handFault_fills (stopDisc_disc s p hd) ((scrap_job d _ _).trans hj) ?_ .jobHalt none
  rw [stopDisc_job]; exact hf

theorem haltPort_passes_eq (h : (s.bay p).halts j) : (s.haltPort j p).passes =
    ((s.modPort p (Port.endCommand s.now s.timing)).memberLeaves p .failed).passes := by
  rw [haltPort_of_halts h]; exact handFault_passes (s.stopDisc p) p .jobHalt none

/-- A port that is in no wave changes no pass. -/
theorem haltPort_passes (h : s.waveOf p = none) : (s.haltPort j p).passes = s.passes := by
  by_cases hh : (s.bay p).halts j
  · rw [haltPort_passes_eq hh, memberLeaves_none (s := s.modPort p _) h]; rfl
  · rw [haltPort_of_not hh]

/-- A port that is not in the wave of a pass does not change that pass. -/
theorem haltPort_pass {k : JobId} (h : s.memberIn k p = none) : (s.haltPort j p).pass k = s.pass k := by
  by_cases hh : (s.bay p).halts j
  · exact (congrArg (nth · k) (haltPort_passes_eq hh)).trans
      (memberLeaves_pass (s := s.modPort p (Port.endCommand s.now s.timing)) h .failed)
  · rw [haltPort_of_not hh]

end

/-! ## The ports of a halting job (R8) -/

/-- The discs of a job in FINISHING and VERIFYING at the ports of a list, stopped one after another. -/
def State.haltEach (s : State) (j : JobId) (l : List PortId) : State := l.foldl (fun s p => s.haltPort j p) s

section
variable {s : State} {j : JobId} {l : List PortId}

theorem haltEach_work (s : State) (j : JobId) (l : List PortId) : PortWork s (s.haltEach j l) :=
  foldl_rel (f := fun (s : State) p => s.haltPort j p) PortWork.refl PortWork.trans (fun s p => haltPort_work s j p) l s

theorem haltEach_none (h : ∀ p ∈ l, ¬ (s.bay p).halts j) : s.haltEach j l = s :=
  foldl_fixedPoint fun p hp => haltPort_of_not (h p hp)

theorem haltEach_bay (hl : l.Nodup) {p : PortId} (hp : p ∈ l) : (s.haltEach j l).bay p =
    if (s.bay p).halts j then {
      port := (s.port p).stopped s.now s.timing
      disc := (s.disc (.tray p)).map fun d => d.scrap .jobHalt none
      verify := none }
    else s.bay p := by
  obtain ⟨t, hw, hobs, -, hres⟩ := foldl_visit (R := PortWork) (obs := State.bay) (f := fun (s : State) p => s.haltPort j p)
    PortWork.refl PortWork.trans (fun s p => haltPort_work s j p) haltPort_bay_ne hl hp s
  rw [State.haltEach, hres, ← hobs]
  split
  · next h =>
    rw [haltPort_bay_self h, hw.now, hw.timing, ← bay_port, ← bay_disc, hobs]; rfl
  · next h => rw [haltPort_of_not h]

theorem haltEach_otherJob (hl : l.Nodup) {k : JobId} (hk : k ≠ j) : (s.haltEach j l).job k = s.job k :=
  foldl_keeps (f := fun (s : State) p => s.haltPort j p) (obs := State.bay) (val := fun t => t.job k) haltPort_bay_ne s hl
    fun _ _ _ _ hv => (haltPort_otherJob hk).trans hv

theorem waveOf_congr {s t : State} (h : t.passes = s.passes) (p : PortId) : t.waveOf p = s.waveOf p := by
  simp only [State.waveOf, State.pass, h]

/-- Discs that are in no wave change no pass by being stopped. -/
theorem haltEach_passes (hl : l.Nodup) (h : ∀ p, (s.bay p).halts j → s.waveOf p = none) :
    (s.haltEach j l).passes = s.passes := by
  refine foldl_keeps (f := fun (s : State) p => s.haltPort j p) (obs := State.bay) (val := State.passes) haltPort_bay_ne s hl
    fun t p _ hobs hv => ?_
  by_cases hh : (t.bay p).halts j
  · exact (haltPort_passes ((waveOf_congr hv p).trans (h p (hobs ▸ hh)))).trans hv
  · exact (congrArg State.passes (haltPort_of_not hh)).trans hv

/-- A pass whose wave is empty is not changed by stopping discs. -/
theorem haltEach_pass (hl : l.Nodup) {k : JobId} (h : ∀ p, s.memberIn k p = none) :
    (s.haltEach j l).pass k = s.pass k := by
  refine foldl_keeps (f := fun (s : State) p => s.haltPort j p) (obs := State.bay) (val := fun t => t.pass k) haltPort_bay_ne s hl
    fun t p _ _ hv => (haltPort_pass ?_).trans hv
  rw [State.memberIn, hv]
  exact h p

/-- The first of the job's discs in FINISHING or VERIFYING fills a fault record that is not valid. -/
theorem haltEach_fills {before after : List PortId} {p : PortId} {d : Disc} (h : (s.bay p).halts j)
    (hd : s.disc (.tray p) = some d) (hfirst : ∀ k ∈ before, ¬ (s.bay k).halts j) (hf : (s.job j).fault = none) :
    ∃ n, ((s.haltEach j (before ++ p :: after)).job j).fault = some ⟨.jobHalt, d.pass, some p, none, some d.tag, n⟩ := by
  have hsplit : s.haltEach j (before ++ p :: after) = (s.haltPort j p).haltEach j after := by
    rw [State.haltEach, List.foldl_append]
    exact congrArg (fun t => State.haltEach t j (p :: after)) (haltEach_none hfirst)
  rw [hsplit]
  exact (haltEach_work _ j after).fault j _ (haltPort_fills h hd hf)

end

/-- What JOB HALT does at the ports once the live pass has been aborted: blanks are given up, then discs stopped. -/
@[irreducible] def State.haltPorts (s : State) (j : JobId) : State := (s.giveUpBlanks j).haltEach j (numbers 16)

theorem enterHalting_eq (s : State) (j : JobId) : s.enterHalting j =
    ((((s.modJob j fun x => { x with state := .halting }).abortPass j .jobHalt none).haltPorts j).withdraw
      (.waveReady j)) := by
  unfold State.haltPorts; rfl

section
variable {s : State} {j : JobId} {p : PortId}

theorem onlyTrays_jobs {s t : State} (h : onlyTrays s t) : t.jobs = s.jobs := by rw [h]

theorem onlyTrays_passes {s t : State} (h : onlyTrays s t) : t.passes = s.passes := by rw [h]

theorem giveUpBlanks_job (s : State) (j k : JobId) : (s.giveUpBlanks j).job k = s.job k :=
  congrArg (nth · k) (onlyTrays_jobs (giveUpBlanks_only s j))

theorem giveUpBlanks_passes (s : State) (j : JobId) : (s.giveUpBlanks j).passes = s.passes :=
  onlyTrays_passes (giveUpBlanks_only s j)

/-- A port in FINISHING or VERIFYING is not LOADED. -/
theorem not_loaded_of_halts (h : (s.bay p).halts j) : ¬ (s.assigned p = some j ∧ (s.port p).state = .loaded) := by
  rintro ⟨-, hl⟩
  rcases h.1 with h1 | h1 <;> rw [bay_port, hl] at h1 <;> cases h1

/-- Giving up a blank makes no port FINISHING or VERIFYING, and none leaves these states by it. -/
theorem giveUpBlanks_halts : ((s.giveUpBlanks j).bay p).halts j ↔ (s.bay p).halts j := by
  rw [giveUpBlanks_bay]
  split
  · next h => simp [Bay.halts, h.2]
  · rfl

theorem haltPorts_work (s : State) (j : JobId) : PortWork s (s.haltPorts j) := by
  unfold State.haltPorts
  exact (giveUpBlanks_work s j).trans (haltEach_work (s.giveUpBlanks j) j (numbers 16))

/-- What a halt leaves at each port. -/
theorem haltPorts_bay (s : State) (j : JobId) (p : PortId) : (s.haltPorts j).bay p =
    if (s.bay p).halts j then {
      port := (s.port p).stopped s.now s.timing
      disc := (s.disc (.tray p)).map fun d => d.scrap .jobHalt none
      verify := none }
    else if s.assigned p = some j ∧ (s.port p).state = .loaded then { s.bay p with
      port := (s.port p).retired s.now, disc := (s.disc (.tray p)).map fun d => { d with state := .returning } }
    else s.bay p := by
  have hg := giveUpBlanks_bay s j p
  have hw := giveUpBlanks_work s j
  unfold State.haltPorts
  rw [haltEach_bay (numbers_nodup 16) (mem_numbers p)]
  simp only [giveUpBlanks_halts]
  split
  · next h =>
    rw [if_neg (not_loaded_of_halts h)] at hg
    rw [hw.now, hw.timing, ← bay_port, ← bay_disc, hg]; rfl
  · exact hg

theorem haltPorts_otherJob {k : JobId} (hk : k ≠ j) : (s.haltPorts j).job k = s.job k := by
  unfold State.haltPorts
  exact (haltEach_otherJob (numbers_nodup 16) hk).trans (giveUpBlanks_job s j k)

/-- With no disc of the job in FINISHING or VERIFYING its fault record stands. -/
theorem haltPorts_job (h : ∀ p, ¬ (s.bay p).halts j) : (s.haltPorts j).job j = s.job j := by
  unfold State.haltPorts
  rw [haltEach_none fun p _ hc => h p (giveUpBlanks_halts.mp hc), giveUpBlanks_job]

theorem haltPorts_passes (h : ∀ p, (s.bay p).halts j → s.waveOf p = none) : (s.haltPorts j).passes = s.passes := by
  unfold State.haltPorts
  refine (haltEach_passes (numbers_nodup 16) fun p hp => ?_).trans (giveUpBlanks_passes s j)
  exact (waveOf_congr (giveUpBlanks_passes s j) p).trans (h p (giveUpBlanks_halts.mp hp))

theorem haltPorts_pass {k : JobId} (h : ∀ p, s.memberIn k p = none) : (s.haltPorts j).pass k = s.pass k := by
  unfold State.haltPorts
  have hg : (s.giveUpBlanks j).pass k = s.pass k := congrArg (nth · k) (giveUpBlanks_passes s j)
  refine (haltEach_pass (numbers_nodup 16) fun p => ?_).trans hg
  rw [State.memberIn, hg]
  exact h p

/-- The first of the job's discs in FINISHING or VERIFYING, in port order, fills a fault record that is not valid. -/
theorem haltPorts_fills {d : Disc} (h : (s.bay p).halts j) (hd : s.disc (.tray p) = some d)
    (hfirst : ∀ k, k < p → ¬ (s.bay k).halts j) (hf : (s.job j).fault = none) :
    ∃ n, ((s.haltPorts j).job j).fault = some ⟨.jobHalt, d.pass, some p, none, some d.tag, n⟩ := by
  obtain ⟨before, after, hsplit, hlt⟩ := numbers_split p
  have hdg : (s.giveUpBlanks j).disc (.tray p) = some d := by
    rw [← bay_disc, giveUpBlanks_bay, if_neg (not_loaded_of_halts h)]; exact hd
  unfold State.haltPorts
  rw [hsplit]
  exact haltEach_fills (giveUpBlanks_halts.mpr h) hdg (fun k hk hc => hfirst k (hlt k hk) (giveUpBlanks_halts.mp hc))
    (by rw [giveUpBlanks_job]; exact hf)

end

end Sys2Proof.Machine

namespace Sys2Proof.Machine

section
variable (s : State) (x : Notice) (j : JobId)

@[simp] theorem job_raise : (s.raise x).job j = s.job j := rfl
@[simp] theorem job_withdraw : (s.withdraw x).job j = s.job j := rfl
@[simp] theorem pass_raise : (s.raise x).pass j = s.pass j := rfl
@[simp] theorem pass_withdraw : (s.withdraw x).pass j = s.pass j := rfl

end

/-! ## JOB HALT (R8) -/

/-- JOB HALT's work before the ports': the job is HALTING and its live pass is aborted. -/
@[irreducible] def State.haltAbort (s : State) (j : JobId) : State :=
  (s.modJob j fun x => { x with state := .halting }).abortPass j .jobHalt none

/-- The state whose members the abort of a halting job treats. -/
def State.haltMarked (s : State) (j : JobId) (p : Pass) : State := { s with
  jobs := upd s.jobs j (Job.marked { s.job j with state := .halting } p.number .jobHalt none)
  passes := upd s.passes j (some (p.marked .jobHalt)) }

/-- JOB HALT's work but for the withdrawal of the job's WAVE_READY. -/
@[irreducible] def State.halted (s : State) (j : JobId) : State := (s.haltAbort j).haltPorts j

theorem haltJob_taken {b : Byte} {j : JobId} {s : State} (hj : b.toNat = j.val)
    (hs : (s.job j).state = .running ∨ (s.job j).state = .draining) :
    haltJob b s = State.accept ((s.halted j).withdraw (.waveReady j)) := by
  rw [haltJob, withJob_eq hj]
  unfold State.halted State.haltAbort
  rcases hs with hs | hs <;> rw [hs, ← enterHalting_eq]

section
variable {s : State} {j : JobId} {p : Pass}

theorem haltAbort_live (hp : s.pass j = some p) (hl : p.live = true) :
    s.haltAbort j = ((s.haltMarked j p).abortMembers j .jobHalt).raise (.passAborted j) := by
  have hmarked : (s.modJob j fun x => { x with state := .halting }).markAborted j p.number .jobHalt none =
      s.haltMarked j p := by
    rw [markAborted_eq (s := s.modJob j _) hp, job_modJob_self]
    simp only [State.modJob, State.haltMarked, upd_upd]
  unfold State.haltAbort
  rw [abortPass_live (s := s.modJob j _) hp hl, hmarked]
  rfl

theorem haltAbort_dead (h : ¬ ∃ x, s.pass j = some x ∧ x.live = true) :
    s.haltAbort j = s.modJob j fun x => { x with state := .halting } := by
  unfold State.haltAbort
  exact abortPass_dead (s := s.modJob j _) (fun x hx => Bool.not_eq_true _ ▸ fun hl => h ⟨x, hx, hl⟩) _ _

theorem haltMarked_job : (s.haltMarked j p).job j = Job.marked { s.job j with state := .halting } p.number .jobHalt none :=
  nth_upd_self _ _ _

theorem haltMarked_otherJob {k : JobId} (hk : k ≠ j) : (s.haltMarked j p).job k = s.job k := nth_upd_ne _ _ hk

theorem haltMarked_pass : (s.haltMarked j p).pass j = some (p.marked .jobHalt) := nth_upd_self _ _ _

theorem haltMarked_otherPass {k : JobId} (hk : k ≠ j) : (s.haltMarked j p).pass k = s.pass k := nth_upd_ne _ _ hk

/-- Marking the pass leaves its wave. -/
theorem haltMarked_memberIn (hp : s.pass j = some p) (n : PortId) :
    (s.haltMarked j p).memberIn j n = s.memberIn j n := by
  rw [State.memberIn, State.memberIn, haltMarked_pass, hp]; rfl

/-- What an abort leaves of the pass, with no member in its wave. -/
theorem haltAbort_pass (hp : s.pass j = some p) (hl : p.live = true) :
    (s.haltAbort j).pass j = some ((numbers 16).foldl Pass.abortAt (p.marked .jobHalt)) := by
  rw [haltAbort_live hp hl, pass_raise, abortMembers_pass_eq, haltMarked_pass, Option.map_some]

theorem haltAbort_memberIn (hp : s.pass j = some p) (hl : p.live = true) (n : PortId) :
    (s.haltAbort j).memberIn j n = none := by
  rw [State.memberIn, haltAbort_pass hp hl, Option.bind_some, member_abortAll]

theorem haltAbort_otherPass {k : JobId} (hk : k ≠ j) : (s.haltAbort j).pass k = s.pass k := by
  by_cases h : ∃ x, s.pass j = some x ∧ x.live = true
  · obtain ⟨p, hp, hl⟩ := h
    rw [haltAbort_live hp hl, pass_raise, abortMembers_otherPass _ j _ hk, haltMarked_otherPass hk]
  · rw [haltAbort_dead h]; rfl

theorem haltAbort_otherJob {k : JobId} (hk : k ≠ j)
    (hd : ∀ x n d, s.pass j = some x → x.member n ≠ none → s.disc (.tray n) = some d → d.job = some j) :
    (s.haltAbort j).job k = s.job k := by
  by_cases h : ∃ x, s.pass j = some x ∧ x.live = true
  · obtain ⟨p, hp, hl⟩ := h
    rw [haltAbort_live hp hl, job_raise]
    refine (abortMembers_otherJob _ hk fun n m d hm hdn => ?_).trans (haltMarked_otherJob hk)
    have hmem : p.member n = some m := by rwa [haltMarked_memberIn hp, State.memberIn, hp] at hm
    exact hd p n d hp (by simp [hmem]) hdn
  · rw [haltAbort_dead h, job_modJob, if_neg hk]

/-- A port that is no member of the job's wave is not touched by the abort. -/
theorem haltAbort_bay_none {n : PortId} (h : s.memberIn j n = none) : (s.haltAbort j).bay n = s.bay n := by
  by_cases ha : ∃ x, s.pass j = some x ∧ x.live = true
  · obtain ⟨p, hp, hl⟩ := ha
    rw [haltAbort_live hp hl, bay_raise, abortMembers_bay_none _ ((haltMarked_memberIn hp n).trans h)]
    rfl
  · rw [haltAbort_dead ha]; rfl

variable {n : PortId} {m : Member}

theorem haltAbort_bay_armed (hp : s.pass j = some p) (hl : p.live = true) (hm : p.member n = some m)
    (ha : m.status = .armed) : (s.haltAbort j).bay n = { s.bay n with
      port := (s.port n).retired s.now
      disc := (s.disc (.tray n)).map fun d => { d with pass := none, state := .returning } } := by
  have hmem : (s.haltMarked j p).memberIn j n = some m := by
    rw [haltMarked_memberIn hp, State.memberIn, hp]; exact hm
  rw [haltAbort_live hp hl, bay_raise, abortMembers_bay_armed _ hmem ha (congrArg Job.state haltMarked_job)]
  rfl

theorem haltAbort_bay_writing (hp : s.pass j = some p) (hl : p.live = true) (hm : p.member n = some m)
    (ha : m.status = .writing) : (s.haltAbort j).bay n = { s.bay n with
      port := (s.port n).stopped s.now s.timing
      disc := (s.disc (.tray n)).map fun d => d.scrap .jobHalt (some m.written) } := by
  have hmem : (s.haltMarked j p).memberIn j n = some m := by
    rw [haltMarked_memberIn hp, State.memberIn, hp]; exact hm
  rw [haltAbort_live hp hl, bay_raise, abortMembers_bay_writing _ hmem ha]
  rfl

/-- The port of a member is DONE once the pass is aborted. -/
theorem haltAbort_member_done (h : s.memberIn j n ≠ none) (hl : ∃ x, s.pass j = some x ∧ x.live = true) :
    ((s.haltAbort j).port n).state = .done := by
  obtain ⟨p, hp, hl⟩ := hl
  obtain ⟨m, hm⟩ := Option.ne_none_iff_exists'.mp h
  have hmem : p.member n = some m := by rwa [State.memberIn, hp] at hm
  rcases memberIn_status hm with ha | ha
  · exact congrArg (fun x : Bay => x.port.state) (haltAbort_bay_armed hp hl hmem ha)
  · exact congrArg (fun x : Bay => x.port.state) (haltAbort_bay_writing hp hl hmem ha)

/-- A disc that a halt finds in FINISHING or VERIFYING after the abort stood so before it, in no wave of the job. -/
theorem halts_of_haltAbort (h : ((s.haltAbort j).bay n).halts j) (hl : ∃ x, s.pass j = some x ∧ x.live = true) :
    (s.bay n).halts j ∧ s.memberIn j n = none := by
  have hmem : s.memberIn j n = none := by
    by_contra hm
    have hdone := haltAbort_member_done hm hl
    rcases h.1 with hs | hs <;> rw [bay_port, hdone] at hs <;> cases hs
  exact ⟨haltAbort_bay_none hmem ▸ h, hmem⟩

end

end Sys2Proof.Machine

namespace Sys2Proof.Machine

theorem PortWork.raise {s t : State} (h : PortWork s t) (x : Notice) : PortWork (s.raise x) (t.raise x) where
  frame := by rw [h.frame]; rfl
  disc := h.disc
  job k := by rw [job_raise, job_raise]; exact h.job k
  fault := h.fault

section
variable {s : State} {j : JobId} {p : Pass}

theorem haltAbort_work (hp : s.pass j = some p) (hl : p.live = true) :
    PortWork ((s.haltMarked j p).raise (.passAborted j)) (s.haltAbort j) := by
  rw [haltAbort_live hp hl]
  exact (abortMembers_work _ j _).raise _

theorem halted_work_live (hp : s.pass j = some p) (hl : p.live = true) :
    PortWork ((s.haltMarked j p).raise (.passAborted j)) (s.halted j) := by
  unfold State.halted
  exact (haltAbort_work hp hl).trans (haltPorts_work _ j)

theorem halted_work_dead (h : ¬ ∃ x, s.pass j = some x ∧ x.live = true) :
    PortWork (s.modJob j fun x => { x with state := .halting }) (s.halted j) := by
  have hw := haltPorts_work (s.haltAbort j) j
  unfold State.halted
  rwa [haltAbort_dead h] at hw ⊢

/-- The pass of a halting job as the halt leaves it: aborted, its wave empty, so no later stop changes it. -/
theorem halted_pass (hp : s.pass j = some p) (hl : p.live = true) :
    (s.halted j).pass j = some ((numbers 16).foldl Pass.abortAt (p.marked .jobHalt)) := by
  unfold State.halted
  rw [haltPorts_pass (haltAbort_memberIn hp hl), haltAbort_pass hp hl]

/-- What the halt leaves at a port whose disc it neither stops nor gives up is what the abort left there. -/
theorem halted_bay_done {n : PortId} (h : ((s.haltAbort j).port n).state = .done) :
    (s.halted j).bay n = (s.haltAbort j).bay n := by
  unfold State.halted
  rw [haltPorts_bay, if_neg, if_neg]
  · rw [h]; exact fun hc => by cases hc.2
  · rintro ⟨hs, -⟩
    rw [bay_port, h] at hs
    rcases hs with hs | hs <;> cases hs

theorem halted_bay_armed {n : PortId} {m : Member} (hp : s.pass j = some p) (hl : p.live = true)
    (hm : p.member n = some m) (ha : m.status = .armed) : (s.halted j).bay n = { s.bay n with
      port := (s.port n).retired s.now
      disc := (s.disc (.tray n)).map fun d => { d with pass := none, state := .returning } } :=
  have hb := haltAbort_bay_armed hp hl hm ha
  (halted_bay_done (congrArg (fun x : Bay => x.port.state) hb)).trans hb

theorem halted_bay_writing {n : PortId} {m : Member} (hp : s.pass j = some p) (hl : p.live = true)
    (hm : p.member n = some m) (ha : m.status = .writing) : (s.halted j).bay n = { s.bay n with
      port := (s.port n).stopped s.now s.timing
      disc := (s.disc (.tray n)).map fun d => d.scrap .jobHalt (some m.written) } :=
  have hb := haltAbort_bay_writing hp hl hm ha
  (halted_bay_done (congrArg (fun x : Bay => x.port.state) hb)).trans hb

theorem haltAbort_now (s : State) (j : JobId) : (s.haltAbort j).now = s.now ∧ (s.haltAbort j).timing = s.timing := by
  by_cases h : ∃ x, s.pass j = some x ∧ x.live = true
  · obtain ⟨p, hp, hl⟩ := h
    have hw := haltAbort_work hp hl
    exact ⟨hw.now, hw.timing⟩
  · rw [haltAbort_dead h]; exact ⟨rfl, rfl⟩

theorem haltAbort_assigned (s : State) (j : JobId) (n : PortId) : (s.haltAbort j).assigned n = s.assigned n := by
  by_cases h : ∃ x, s.pass j = some x ∧ x.live = true
  · obtain ⟨p, hp, hl⟩ := h
    exact (haltAbort_work hp hl).assigned n
  · rw [haltAbort_dead h]; rfl

/-- What the halt leaves at a port that is no member of the job's wave. -/
theorem halted_bay {n : PortId} (h : s.memberIn j n = none) : (s.halted j).bay n =
    if (s.bay n).halts j then {
      port := (s.port n).stopped s.now s.timing
      disc := (s.disc (.tray n)).map fun d => d.scrap .jobHalt none
      verify := none }
    else if s.assigned n = some j ∧ (s.port n).state = .loaded then { s.bay n with
      port := (s.port n).retired s.now, disc := (s.disc (.tray n)).map fun d => { d with state := .returning } }
    else s.bay n := by
  have hb := haltAbort_bay_none h
  obtain ⟨hnow, htiming⟩ := haltAbort_now s j
  unfold State.halted
  rw [haltPorts_bay, ← bay_port, ← bay_disc, hb, hnow, htiming, haltAbort_assigned]
  rfl

theorem halted_bay_loaded {n : PortId} (h : s.memberIn j n = none) (ha : s.assigned n = some j)
    (hs : (s.port n).state = .loaded) : (s.halted j).bay n = { s.bay n with
      port := (s.port n).retired s.now, disc := (s.disc (.tray n)).map fun d => { d with state := .returning } } := by
  rw [halted_bay h, if_neg fun hc => not_loaded_of_halts hc ⟨ha, hs⟩, if_pos ⟨ha, hs⟩]

theorem halted_bay_stands {n : PortId} (h : s.memberIn j n = none) (hn : ¬ (s.bay n).halts j)
    (hno : ¬ (s.assigned n = some j ∧ (s.port n).state = .loaded)) : (s.halted j).bay n = s.bay n := by
  rw [halted_bay h, if_neg hn, if_neg hno]

/-- A halt that finds its stopped discs in no wave leaves the passes of other jobs. -/
theorem halted_otherPass (hw : ∀ n, (s.bay n).halts j → s.waveOf n = none) {k : JobId} (hk : k ≠ j) :
    (s.halted j).pass k = s.pass k := by
  have hpasses : (s.halted j).passes = (s.haltAbort j).passes := by
    unfold State.halted
    refine haltPorts_passes fun n hn => ?_
    by_cases hl : ∃ x, s.pass j = some x ∧ x.live = true
    · have hno := waveOf_none_iff.mp (hw n (halts_of_haltAbort hn hl).1)
      refine waveOf_none_iff.mpr fun i => ?_
      by_cases hi : i = j
      · obtain ⟨p, hp, hl⟩ := hl
        exact hi ▸ haltAbort_memberIn hp hl n
      · rw [State.memberIn, haltAbort_otherPass hi]; exact hno i
    · rw [haltAbort_dead hl] at hn ⊢
      exact hw n hn
  exact (congrArg (nth · k) hpasses).trans (haltAbort_otherPass hk)

theorem halted_pass_dead (hw : ∀ n, (s.bay n).halts j → s.waveOf n = none)
    (h : ¬ ∃ x, s.pass j = some x ∧ x.live = true) : (s.halted j).pass j = s.pass j := by
  have ha := haltAbort_dead h
  unfold State.halted
  rw [ha]
  exact congrArg (nth · j) (haltPorts_passes (s := s.modJob j _) hw)

/-- A port that is DONE by `Port.stopped` keeps its command in flight (R72, R97). -/
theorem halted_stops {n : PortId} {d : Option Disc} {v : Option Verify}
    (hb : (s.halted j).bay n = ⟨(s.port n).stopped s.now s.timing, d, v⟩) :
    ((s.halted j).port n).state = .done ∧ ∀ c, (s.port n).cmd = some c → (s.port n).reissueAt = none →
      ((s.halted j).port n).cmd = some c ∧ ((s.halted j).port n).ending = true := by
  have hport : (s.halted j).port n = (s.port n).stopped s.now s.timing := by rw [← bay_port, hb]
  rw [hport]
  exact ⟨rfl, fun c hc hr => stopped_keeps hc hr _ _⟩

/-- The wave and the failed count of the aborted pass, where the wave is in order (R63). -/
theorem halted_wave (hw : p.wave.Pairwise Member.before) (hf : p.failed ≤ 16) :
    let q := (numbers 16).foldl Pass.abortAt (p.marked .jobHalt)
    q.failed = min 16 (p.failed + p.writers) ∧ q.wave = p.wave.map Member.aborted :=
  ⟨failed_abortAll (x := p.marked .jobHalt) hw hf, wave_abortAll (x := p.marked .jobHalt) hw⟩

/-- The abort is the first fault of the job, where its record was not valid (R62, R178). -/
theorem halted_fault (hp : s.pass j = some p) (hl : p.live = true) (hf : (s.job j).fault = none) :
    ∃ n, ((s.halted j).job j).fault = some ⟨.jobHalt, some p.number, none, none, none, n⟩ := by
  refine (halted_work_live hp hl).fault j ⟨.jobHalt, some p.number, none, none, none, 0⟩ ?_
  rw [job_raise, haltMarked_job]
  simp only [Job.marked, hf]
  rfl

/-- Without a live pass the first stopped disc is the first fault of the job (R8, R178). -/
theorem halted_fault_dead {n : PortId} {d : Disc} (h : ¬ ∃ x, s.pass j = some x ∧ x.live = true)
    (hn : (s.bay n).halts j) (hd : s.disc (.tray n) = some d) (hfirst : ∀ k, k < n → ¬ (s.bay k).halts j)
    (hf : (s.job j).fault = none) :
    ∃ f, ((s.halted j).job j).fault = some ⟨.jobHalt, d.pass, some n, none, some d.tag, f⟩ := by
  unfold State.halted
  rw [haltAbort_dead h]
  exact haltPorts_fills (s := s.modJob j _) hn hd hfirst (by rw [job_modJob_self]; exact hf)

theorem halted_fault_stands (h : ¬ ∃ x, s.pass j = some x ∧ x.live = true) (hn : ∀ n, ¬ (s.bay n).halts j) :
    ((s.halted j).job j).fault = (s.job j).fault := by
  unfold State.halted
  rw [haltAbort_dead h, haltPorts_job (s := s.modJob j _) hn, job_modJob_self]

theorem halted_job_live (hp : s.pass j = some p) (hl : p.live = true) : (s.halted j).job j = { s.job j with
    state := .halting, fault := ((s.halted j).job j).fault
    digest := if (s.job j).digest = .building then .empty else (s.job j).digest } := by
  have h := (halted_work_live hp hl).job j
  rw [job_raise, haltMarked_job] at h
  exact h

theorem halted_job_dead (h : ¬ ∃ x, s.pass j = some x ∧ x.live = true) :
    (s.halted j).job j = { s.job j with state := .halting, fault := ((s.halted j).job j).fault } := by
  have hj := (halted_work_dead h).job j
  rw [job_modJob_self] at hj
  exact hj

theorem halted_otherJob_rest {k : JobId} (hk : k ≠ j) :
    (s.halted j).job k = { s.job k with fault := ((s.halted j).job k).fault } := by
  by_cases h : ∃ x, s.pass j = some x ∧ x.live = true
  · obtain ⟨p, hp, hl⟩ := h
    have hj := (halted_work_live hp hl).job k
    rwa [job_raise, haltMarked_otherJob hk] at hj
  · have hj := (halted_work_dead h).job k
    rwa [job_modJob, if_neg hk] at hj

theorem halted_otherJob {k : JobId} (hk : k ≠ j)
    (hd : ∀ x n d, s.pass j = some x → x.member n ≠ none → s.disc (.tray n) = some d → d.job = some j) :
    (s.halted j).job k = s.job k := by
  unfold State.halted
  rw [haltPorts_otherJob hk, haltAbort_otherJob hk hd]

theorem halted_disc (q : Place) (hq : ∀ n, q ≠ .tray n) : (s.halted j).disc q = s.disc q := by
  by_cases h : ∃ x, s.pass j = some x ∧ x.live = true
  · obtain ⟨p, hp, hl⟩ := h
    exact (halted_work_live hp hl).disc q hq
  · exact (halted_work_dead h).disc q hq

theorem halted_notices_live (h : ∃ x, s.pass j = some x ∧ x.live = true) :
    (s.halted j).notices = { s.notices with pass := s.notices.pass.raise (.passAborted j) } := by
  obtain ⟨p, hp, hl⟩ := h
  rw [(halted_work_live hp hl).notices]; rfl

theorem halted_notices_dead (h : ¬ ∃ x, s.pass j = some x ∧ x.live = true) : (s.halted j).notices = s.notices := by
  rw [(halted_work_dead h).notices]; rfl

theorem halted_frame : { s.halted j with
    jobs := s.jobs, passes := s.passes, ports := s.ports, places := s.places, verifies := s.verifies
    notices := s.notices } = s := by
  by_cases h : ∃ x, s.pass j = some x ∧ x.live = true
  · obtain ⟨p, hp, hl⟩ := h
    rw [(halted_work_live hp hl).frame]; rfl
  · rw [(halted_work_dead h).frame]; rfl

end

/-- Settles O25: the abort of the live pass, then the ports one by one, each touching its own port alone. -/
theorem jobHaltScraps : Obligations.JobHaltScraps := by
  intro h b s0 j ht hl hj hs aborts finishes
  have hnext := exec_settled (c := .jobHalt h b) ht hl rfl (haltJob_taken (s := s0.countGood) hj hs)
  refine ⟨(s0.countGood.halted j).withdraw (.waveReady j), hnext, ?_⟩
  clear hnext hs hj hl ht
  change let s := s0.countGood; _
  intro s
  have hmember : ∀ {n}, s.waveOf n = none → s.memberIn j n = none := fun hw => waveOf_none_iff.mp hw j
  have hfin : ∀ {n d}, finishes n d → (s.bay n).halts j := fun hc => bay_halts_iff.mpr ⟨_, hc⟩
  have hnot : ∀ {n}, (∀ d, ¬ finishes n d) → ¬ (s.bay n).halts j := fun hc hb =>
    let ⟨d, hd⟩ := bay_halts_iff.mp hb; hc d hd
  have hfree : (∀ n d, finishes n d → s0.waveOf n = none) → ∀ n, (s.bay n).halts j → s.waveOf n = none :=
    fun hc n hb => let ⟨d, hd⟩ := bay_halts_iff.mp hb; hc n d hd
  refine ⟨?_, ?_, ?_, ?_, ?_, ?_, ?_, ?_, ?_, ?_, ?_, ?_, ?_, ?_, ?_⟩
  · rintro ⟨p, hp, hl⟩; exact halted_job_live (s := s) hp hl
  · exact fun ha => halted_job_dead (s := s) ha
  · exact fun hno ha => halted_fault_stands (s := s) ha fun n => hnot (hno n)
  · intro p hp hl
    obtain ⟨hrest, hpass⟩ := And.intro (abortAll_rest (p.marked .jobHalt)) (halted_pass (s := s) hp hl)
    refine ⟨_, hpass, ?_, ?_, ?_, ?_, ?_, ?_, ?_, fun _ hw hf => halted_wave hw hf, fun n m hm ha => ?_,
      fun n m d hm ha hd hc => ?_, fun hf => halted_fault (s := s) hp hl hf⟩
    iterate 7 (rw [hrest]; rfl)
    · have hb := halted_bay_armed (s := s) hp hl hm ha
      exact ⟨congrArg (fun x : Bay => x.port.state) hb, congrArg Bay.disc hb⟩
    · have hb := halted_bay_writing (s := s) hp hl hm ha
      obtain ⟨hdone, hkeeps⟩ := halted_stops hb
      refine ⟨hdone, (congrArg Bay.disc hb).trans ?_, hkeeps⟩
      exact (congrArg (Option.map _) hd).trans (congrArg some (scrap_fresh hc _ _))
  · intro n d hn hw
    have hb := (halted_bay (s := s) (hmember hw)).trans (if_pos (hfin hn))
    obtain ⟨hdone, hkeeps⟩ := halted_stops hb
    have hhalts := hfin hn
    obtain ⟨-, hd, -⟩ := hn
    refine ⟨hdone, congrArg Bay.verify hb, hkeeps, ⟨d.scrap .jobHalt none, ?_, scrap_tag d _ _, scrap_state d _ _,
      scrap_cause d _ _, fun hc => by rw [scrap_fresh hc]⟩, fun ha hfirst hf => ?_⟩
    · exact (congrArg Bay.disc hb).trans (congrArg (Option.map _) hd)
    · exact halted_fault_dead (s := s) ha hhalts hd (fun k hk => hnot fun e => hfirst k e hk) hf
  · intro n ha hs hw
    have hb := halted_bay_loaded (s := s) (hmember hw) ha hs
    exact ⟨congrArg (fun x : Bay => x.port.state) hb, congrArg (fun x : Bay => x.port.errand) hb, congrArg Bay.disc hb⟩
  · intro n hno hn hm
    have hmem : s.memberIn j n = none := by
      rw [State.memberIn, Option.bind_eq_none_iff]; exact hm
    have hb := halted_bay_stands (s := s) hmem (hnot hn) fun hc => hno.elim (· hc.1) (· hc.2)
    exact ⟨congrArg Bay.port hb, congrArg Bay.disc hb, congrArg Bay.verify hb⟩
  · exact fun q hq => halted_disc (s := s) q hq
  · exact fun hw k hk => halted_otherPass (s := s) (hfree hw) hk
  · exact fun k hk => halted_otherJob_rest (s := s) hk
  · exact fun hd k hk => halted_otherJob (s := s) hk hd
  · exact fun ha hw => halted_pass_dead (s := s) (hfree hw) ha
  · exact fun ha => congrArg (fun x : Notices => x.put .pass (x.pass.withdraw (.waveReady j)))
      (halted_notices_live (s := s) ha)
  · exact fun ha => congrArg (fun x : Notices => x.put .pass (x.pass.withdraw (.waveReady j)))
      (halted_notices_dead (s := s) ha)
  · exact halted_frame (s := s)

end Sys2Proof.Machine

namespace Sys2Proof.Machine

/-! ## The end of an event, job by job (log 2) -/

theorem jobs_eq : numbers 4 = [0, 1, 2, 3] := by decide

theorem settle_eq (s0 s : State) : State.settle s0 s = State.outbound s0 (([0, 1, 2, 3] : List JobId).foldl
    (State.raiseWaveReady s0) (([0, 1, 2, 3] : List JobId).foldl State.completeJob
      (([0, 1, 2, 3] : List JobId).foldl State.settleJob s).settleTransport)) := by
  unfold State.settle
  rw [jobs_eq]

/-- R51: a FORMING pass with its prefill reached and a member launches. -/
theorem mayLaunch_iff {s : State} {j : JobId} : (s.pass j).any Pass.mayLaunch = true ↔ ∃ p, s.pass j = some p ∧
    p.state = .forming ∧ p.comp.prefillReached = true ∧ ∃ m ∈ p.wave, m.status = .armed ∨ m.status = .writing := by
  simp only [Option.any_eq_true, Pass.mayLaunch, Bool.and_eq_true, decide_eq_true_eq, any_live_eq_true, and_assoc]

/-- What the pass controller does for a job last: each WRITING member issues its next segment (R54). -/
theorem settleJob_eq (s : State) (j : JobId) : s.settleJob j =
    let a := (s.endPass j).examine j
    (List.finRange 16).foldl (fun t n => t.issueWrite j n)
      (if (a.pass j).any Pass.mayLaunch then (a.launch j).examine j else a) := by
  unfold State.settleJob
  rw [numbers_eq_finRange]

/-! ## The end of a pass (R60, R61) -/

section
variable {s : State} {j : JobId} {p : Pass}

theorem endPass_none (hp : s.pass j = none) : s.endPass j = s := by rw [State.endPass, hp]

theorem endPass_wave (hp : s.pass j = some p) (h : p.wave.any Member.live = true) : s.endPass j = s := by
  rw [State.endPass, hp]; simp only [h, if_true]

theorem endPass_over (hp : s.pass j = some p) (h : p.state = .ended ∨ p.state = .aborted) : s.endPass j = s := by
  rw [State.endPass, hp]
  rcases h with h | h <;> simp only [h, ite_self]

/-- A RUNNING pass whose wave is empty ends if its ingress is complete, else it is aborted. -/
theorem endPass_running (hp : s.pass j = some p) (h : p.wave.any Member.live = false) (hs : p.state = .running) :
    s.endPass j = if p.complete (s.job j) then
      (s.modPass j fun p => { p with state := .ended, comp := { p.comp with blocked := false } }).raise (.passEnded j)
      else s.abortPass j .waveEmpty none := by
  rw [State.endPass, hp]
  simp only [h, hs, Bool.false_eq_true, if_false]

/-- A FORMING pass whose wave is empty is aborted while its job drains. -/
theorem endPass_forming (hp : s.pass j = some p) (h : p.wave.any Member.live = false) (hs : p.state = .forming) :
    s.endPass j = if (s.job j).state = .draining then s.abortPass j .waveEmpty none else s := by
  rw [State.endPass, hp]
  simp only [h, hs, Bool.false_eq_true, if_false]

/-- An abort that finds no member in the wave marks the pass and its job, and raises PASS_ABORTED. -/
theorem abortPass_empty (hp : s.pass j = some p) (hl : p.live = true) (h : p.wave.any Member.live = false)
    (c : AbortCause) (lba : Option Nat) : s.abortPass j c lba = State.raise { s with
      jobs := upd s.jobs j ((s.job j).marked p.number c lba), passes := upd s.passes j (some (p.marked c)) }
      (.passAborted j) := by
  have hnone : ∀ n, (s.markAborted j p.number c lba).memberIn j n = none := fun n => by
    have hpass : (s.markAborted j p.number c lba).pass j = some (p.marked c) := by
      rw [markAborted_eq hp]; exact nth_upd_self _ _ _
    rw [State.memberIn, hpass, Option.bind_some, member_none_iff]
    intro m hm _
    rw [List.any_eq_false] at h
    simpa using h m hm
  rw [abortPass_live hp hl, abortMembers_none _ _ _ hnone, markAborted_eq hp]

/-- The state of a job's pass after its end (R60). -/
theorem endPass_ends (hp : s.pass j = some p) : (s.modPass j fun p =>
      { p with state := .ended, comp := { p.comp with blocked := false } }).raise (.passEnded j) = { s with
    passes := upd s.passes j (some { p with state := .ended, comp := { p.comp with blocked := false } })
    notices := { s.notices with pass := s.notices.pass.raise (.passEnded j) } } := by
  rw [State.modPass, hp]; rfl

theorem live_of_running (h : p.state = .running) : p.live = true := by simp [Pass.live, h]
theorem live_of_forming (h : p.state = .forming) : p.live = true := by simp [Pass.live, h]

theorem complete_iff {x : Job} : p.complete x = true ↔ p.comp.head = x.length := decide_eq_true_iff

/-! ## The examination of a pass that stands (R57) -/

theorem examine_none (hp : s.pass j = none) : s.examine j = s := by rw [State.examine, hp]

theorem examine_dead (h : ∀ p, s.pass j = some p → p.live = false) : s.examine j = s := by
  cases hp : s.pass j with
  | none => exact examine_none hp
  | some p => rw [State.examine, hp]; simp [h p hp]

/-- An examination changes the composition alone. -/
theorem Pass.examine_frame (x : Job) (p : Pass) : p.examine x = { p with comp := (p.examine x).comp } := by
  have hgrant : ∀ q : Pass, q.grant x = { q with comp := (q.grant x).comp } := fun q => by
    unfold Pass.grant; split <;> rfl
  have hgrants : p.grants x = { p with comp := (p.grants x).comp } :=
    foldl_rel (R := fun a b : Pass => b = { a with comp := b.comp }) (f := fun (p : Pass) (_ : Nat) => p.grant x) (fun _ => rfl)
      (fun {a b c} h g => by rw [g, h]) (fun q _ => hgrant q) (List.range 8) p
  unfold Pass.examine
  rw [hgrants]

end

end Sys2Proof.Machine

namespace Sys2Proof.Machine

/-! ## Cutting members one after another (R58) -/

/-- The members of a list are cut in its order. -/
def State.cutAll (s : State) (j : JobId) (ms : List Member) : State := ms.foldl (fun s m => s.cutMember j m) s

theorem scrapWriter_verifies (s : State) (j : JobId) (p : PortId) (st : MemberStatus) (c : FaultCause) (w : Nat) :
    (s.scrapWriter j p st c w).verifies = s.verifies := by
  have hf : ∀ t : State, (t.handFault p c (some w)).verifies = t.verifies := fun t => by
    rcases handFault_cases t p c (some w) with ⟨d, k, -, -, e⟩ | e <;> rw [e]
    rfl
  exact hf _

theorem scrapWriter_otherPass (s : State) (j : JobId) (p : PortId) (st : MemberStatus) (c : FaultCause) (w : Nat)
    {k : JobId} (hk : k ≠ j) : (s.scrapWriter j p st c w).pass k = s.pass k :=
  (congrArg (nth · k) (scrapWriter_passes s j p st c w)).trans ((pass_modPass s j k _).trans (if_neg hk))

section
variable (s : State) (j : JobId) (ms : List Member)

theorem cutAll_cons (m : Member) : s.cutAll j (m :: ms) =
    (s.scrapWriter j m.port .cut .straggler m.written).cutAll j ms := rfl

theorem cutAll_work : PortWork s (s.cutAll j ms) :=
  foldl_rel (f := fun (s : State) m => s.cutMember j m) PortWork.refl PortWork.trans
    (fun s m => scrapWriter_work s j m.port _ _ _) ms s

theorem cutAll_verifies : (s.cutAll j ms).verifies = s.verifies :=
  foldl_rel (f := fun (s : State) m => s.cutMember j m) (R := fun s t => t.verifies = s.verifies) (fun _ => rfl)
    (fun h g => g.trans h) (fun s m => scrapWriter_verifies s j m.port _ _ _) ms s

theorem cutAll_otherPass {k : JobId} (hk : k ≠ j) : (s.cutAll j ms).pass k = s.pass k :=
  foldl_rel (f := fun (s : State) m => s.cutMember j m) (R := fun s t => t.pass k = s.pass k) (fun _ => rfl)
    (fun h g => g.trans h) (fun s m => scrapWriter_otherPass s j m.port _ _ _ hk) ms s

theorem cutAll_pass : (s.cutAll j ms).pass j =
    (s.pass j).map fun x => (ms.map Member.port).foldl (fun x n => x.leave n .cut) x := by
  rw [State.cutAll, pass_foldl (h := fun x m => x.leave m.port .cut) fun s m => scrapWriter_pass s j m.port _ _ _]
  simp only [List.foldl_map]

variable {ms}

theorem cutAll_bay_ne {n : PortId} (h : ∀ m ∈ ms, m.port ≠ n) : (s.cutAll j ms).bay n = s.bay n := by
  induction ms generalizing s with
  | nil => rfl
  | cons a l ih =>
    rw [cutAll_cons, ih _ fun m hm => h m (List.mem_cons_of_mem a hm)]
    exact scrapWriter_bay_ne s j a.port _ _ _ (h a (by simp)).symm

/-- Each of the members, at a port of its own, has its write ended and its disc scrapped. -/
theorem cutAll_bay {m : Member} (hnd : (ms.map Member.port).Nodup) (hm : m ∈ ms) :
    (s.cutAll j ms).bay m.port = { s.bay m.port with
      port := (s.port m.port).stopped s.now s.timing
      disc := (s.disc (.tray m.port)).map fun d => d.scrap .straggler (some m.written) } := by
  induction ms generalizing s with
  | nil => cases hm
  | cons a l ih =>
    obtain ⟨hal, hl⟩ := List.nodup_cons.mp hnd
    have hne : ∀ k ∈ l, k.port ≠ a.port := fun k hk e => hal (e ▸ List.mem_map_of_mem hk)
    rw [cutAll_cons]
    rcases List.mem_cons.mp hm with rfl | hm
    · rw [cutAll_bay_ne _ _ hne, scrapWriter_bay_self]
    · have hw := scrapWriter_work s j a.port .cut .straggler a.written
      rw [ih _ hl hm, ← bay_port, ← bay_disc, scrapWriter_bay_ne s j a.port _ _ _ (hne m hm), hw.now, hw.timing]
      rfl

/-- The disc of the first member fills the fault record of its job, if that is not valid (R178). -/
theorem cutAll_fills {m : Member} {rest : List Member} {d : Disc} (hd : s.disc (.tray m.port) = some d)
    (hj : d.job = some j) (hf : (s.job j).fault = none) :
    ∃ f, ((s.cutAll j (m :: rest)).job j).fault = some ⟨.straggler, d.pass, some m.port, some m.written, some d.tag, f⟩ := by
  rw [cutAll_cons]
  exact (cutAll_work _ j rest).fault j _ (scrapWriter_fills hd hj hf j .cut .straggler m.written)

end

/-! ## What cutting leaves of the pass -/

section
variable {x : Pass} {l : List PortId}

/-- Cutting changes a pass in its wave and its cut count alone. -/
theorem foldl_cut_rest (x : Pass) (l : List PortId) : let y := l.foldl (fun x n => x.leave n .cut) x
    y = { x with wave := y.wave, cut := y.cut } :=
  foldl_rel (R := fun a b : Pass => b = { a with wave := b.wave, cut := b.cut })
    (f := fun (x : Pass) n => x.leave n .cut) (fun _ => rfl) (fun {a b c} h g => by rw [g, h]) (fun _ _ => rfl) l x

/-- Every cut is counted, the count held at 16 (log 17). -/
theorem foldl_cut_count (h : x.cut ≤ 16) : (l.foldl (fun x n => x.leave n .cut) x).cut = min 16 (x.cut + l.length) := by
  induction l generalizing x with
  | nil => simp; omega
  | cons a l ih =>
    have hcut : (x.leave a .cut).cut = satInc maxCount x.cut := rfl
    obtain ⟨hle, hmin⟩ := satInc_min (k := l.length) h
    rw [List.foldl_cons, ih (hcut ▸ hle), hcut, hmin, List.length_cons]

theorem foldl_cut_wave (hw : x.wave.Pairwise Member.before) (hl : l.Nodup) :
    (l.foldl (fun x n => x.leave n .cut) x).wave =
      x.wave.map fun m => if m.port ∈ l then (if m.live then m.left .cut else m) else m := by
  refine foldl_ports_wave (g := fun m => if m.live then m.left .cut else m) (fun m => ?_) (fun m hm => ?_)
    (fun x n _ => ?_) l x hl hw
  · split <;> rfl
  · rw [hm]; rfl
  · refine List.map_congr_left fun m _ => ?_
    by_cases h1 : m.port = n <;> by_cases h2 : m.live = true <;> simp [h1, h2, Member.left]

variable {ms : List Member}

/-- Writing entries of a wave in order stand at ports of their own. -/
theorem writing_ports_nodup (hw : x.wave.Pairwise Member.before) (hms : ms.Sublist x.wave)
    (hwr : ∀ m ∈ ms, m.status = .writing) : (ms.map Member.port).Nodup := by
  refine List.pairwise_map.mpr ((hw.sublist hms).imp_of_mem fun {a b} ha _ hab => ?_)
  rcases hab with hlt | ⟨-, hdead⟩
  · exact ne_of_lt hlt
  · rw [live_writing (hwr a ha)] at hdead; cases hdead

/-- Cutting writing entries of a wave in order makes them CUT, and no other. -/
theorem cut_wave (hw : x.wave.Pairwise Member.before) (hms : ms.Sublist x.wave) (hwr : ∀ m ∈ ms, m.status = .writing) :
    ((ms.map Member.port).foldl (fun x n => x.leave n .cut) x).wave =
      x.wave.map fun m => if m ∈ ms then m.left .cut else m := by
  rw [foldl_cut_wave hw (writing_ports_nodup hw hms hwr)]
  refine List.map_congr_left fun m hm => ?_
  by_cases hmem : m ∈ ms
  · rw [if_pos hmem, if_pos (List.mem_map_of_mem hmem), if_pos (live_writing (hwr m hmem))]
  · rw [if_neg hmem]
    split
    · next hport =>
      obtain ⟨k, hk, hkp⟩ := List.mem_map.mp hport
      refine if_neg fun hlive => hmem ?_
      have hkm := member_of_live hw (hms.subset hk) (live_writing (hwr k hk))
      rwa [(live_at_port_iff hw hkm hm).mp ⟨hkp.symm, hlive⟩]
    · rfl

end

/-! ## The examination of a live pass (R57, R58) -/

section
variable {s : State} {j : JobId} {p : Pass}

theorem stragglers_sublist (p : Pass) (n : Nat) : (p.stragglers n).Sublist p.wave := by
  unfold Pass.stragglers
  split
  · exact List.nil_sublist _
  · exact List.filter_sublist

theorem stragglers_writing {n : Nat} {m : Member} (hm : m ∈ p.stragglers n) : m.status = .writing := by
  unfold Pass.stragglers at hm
  split at hm
  · cases hm
  · simp only [List.mem_filter, decide_eq_true_eq] at hm; exact hm.2.1

/-- An examination that cuts nobody leaves the examined pass. -/
theorem examine_keeps (hp : s.pass j = some p) (hl : p.live = true)
    (h : ¬ ((p.examine (s.job j)).comp.blocked = true ∧ p.comp.blocked = false ∧ p.state = .running) ∨
      (p.examine (s.job j)).stragglers (s.job j).lagLimit = []) :
    s.examine j = s.setPass j (some (p.examine (s.job j))) := by
  have hstate : (p.examine (s.job j)).state = p.state := by rw [Pass.examine_frame]
  rw [State.examine, hp]
  simp only [hl, Bool.not_true, Bool.false_eq_true, if_false, hstate]
  split
  · next hb =>
    simp only [Bool.and_eq_true, Bool.not_eq_true', decide_eq_true_eq, and_assoc] at hb
    rw [show ((s.setPass j (some (p.examine (s.job j)))).job j).lagLimit = (s.job j).lagLimit from rfl,
      h.resolve_left (not_not_intro hb)]
  · rfl

/-- Ingress newly blocked cuts the stragglers, then the pass is examined again. -/
theorem examine_cuts (hp : s.pass j = some p) (hl : p.live = true)
    (hb : (p.examine (s.job j)).comp.blocked = true) (hn : p.comp.blocked = false) (hr : p.state = .running)
    (h : (p.examine (s.job j)).stragglers (s.job j).lagLimit ≠ []) :
    s.examine j = ((s.setPass j (some (p.examine (s.job j)))).cutAll j
      ((p.examine (s.job j)).stragglers (s.job j).lagLimit)).modPass j fun x => x.examine (s.job j) := by
  have hstate : (p.examine (s.job j)).state = p.state := by rw [Pass.examine_frame]
  rw [State.examine, hp]
  simp only [hl, Bool.not_true, Bool.false_eq_true, if_false, hstate, hb, hn, hr, Bool.not_false, Bool.and_self,
    decide_true, if_true]
  rw [show ((s.setPass j (some (p.examine (s.job j)))).job j).lagLimit = (s.job j).lagLimit from rfl]
  cases hc : (p.examine (s.job j)).stragglers (s.job j).lagLimit with
  | nil => exact absurd hc h
  | cons m l => rfl

end

end Sys2Proof.Machine

namespace Sys2Proof.Machine

/-! ## The launch (R51) -/

/-- An entry as the launch leaves it. -/
def Member.launched (m : Member) : Member := if m.status = .armed then { m with status := .writing } else m

theorem launched_port (m : Member) : m.launched.port = m.port := by unfold Member.launched; split <;> rfl

theorem launched_dead {m : Member} (h : m.live = false) : m.launched = m :=
  if_neg fun e => by rw [live_armed e] at h; cases h

/-- What the launch does to a pass for one port. -/
def Pass.launchAt (x : Pass) (n : PortId) : Pass :=
  if (x.member n).any fun m => decide (m.status = .armed) then x.mapMember n fun m => { m with status := .writing } else x

theorem launchAt_frame (x : Pass) (n : PortId) : x.launchAt n = { x with wave := (x.launchAt n).wave } := by
  unfold Pass.launchAt; split <;> rfl

theorem launchAt_wave (x : Pass) (n : PortId) (hw : x.wave.Pairwise Member.before) :
    (x.launchAt n).wave = x.wave.map fun m => if m.port = n then m.launched else m := by
  unfold Pass.launchAt
  cases hm : x.member n with
  | none =>
    refine ((List.map_congr_left fun k hk => ?_).trans (List.map_id x.wave)).symm
    split
    · next hp => exact launched_dead (member_none_iff.mp hm k hk hp)
    · rfl
  | some m =>
    have hother : ∀ k ∈ x.wave, k.port = n → k ≠ m → k.launched = k := fun k hk hp hkm => by
      refine launched_dead ?_
      rw [← Bool.not_eq_true]
      exact fun hl => hkm ((live_at_port_iff hw hm hk).mp ⟨hp, hl⟩)
    have hport := (member_some hm).2.1
    by_cases ha : m.status = .armed
    · rw [if_pos (by simp [ha]), mapMember_wave hw hm]
      refine List.map_congr_left fun k hk => ?_
      by_cases hkm : k = m
      · rw [if_pos hkm, if_pos (hkm ▸ hport), hkm, Member.launched, if_pos ha]
      · rw [if_neg hkm]
        split
        · next hp => exact (hother k hk hp hkm).symm
        · rfl
    · rw [if_neg (by simp [ha])]
      refine ((List.map_congr_left fun k hk => ?_).trans (List.map_id x.wave)).symm
      split
      · next hp =>
        by_cases hkm : k = m
        · rw [hkm, Member.launched, if_neg ha]; rfl
        · exact hother k hk hp hkm
      · rfl

theorem launchAt_member_ne (x : Pass) (n p : PortId) (h : p ≠ n) : (x.launchAt n).member p = x.member p := by
  unfold Pass.launchAt
  split
  · exact member_mapMember_ne h _ fun _ => rfl
  · rfl

section
variable {s : State} {j : JobId} {p : PortId}

/-- The port has an ARMED member in the job's wave. -/
abbrev State.armedIn (s : State) (j : JobId) (p : PortId) : Prop := ∃ m, s.memberIn j p = some m ∧ m.status = .armed

theorem launchMember_armed (h : s.armedIn j p) : s.launchMember j p =
    ((s.modPass j (Pass.launchAt · p)).modDisc (.tray p) fun d => { d with state := .burning }).gotoPort p .writing := by
  obtain ⟨m, hm, ha⟩ := h
  obtain ⟨x, hx, hxm⟩ := Option.bind_eq_some_iff.mp hm
  have hany : ((s.pass j).bind (Pass.member · p)).any (fun m => decide (m.status = .armed)) = true := by
    change (s.memberIn j p).any _ = true
    simp [hm, ha]
  have hlaunch : x.launchAt p = x.mapMember p fun m => { m with status := .writing } := if_pos (by simp [hxm, ha])
  rw [State.launchMember, if_pos hany]
  simp only [State.modPass, hx, Option.map_some, hlaunch]

theorem launchMember_not (h : ¬ s.armedIn j p) : s.launchMember j p = s := by
  refine if_neg fun hany => h ?_
  obtain ⟨m, hm, ha⟩ := (Option.any_eq_true _ _).mp hany
  exact ⟨m, hm, of_decide_eq_true ha⟩

theorem launchMember_pass (s : State) (j : JobId) (p : PortId) :
    (s.launchMember j p).pass j = (s.pass j).map (Pass.launchAt · p) := by
  by_cases h : s.armedIn j p
  · rw [launchMember_armed h]; exact pass_modPass_self s j _
  · rw [launchMember_not h]
    cases hx : s.pass j with
    | none => rfl
    | some x =>
      refine congrArg some (if_neg fun hany => h ?_).symm
      obtain ⟨m, hm, ha⟩ := (Option.any_eq_true _ _).mp hany
      exact ⟨m, by rw [State.memberIn, hx]; exact hm, of_decide_eq_true ha⟩

theorem launchMember_bay_ne (s : State) (j : JobId) (p q : PortId) (h : q ≠ p) :
    (s.launchMember j p).bay q = s.bay q := by
  by_cases ha : s.armedIn j p
  · rw [launchMember_armed ha]
    exact (bay_modPort_ne _ h _).trans (bay_modDisc_ne _ h _)
  · rw [launchMember_not ha]

theorem launchMember_bay_self (h : s.armedIn j p) : (s.launchMember j p).bay p = { s.bay p with
    port := (s.port p).goto s.now .writing, disc := (s.disc (.tray p)).map fun d => { d with state := .burning } } := by
  rw [launchMember_armed h, State.gotoPort, bay_modPort_self, bay_modDisc_self]
  rfl

theorem launchMember_station_ne (j : JobId) (s : State) (p q : PortId) (h : q ≠ p) :
    (s.launchMember j p).station j q = s.station j q := by
  refine Prod.ext (launchMember_bay_ne s j p q h) ?_
  simp only [State.station, State.memberIn, launchMember_pass]
  cases s.pass j with
  | none => rfl
  | some x => exact launchAt_member_ne x p q h

/-- A launch leaves records elsewhere than at a tray, other passes, and all but passes, ports and places. -/
structure Launches (j : JobId) (s t : State) : Prop where
  frame : t = { s with passes := t.passes, ports := t.ports, places := t.places }
  disc : ∀ q, (∀ p, q ≠ .tray p) → t.disc q = s.disc q
  pass : ∀ k, k ≠ j → t.pass k = s.pass k

theorem Launches.refl (s : State) : Launches j s s := ⟨rfl, fun _ _ => rfl, fun _ _ => rfl⟩

theorem Launches.trans {s t u : State} (h : Launches j s t) (g : Launches j t u) : Launches j s u where
  frame := by rw [g.frame, h.frame]
  disc q hq := (g.disc q hq).trans (h.disc q hq)
  pass k hk := (g.pass k hk).trans (h.pass k hk)

theorem launchMember_launches (s : State) (j : JobId) (p : PortId) : Launches j s (s.launchMember j p) := by
  by_cases h : s.armedIn j p
  · rw [launchMember_armed h]
    exact ⟨rfl, fun q hq => (disc_modDisc (s.modPass j _) (.tray p) q _).trans (if_neg (hq p)),
      fun k hk => (pass_modPass s j k _).trans (if_neg hk)⟩
  · rw [launchMember_not h]; exact Launches.refl s

end

section
variable (s : State) (j : JobId)

/-- The members' part of a launch, in port order. -/
@[irreducible] def State.launchMembers (s : State) (j : JobId) : State :=
  (numbers 16).foldl (fun s p => s.launchMember j p) s

theorem launch_eq : s.launch j =
    ((s.launchMembers j).modPass j fun x => { x with state := .running, closed := true }).raise (.passLaunched j) := by
  unfold State.launchMembers; rfl

theorem launchMembers_launches : Launches j s (s.launchMembers j) := by
  unfold State.launchMembers
  exact foldl_rel (f := fun (s : State) p => s.launchMember j p) Launches.refl Launches.trans
    (fun s p => launchMember_launches s j p) _ s

theorem launchMembers_pass :
    (s.launchMembers j).pass j = (s.pass j).map fun x => (numbers 16).foldl Pass.launchAt x := by
  unfold State.launchMembers
  rw [pass_foldl (h := Pass.launchAt) fun s p => launchMember_pass s j p]

/-- What a launch leaves at each port: an ARMED member is WRITING, its disc BURNING. -/
theorem launchMembers_bay (p : PortId) [Decidable (s.armedIn j p)] : (s.launchMembers j).bay p =
    if s.armedIn j p then { s.bay p with
      port := (s.port p).goto s.now .writing, disc := (s.disc (.tray p)).map fun d => { d with state := .burning } }
    else s.bay p := by
  unfold State.launchMembers
  obtain ⟨t, hw, hobs, -, hres⟩ := foldl_visit (R := Launches j) (obs := State.station j)
    (f := fun (s : State) p => s.launchMember j p) Launches.refl Launches.trans (fun s p => launchMember_launches s j p)
    (launchMember_station_ne j) (numbers_nodup 16) (mem_numbers p) s
  simp only [State.station, Prod.mk.injEq] at hobs hres
  have hnow : t.now = s.now := by rw [hw.frame]
  rw [hres.1]
  split
  · next h =>
    obtain ⟨m, hm, ha⟩ := h
    rw [launchMember_bay_self ⟨m, hobs.2.trans hm, ha⟩, hobs.1, hnow, ← bay_port, ← bay_disc, hobs.1]; rfl
  · next h =>
    rw [launchMember_not fun ⟨m, hm, ha⟩ => h ⟨m, hobs.2.symm.trans hm, ha⟩, hobs.1]

end

/-- What the launch's member treatment leaves of the pass. -/
theorem foldl_launchAt {x : Pass} (hw : x.wave.Pairwise Member.before) :
    (numbers 16).foldl Pass.launchAt x = { x with wave := x.wave.map Member.launched } := by
  have hframe : (numbers 16).foldl Pass.launchAt x = { x with wave := ((numbers 16).foldl Pass.launchAt x).wave } :=
    foldl_rel (R := fun a b : Pass => b = { a with wave := b.wave }) (f := Pass.launchAt) (fun _ => rfl)
      (fun {a b c} h g => by rw [g, h]) launchAt_frame (numbers 16) x
  rw [hframe, foldl_numbers_wave launched_port (fun _ => launched_dead) launchAt_wave hw]

/-! ## Writes (R54) -/

section
variable {s : State} {j : JobId} {n : PortId} {p : Pass} {m : Member}

theorem issueWrite_eq (hp : s.pass j = some p) (hm : p.member n = some m) : s.issueWrite j n =
    if m.status = .writing ∧ m.inFlight = none ∧ m.written < (s.job j).length ∧ p.state = .running ∧
        (16 * (m.written / 16 + 1) ≤ p.comp.head ∨ p.complete (s.job j)) then
      (s.modPass j fun x => x.mapMember n fun k => { k with inFlight := some (m.written / 16) }).issue n
        (.writeSegment (m.written / 16))
    else s := by
  rw [State.issueWrite, hp]
  simp only [hm]

end

end Sys2Proof.Machine

namespace Sys2Proof.Machine

/-! ## Jobs with nothing left (R7, R9), and WAVE_READY (R53) -/

section
variable {s s0 : State} {j : JobId}

theorem jobEmpty_iff : s.jobEmpty j = true ↔ (∀ r d, s.disc r = some d → d.job ≠ some j) ∧ s.pass j = none ∧
    ∀ m p, s.transport.move = some m → m.req.kind = .feed p j → m.phase ≠ .toSource ∧ m.phase ≠ .grip := by
  have hmove : (s.transport.move.any fun m => m.req.kind.isFeedOf j && m.beforeGrip) = false ↔
      ∀ m p, s.transport.move = some m → m.req.kind = .feed p j → m.phase ≠ .toSource ∧ m.phase ≠ .grip := by
    rw [← Bool.not_eq_true, Option.any_eq_true, not_exists]
    refine forall_congr' fun m => ?_
    rw [not_and, Bool.and_eq_true, not_and, Move.beforeGrip, decide_eq_true_iff, not_or]
    refine ⟨fun h p hm hk => h hm (by simp [hk, ReqKind.isFeedOf]), fun h hm hk => ?_⟩
    cases hreq : m.req.kind with
    | feed p k =>
      rw [hreq, ReqKind.isFeedOf, decide_eq_true_iff] at hk
      exact h p hm (hk ▸ hreq)
    | _ => rw [hreq] at hk; cases hk
  rw [State.jobEmpty, Bool.and_eq_true, Bool.and_eq_true, discsOf_isEmpty, Option.isNone_iff_eq_none,
    Bool.not_eq_true', hmove, and_assoc]

theorem completeJob_empty (h : s.jobEmpty j = true) : s.completeJob j =
    match (s.job j).state with
    | .draining => (s.modJob j fun x => { x with state := .opened }).raise (.jobComplete j)
    | .halting => (s.modJob j fun x => { x with state := .opened }).raise (.jobHalted j)
    | .closed | .opened | .running => s := if_pos h

theorem completeJob_stands
    (h : ¬ s.jobEmpty j = true ∨ ((s.job j).state ≠ .draining ∧ (s.job j).state ≠ .halting)) :
    s.completeJob j = s := by
  by_cases he : s.jobEmpty j = true
  · obtain ⟨hd, hh⟩ := h.resolve_left (not_not_intro he)
    rw [completeJob_empty he]
    cases hs : (s.job j).state with
    | draining => exact absurd hs hd
    | halting => exact absurd hs hh
    | _ => rfl
  · exact if_neg he

theorem waveReady_iff : s.waveReady j = true ↔ (s.job j).state = .running ∧ s.pass j = none ∧
    ∃ n, s.assigned n = some j ∧ (s.port n).state = .loaded := by
  simp only [State.waveReady, Bool.and_eq_true, decide_eq_true_eq, Option.isNone_iff_eq_none, List.any_eq_true,
    mem_numbers, true_and, and_assoc]

end

/-! ## What the blocks ask of the link (R30, R172, R175, R187) -/

/-- Entries at the end of the outbound queue. -/
def State.enqueue (s : State) (es : List OutEntry) : State := { s with link := { s.link with queue := s.link.queue ++ es } }

theorem enqueue_enqueue (s : State) (a b : List OutEntry) : (s.enqueue a).enqueue b = s.enqueue (a ++ b) := by
  simp only [State.enqueue, List.append_assoc]

theorem enqueue_nil (s : State) : s.enqueue [] = s := by simp only [State.enqueue, List.append_nil]

theorem request_eq (s : State) (e : OutEntry) :
    (s.modLink fun l => l.request e) = if e ∈ s.link.queue then s else s.enqueue [e] := by
  by_cases h : e ∈ s.link.queue <;> simp [State.modLink, Link.request, State.enqueue, h]

/-- Asking for distinct entries one after another appends those that are wanted and not in the queue, in their order; what
makes an entry wanted is none of the queue's. -/
theorem foldl_requests {want : State → α → Bool} {e : α → OutEntry} (he : Function.Injective e) (l : List α) :
    ∀ s : State, l.Nodup → (∀ es a, want (s.enqueue es) a = want s a) →
      l.foldl (fun s a => if want s a then s.modLink (fun x => x.request (e a)) else s) s =
        s.enqueue ((l.filter fun a => want s a && decide (e a ∉ s.link.queue)).map e) := by
  induction l with
  | nil => exact fun s _ _ => (enqueue_nil s).symm
  | cons a l ih =>
    intro s hnd hw
    obtain ⟨hal, hnd⟩ := List.nodup_cons.mp hnd
    rw [List.foldl_cons]
    by_cases h : want s a = true ∧ e a ∉ s.link.queue
    · obtain ⟨ha, hq⟩ := h
      have hrest : (l.filter fun b => want s b && decide (e b ∉ (s.enqueue [e a]).link.queue)) =
          l.filter fun b => want s b && decide (e b ∉ s.link.queue) := by
        refine List.filter_congr fun b hb => ?_
        have hne : e b ≠ e a := fun heq => hal (he heq ▸ hb)
        simp [State.enqueue, hne]
      rw [if_pos ha, request_eq, if_neg hq,
        ih _ hnd fun es b => by rw [enqueue_enqueue, hw, hw],
        List.filter_congr (q := fun b => want s b && decide (e b ∉ (s.enqueue [e a]).link.queue)) fun b _ => by rw [hw],
        hrest, enqueue_enqueue, List.filter_cons_of_pos (by simp [ha, hq])]
      rfl
    · have hstand : (if want s a then s.modLink (fun x => x.request (e a)) else s) = s := by
        split
        · next ha => rw [request_eq, if_pos (by_contra fun hq => h ⟨ha, hq⟩)]
        · rfl
      rw [hstand, ih s hnd hw, List.filter_cons_of_neg]
      simpa using h

theorem mem_enqueue {s : State} {e : OutEntry} {es : List OutEntry} (h : e ∉ es) :
    e ∈ (s.enqueue es).link.queue ↔ e ∈ s.link.queue := List.mem_append.trans (or_iff_left h)

/-- The CREDIT entries asked for at the end of an event (R30). -/
def State.creditsAsked (s0 s : State) : List OutEntry :=
  ((numbers 4).filter fun j => creditChanged s0 s j && decide (OutEntry.credit j ∉ s.link.queue)).map OutEntry.credit

/-- The NOTICE entries asked for at the end of an event (R172). -/
def State.noticesAsked (s : State) : List OutEntry :=
  (causeClasses.filter fun c => s.classReady c && decide (OutEntry.notice c ∉ s.link.queue)).map OutEntry.notice

/-- The REPORT entry asked for at the end of an event (R175). -/
def State.reportAsked (s : State) : List OutEntry :=
  if s.reportReady = true ∧ OutEntry.report ∉ s.link.queue then [.report] else []

theorem notice_not_mem_creditsAsked (s0 s : State) (c : CauseClass) : OutEntry.notice c ∉ State.creditsAsked s0 s := by
  intro h
  obtain ⟨j, -, hj⟩ := List.mem_map.mp h
  cases hj

theorem report_not_mem_asked (s0 s : State) : OutEntry.report ∉ State.creditsAsked s0 s ++ s.noticesAsked := by
  intro h
  rcases List.mem_append.mp h with h | h <;> obtain ⟨x, -, hx⟩ := List.mem_map.mp h <;> cases hx

theorem requestCredits_eq (s0 s : State) :
    (numbers 4).foldl (fun (s : State) j => if creditChanged s0 s j then s.requestCredit j else s) s =
      s.enqueue (State.creditsAsked s0 s) :=
  foldl_requests (want := creditChanged s0) (e := OutEntry.credit) (fun _ _ hx => OutEntry.credit.inj hx)
    (numbers 4) s (numbers_nodup 4) fun _ _ => rfl

/-- Credits asked for do not change which classes are ready. -/
theorem requestNotices_eq (s0 s : State) : causeClasses.foldl (fun (s : State) c =>
      if s.classReady c then s.modLink fun l => l.request (.notice c) else s) (s.enqueue (State.creditsAsked s0 s)) =
    s.enqueue (State.creditsAsked s0 s ++ s.noticesAsked) := by
  have hasked : (s.enqueue (State.creditsAsked s0 s)).noticesAsked = s.noticesAsked := by
    refine congrArg (List.map OutEntry.notice) (List.filter_congr fun c _ => ?_)
    have hready : (s.enqueue (State.creditsAsked s0 s)).classReady c = s.classReady c := rfl
    simp only [hready, mem_enqueue (notice_not_mem_creditsAsked s0 s c)]
  have hfold := foldl_requests (want := State.classReady) (e := OutEntry.notice) (fun _ _ hx => OutEntry.notice.inj hx)
    causeClasses (s.enqueue (State.creditsAsked s0 s)) (by decide) fun _ _ => rfl
  exact hfold.trans ((congrArg _ hasked).trans (enqueue_enqueue s _ _))

theorem requestReport_eq (s0 s : State) :
    (if (s.enqueue (State.creditsAsked s0 s ++ s.noticesAsked)).reportReady then
      (s.enqueue (State.creditsAsked s0 s ++ s.noticesAsked)).modLink fun l => l.request .report
    else s.enqueue (State.creditsAsked s0 s ++ s.noticesAsked)) =
      s.enqueue (State.creditsAsked s0 s ++ s.noticesAsked ++ s.reportAsked) := by
  have hready : (s.enqueue (State.creditsAsked s0 s ++ s.noticesAsked)).reportReady = s.reportReady := rfl
  rw [hready, request_eq, State.reportAsked]
  simp only [mem_enqueue (report_not_mem_asked s0 s)]
  by_cases hr : s.reportReady = true
  · by_cases hq : OutEntry.report ∈ s.link.queue
    · rw [if_pos hr, if_pos hq, if_neg fun hc => hc.2 hq, List.append_nil]
    · rw [if_pos hr, if_neg hq, if_pos ⟨hr, hq⟩, enqueue_enqueue]
  · rw [if_neg hr, if_neg fun hc => hr hc.1, List.append_nil]

/-- CREDIT entries, then NOTICE entries, then the REPORT entry (R187). -/
theorem outbound_eq {s0 s : State} (h : s.link.stage ≠ .answered) :
    State.outbound s0 s = s.enqueue (State.creditsAsked s0 s ++ s.noticesAsked ++ s.reportAsked) := by
  rw [State.outbound, if_neg h, State.requests]
  simp only [requestCredits_eq, requestNotices_eq, requestReport_eq]

end Sys2Proof.Machine

namespace Sys2Proof.Machine

/-! ## What the end of an event leaves of a pass (R51, R57, R58, R61) -/

section
variable {s : State} {j : JobId} {p : Pass}

/-- The abort of a pass whose wave is empty, written out (R61, R62, R178). -/
theorem abortPass_waveEmpty (hp : s.pass j = some p) (hl : p.live = true) (h : p.wave.any Member.live = false) :
    s.abortPass j .waveEmpty none = { s with
      passes := upd s.passes j (some { p with
        state := .aborted, cause := some .waveEmpty
        comp := { p.comp with accumulator := none, blocked := false } })
      jobs := upd s.jobs j { s.job j with
        digest := if (s.job j).digest = .building then .empty else (s.job j).digest
        fault := FaultRecord.take (s.job j).fault ⟨.waveEmpty, some p.number, none, none, none, 0⟩ }
      notices := { s.notices with pass := s.notices.pass.raise (.passAborted j) } } :=
  abortPass_empty hp hl h _ _

/-- The limit and the stragglers are those of the examined pass. -/
def State.stragglersOf (s : State) (j : JobId) (p : Pass) : List Member :=
  (p.examine (s.job j)).stragglers (s.job j).lagLimit

/-- Ingress of a RUNNING pass is newly blocked, and there are stragglers (R57). -/
structure State.Cuts (s : State) (j : JobId) (p : Pass) : Prop where
  pass : s.pass j = some p
  blocked : (p.examine (s.job j)).comp.blocked = true
  before : p.comp.blocked = false
  running : p.state = .running
  nonempty : s.stragglersOf j p ≠ []

/-- The pass examined, then its stragglers cut (R58). -/
def State.afterCuts (s : State) (j : JobId) (p : Pass) : State :=
  (s.setPass j (some (p.examine (s.job j)))).cutAll j (s.stragglersOf j p)

theorem State.Cuts.examine_eq (h : s.Cuts j p) :
    s.examine j = (s.afterCuts j p).modPass j fun x => x.examine (s.job j) :=
  examine_cuts h.pass (live_of_running h.running) h.blocked h.before h.running h.nonempty

theorem stragglersOf_sublist (s : State) (j : JobId) (p : Pass) : (s.stragglersOf j p).Sublist p.wave := by
  have hwave : (p.examine (s.job j)).wave = p.wave := by rw [Pass.examine_frame]
  exact hwave ▸ stragglers_sublist _ _

theorem stragglersOf_writing {m : Member} (hm : m ∈ s.stragglersOf j p) : m.status = .writing := stragglers_writing hm

/-- The cut members are CUT in the wave and counted; then the pass is examined again. -/
theorem State.Cuts.pass_after (h : s.Cuts j p) (hw : p.wave.Pairwise Member.before) (hc : p.cut ≤ 16) :
    (s.examine j).pass j = some (Pass.examine (s.job j) { p.examine (s.job j) with
      cut := min 16 (p.cut + (s.stragglersOf j p).length)
      wave := p.wave.map fun m => if m ∈ s.stragglersOf j p then m.left .cut else m }) := by
  have hq : (p.examine (s.job j)).wave = p.wave ∧ (p.examine (s.job j)).cut = p.cut := by
    rw [Pass.examine_frame]; exact ⟨rfl, rfl⟩
  have hsub := stragglersOf_sublist s j p
  rw [h.examine_eq, pass_modPass_self, State.afterCuts, cutAll_pass, pass_setPass_self, Option.map_some,
    Option.map_some, foldl_cut_rest, foldl_cut_count (by rw [hq.2]; exact hc),
    cut_wave (hq.1 ▸ hw) (hq.1 ▸ hsub) fun m hm => stragglersOf_writing hm, List.length_map, hq.1, hq.2]

/-- A cut member's write is ended and its disc scrapped as a STRAGGLER at the LBA it had written. -/
theorem State.Cuts.bay_after (h : s.Cuts j p) (hw : p.wave.Pairwise Member.before) {m : Member}
    (hm : m ∈ s.stragglersOf j p) : (s.examine j).bay m.port = { s.bay m.port with
      port := (s.port m.port).stopped s.now s.timing
      disc := (s.disc (.tray m.port)).map fun d => d.scrap .straggler (some m.written) } := by
  rw [h.examine_eq, bay_modPass, State.afterCuts, cutAll_bay _ _ (writing_ports_nodup hw (stragglersOf_sublist s j p)
    fun m hm => stragglersOf_writing hm) hm]
  rfl

/-- Ports of members that are not cut stand. -/
theorem State.Cuts.bay_stands (h : s.Cuts j p) {n : PortId} (hn : ∀ m ∈ s.stragglersOf j p, m.port ≠ n) :
    (s.examine j).bay n = s.bay n := by
  rw [h.examine_eq, bay_modPass, State.afterCuts, cutAll_bay_ne _ _ hn]
  rfl

/-- Cuts touch records at trays, the job's pass, and fault records. -/
theorem State.Cuts.work (h : s.Cuts j p) : PortWork s (s.examine j) := by
  have hset : PortWork s (s.setPass j (some (p.examine (s.job j)))) :=
    ⟨rfl, fun _ _ => rfl, fun _ => rfl, fun _ => faultGrows_refl _⟩
  rw [h.examine_eq]
  exact hset.trans ((cutAll_work _ j _).trans (modPass_work _ j _))

theorem State.Cuts.otherPass (h : s.Cuts j p) {k : JobId} (hk : k ≠ j) : (s.examine j).pass k = s.pass k := by
  rw [h.examine_eq, pass_modPass, if_neg hk, State.afterCuts, cutAll_otherPass _ j _ hk, pass_setPass, if_neg hk]

/-- The first straggler in wave order fills a fault record that is not valid (log 52). -/
theorem State.Cuts.fills (h : s.Cuts j p) {m : Member} {rest : List Member} {d : Disc}
    (hc : s.stragglersOf j p = m :: rest) (hd : s.disc (.tray m.port) = some d) (hj : d.job = some j)
    (hf : (s.job j).fault = none) :
    ∃ f, ((s.examine j).job j).fault = some ⟨.straggler, d.pass, some m.port, some m.written, some d.tag, f⟩ := by
  obtain ⟨f, hfill⟩ := cutAll_fills (s.setPass j (some (p.examine (s.job j)))) j (rest := rest) hd hj hf
  refine ⟨f, ?_⟩
  rw [h.examine_eq, State.afterCuts, hc]
  exact hfill

/-- What the launch leaves of the pass (R51). -/
theorem launch_pass (hp : s.pass j = some p) (hw : p.wave.Pairwise Member.before) : (s.launch j).pass j =
    some { p with state := .running, closed := true, wave := p.wave.map Member.launched } := by
  rw [launch_eq, pass_raise, pass_modPass_self, launchMembers_pass, hp, Option.map_some, Option.map_some,
    foldl_launchAt hw]

/-- What the launch leaves at each port. -/
theorem launch_bay (n : PortId) [Decidable (s.armedIn j n)] : (s.launch j).bay n =
    if s.armedIn j n then { s.bay n with
      port := (s.port n).goto s.now .writing, disc := (s.disc (.tray n)).map fun d => { d with state := .burning } }
    else s.bay n := by
  rw [launch_eq, bay_raise, bay_modPass, launchMembers_bay]

theorem launch_notices (s : State) (j : JobId) :
    (s.launch j).notices = { s.notices with pass := s.notices.pass.raise (.passLaunched j) } := by
  have hn : (s.launchMembers j).notices = s.notices := by rw [(launchMembers_launches s j).frame]
  rw [launch_eq]
  exact congrArg (fun x : Notices => { x with pass := x.pass.raise (.passLaunched j) }) hn

end

end Sys2Proof.Machine

namespace Sys2Proof.Machine

/-! ## WAVE_READY, as the model raises it and as O53 reads it (R53) -/

/-- The first state given is the one before the event: the notice is raised in the second. -/
theorem raiseWaveReady_eq (s0 s : State) (j : JobId) : State.raiseWaveReady s0 s j =
    if s.waveReady j = true ∧ s0.waveReady j = false then
      { s with notices := { s.notices with pass := s.notices.pass.raise (.waveReady j) } }
    else s := by
  refine (if_congr ?_ rfl rfl)
  rw [Bool.and_eq_true, Bool.not_eq_true']

theorem reset_not_waveReady (j : JobId) : State.reset.waveReady j = false := by
  rw [← Bool.not_eq_true, waveReady_iff, reset_job]
  exact fun h => absurd h.1 (by decide)

/-- Refutes O53: in its clause on WAVE_READY `s.raiseWaveReady s0 j` gives the model's function `s` as the state before the
event and `s0` as the state at its end, so with the condition nowhere true the result is `s0`, where the clause claims `s`.
The part at reset and the same part 1 ms later differ in the time. What the model does at the end of an event is said by
`settle_eq`, `settleJob_eq`, the lemmas on `endPass` and `examine`, those of `State.Cuts`, `launch_pass`, `launch_bay`,
`issueWrite_eq`, those on `completeJob`, `raiseWaveReady_eq` and `outbound_eq`. -/
theorem not_endOfEventRunsPasses : ¬ Obligations.EndOfEventRunsPasses := by
  unfold Obligations.EndOfEventRunsPasses
  rintro ⟨-, -, -, -, -, -, -, -, hready, -⟩
  have hclaimed : State.raiseWaveReady State.reset { State.reset with now := 1 } 0 = State.reset :=
    (hready { State.reset with now := 1 } State.reset 0).2 (.inl fun hr => by
      have := reset_not_waveReady 0
      rw [waveReady_iff.mpr hr] at this
      cases this)
  have hmodel : State.raiseWaveReady State.reset { State.reset with now := 1 } 0 = { State.reset with now := 1 } := by
    rw [raiseWaveReady_eq, if_neg]
    rintro ⟨h, -⟩
    have hw : ({ State.reset with now := 1 } : State).waveReady 0 = State.reset.waveReady 0 := rfl
    rw [hw, reset_not_waveReady] at h
    cases h
  have hnow := congrArg State.now (hmodel.symm.trans hclaimed)
  exact absurd hnow (by decide)

end Sys2Proof.Machine

namespace Sys2Proof.Machine

/-! ## Requests queued and granted (R137) -/

section
variable {s : State} {n : PortId} {j : JobId} {k : ReqKind} {f : ReqKind → Bool}

theorem isFeedFor_iff : k.isFeedFor n = true ↔ ∃ j, k = .feed n j := by
  cases k <;> simp [ReqKind.isFeedFor]

theorem isUnloadFor_iff : k.isUnloadFor n = true ↔ ∃ tag, k = .unload n tag := by
  cases k <;> simp [ReqKind.isUnloadFor]

theorem isFeedOf_iff : k.isFeedOf j = true ↔ ∃ p, k = .feed p j := by
  cases k <;> simp [ReqKind.isFeedOf]

theorem ofPort_iff : k.ofPort n = true ↔ (∃ j, k = .feed n j) ∨ ∃ tag, k = .unload n tag := by
  rw [ReqKind.ofPort, Bool.or_eq_true, isFeedFor_iff, isUnloadFor_iff]

theorem queued_iff : s.queued f = true ↔ ∃ r ∈ s.transport.queue, f r.kind = true := List.any_eq_true

theorem granted_iff : s.granted f = true ↔ ∃ m, s.transport.move = some m ∧ f m.req.kind = true := Option.any_eq_true _ _

theorem queued_feedFor : s.queued (ReqKind.isFeedFor n) = true ↔ ∃ r ∈ s.transport.queue, ∃ j, r.kind = .feed n j := by
  simp only [queued_iff, isFeedFor_iff]

theorem queued_unloadFor :
    s.queued (ReqKind.isUnloadFor n) = true ↔ ∃ r ∈ s.transport.queue, ∃ tag, r.kind = .unload n tag := by
  simp only [queued_iff, isUnloadFor_iff]

theorem queued_ofPort : s.queued (ReqKind.ofPort n) = true ↔
    (∃ r ∈ s.transport.queue, ∃ j, r.kind = .feed n j) ∨ ∃ r ∈ s.transport.queue, ∃ tag, r.kind = .unload n tag := by
  simp only [queued_iff, ofPort_iff, and_or_left, exists_or]

theorem granted_isFeedFor :
    s.granted (ReqKind.isFeedFor n) = true ↔ ∃ m, s.transport.move = some m ∧ ∃ j, m.req.kind = .feed n j := by
  simp only [granted_iff, isFeedFor_iff]

theorem granted_ofPort : s.granted (ReqKind.ofPort n) = true ↔
    (∃ m, s.transport.move = some m ∧ ∃ j, m.req.kind = .feed n j) ∨
      ∃ m, s.transport.move = some m ∧ ∃ tag, m.req.kind = .unload n tag := by
  simp only [granted_iff, ofPort_iff, and_or_left, exists_or]

theorem hasRequest_iff : s.hasRequest n = true ↔
    s.queued (ReqKind.ofPort n) = true ∨ s.granted (ReqKind.ofPort n) = true := by
  rw [State.hasRequest, Bool.or_eq_true]

end

/-! ## What stands in the queue (R137 to R142) -/

section
variable (s : State)

theorem pruneRequests_eq : s.pruneRequests = { s with transport := { s.transport with
    queue := s.transport.queue.filter fun r => s.keeps r.kind
    held := s.transport.held.filter fun n => decide ((s.port n).state = .trayOpen) } } := by
  simp only [State.pruneRequests, State.removeRequests, State.modTransport, Bool.not_not]

theorem keeps_feed (n : PortId) (j : JobId) : s.keeps (.feed n j) = true ↔ (s.job j).state = .running ∧
    s.assigned n = some j ∧ (s.port n).state ∈ [PortState.idle, .standby, .opening, .trayOpen] := by
  rw [State.keeps, Bool.and_eq_true, Bool.and_eq_true, decide_eq_true_iff, decide_eq_true_iff, and_assoc]
  refine and_congr_right fun _ => and_congr_right fun _ => ?_
  cases (s.port n).state <;> decide

theorem keeps_unload (n : PortId) (tag : Half) :
    s.keeps (.unload n tag) = true ↔ ∃ d, s.disc (.tray n) = some d ∧ d.tag = tag := by
  rw [State.keeps, decide_eq_true_iff, Option.map_eq_some_iff]

theorem keeps_printLoad : s.keeps .printLoad = true ↔ s.transport.shelfOrder ≠ [] := by
  rw [State.keeps, Bool.not_eq_true', List.isEmpty_eq_false_iff]

theorem keeps_printUnload (tag : Half) : s.keeps (.printUnload tag) = true ↔
    ∃ d, s.disc .platter = some d ∧ d.tag = tag ∧ (d.state = .finished ∨ d.state = .scrap) := by
  simp only [State.keeps, Option.any_eq_true, decide_eq_true_iff]

theorem keeps_recover (q : Place) (tag : Half) : s.keeps (.recover q tag) = true ↔
    ∃ d, s.disc q = some d ∧ d.tag = tag ∧ (q = .arm ∨ d.state = .orphan) := by
  simp only [State.keeps, Option.any_eq_true, decide_eq_true_iff]

theorem keeps_host (q : Place) (st : Station) (tag : Half) : s.keeps (.host q st tag) = true ↔
    ∃ d, s.disc q = some d ∧ d.tag = tag ∧ s.mayArrive d st = true := by
  simp only [State.keeps, Option.any_eq_true, Bool.and_eq_true, decide_eq_true_iff]

end

/-! ## Requests the end of an event creates (R138 to R140) -/

section
variable {s : State} {n : PortId} {j : JobId}

theorem createUnload_done {d : Disc} (hs : (s.port n).state = .done) (hq : ¬ s.queued (ReqKind.ofPort n) = true)
    (hd : s.disc (.tray n) = some d) : s.createUnload n = s.createRequest (.unload n d.tag) := by
  rw [State.createUnload, if_pos ⟨hs, by simpa using hq⟩, hd]

theorem createUnload_not (h : (s.port n).state ≠ .done ∨ s.queued (ReqKind.ofPort n) = true ∨ s.disc (.tray n) = none) :
    s.createUnload n = s := by
  unfold State.createUnload
  split
  · next hc =>
    have hd : s.disc (.tray n) = none := (h.resolve_left (not_not_intro hc.1)).resolve_left (by simpa using hc.2)
    rw [hd]
  · rfl

/-- The granted FEED move of a job before its grip counts as one (R12). -/
theorem feedCount_eq (s : State) (j : JobId) : ∃ moving : Nat,
    s.feedCount j = (s.transport.queue.filter fun r => r.kind.isFeedOf j).length + moving ∧ moving ≤ 1 ∧
    (moving = 1 ↔ ∃ m p, s.transport.move = some m ∧ m.req.kind = .feed p j ∧
      (m.phase = .toSource ∨ m.phase = .grip)) := by
  refine ⟨if s.transport.move.any fun m => m.req.kind.isFeedOf j && m.beforeGrip then 1 else 0, rfl, ?_, ?_⟩
  · split <;> decide
  · have hany : (s.transport.move.any fun m => m.req.kind.isFeedOf j && m.beforeGrip) = true ↔
        ∃ m p, s.transport.move = some m ∧ m.req.kind = .feed p j ∧ (m.phase = .toSource ∨ m.phase = .grip) := by
      simp only [Option.any_eq_true, Bool.and_eq_true, isFeedOf_iff, Move.beforeGrip, decide_eq_true_iff]
      exact exists_congr fun m => ⟨fun ⟨hm, ⟨p, hp⟩, hg⟩ => ⟨p, hm, hp, hg⟩, fun ⟨p, hm, hp, hg⟩ => ⟨hm, ⟨p, hp⟩, hg⟩⟩
    rw [← hany]
    split
    · next h => simp [h]
    · next h => simp [h]

theorem mayFeed_iff : s.mayFeed n j = true ↔ s.assigned n = some j ∧ (s.job j).state = .running ∧
    ((s.job j).target = 0 ∨ ∃ moving : Nat, (moving = 1 ↔ ∃ m p, s.transport.move = some m ∧ m.req.kind = .feed p j ∧
        (m.phase = .toSource ∨ m.phase = .grip)) ∧ moving ≤ 1 ∧
      (s.discsOf j).length + (s.job j).counters.deliveredPass + (s.job j).counters.deliveredMarginal
        + (s.job j).counters.deliveredUnverified + (s.transport.queue.filter fun r => r.kind.isFeedOf j).length
        + moving < (s.job j).target) := by
  obtain ⟨c, hc, hle, hiff⟩ := feedCount_eq s j
  simp only [State.mayFeed, Bool.and_eq_true, Bool.or_eq_true, decide_eq_true_eq, and_assoc, hc, Counters.delivered]
  refine and_congr_right fun _ => and_congr_right fun _ => or_congr_right ⟨fun h => ⟨c, hiff, hle, by omega⟩, ?_⟩
  rintro ⟨m, hm, hml, hlt⟩
  have hsame : m = 1 ↔ c = 1 := hm.trans hiff.symm
  omega

theorem feedPort_creates (hs : (s.port n).state = .idle ∨ (s.port n).state = .standby) (hr : ¬ s.hasRequest n = true)
    (hf : s.mayFeed n j = true) : s.feedPort n = s.createRequest (.feed n j) := by
  rw [State.feedPort, if_pos ⟨hs, by simpa using hr⟩, State.createFeed, (mayFeed_iff.mp hf).1]
  exact if_pos hf

theorem feedPort_not (h : ¬ ((s.port n).state = .idle ∨ (s.port n).state = .standby) ∨ s.hasRequest n = true ∨
    ∀ j, ¬ s.mayFeed n j = true) : s.feedPort n = s := by
  unfold State.feedPort
  split
  · next hc =>
    have hno : ∀ j, ¬ s.mayFeed n j = true := (h.resolve_left (not_not_intro hc.1)).resolve_left (by simpa using hc.2)
    unfold State.createFeed
    split
    · rfl
    · next j _ => exact if_neg (hno j)
  · rfl

theorem createPrintLoad_eq : s.createPrintLoad =
    if s.transport.shelfOrder = [] ∨ s.queued (fun k => decide (k = .printLoad)) = true ∨
      s.granted (fun k => decide (k = .printLoad)) = true then s else s.createRequest .printLoad := by
  refine if_congr ?_ rfl rfl
  rw [Bool.or_eq_true, Bool.or_eq_true, List.isEmpty_iff, or_assoc]

/-! ## What a port does for its requests (R77 to R81) -/

theorem busy_iff {q : Port} : q.busy = false ↔ q.cmd = none ∧ q.afterReset = none := by
  rw [Port.busy, Bool.or_eq_false_iff, Option.isSome_eq_false_iff, Option.isSome_eq_false_iff,
    Option.isNone_iff_eq_none, Option.isNone_iff_eq_none]

theorem servePort_busy (h : (s.port n).busy = true) : s.servePort n = s := if_pos h

theorem servePort_free (h : (s.port n).busy = false) : s.servePort n = match (s.port n).state with
    | .idle => if s.queued (ReqKind.isFeedFor n) then s.goOpening n .feed else s
    | .standby => if s.queued (ReqKind.isFeedFor n) then s.issue n .wake else s
    | .done => if s.queued (ReqKind.isUnloadFor n) then s.goOpening n .unload else s
    | .trayOpen =>
      if (s.port n).errand = .feed ∧ !s.queued (ReqKind.isFeedFor n) ∧ !s.granted (ReqKind.isFeedFor n) ∧
        n ∉ s.transport.held then s.goClosing n else s
    | _ => s := by
  refine (if_neg (by simp [h])).trans ?_
  cases (s.port n).state <;> rfl

theorem goOpening_eq (s : State) (n : PortId) (e : Errand) : s.goOpening n e = { s with
    ports := upd s.ports n (Port.issue s.now s.timing .openTray 0 { (s.port n).goto s.now .opening with errand := e }) } := by
  simp only [State.goOpening, State.issue, State.modPort, State.port, nth_upd_self, upd_upd]

theorem goClosing_open (h : (s.port n).state = .trayOpen) : s.goClosing n = { s with
    ports := upd s.ports n (Port.issue s.now s.timing .closeTray 0 { s.port n with state := .closing }) } := by
  have hgoto : (s.port n).goto s.now .closing = { s.port n with state := .closing } := by
    rw [Port.goto, h]; rfl
  rw [← hgoto]
  simp only [State.goClosing, State.gotoPort, State.issue, State.modPort, State.port, nth_upd_self, upd_upd]

end

end Sys2Proof.Machine

namespace Sys2Proof.Machine

/-! ## Destinations (R139 to R141) -/

section
variable (s : State)

theorem printerFree_iff : s.printerFree = true ↔
    s.disc .platter = none ∧ s.sensors.platter = false ∧ s.printer.state = .empty := by
  rw [State.printerFree, State.platterFree, Bool.and_eq_true, Bool.and_eq_true, Option.isNone_iff_eq_none,
    Bool.not_eq_true', decide_eq_true_iff, and_assoc]

theorem shelfFree_iff (k : SlotId) :
    s.shelfFree k = true ↔ s.disc (.shelf k) = none ∧ nth s.sensors.shelf k = false := by
  rw [State.shelfFree, Bool.and_eq_true, Option.isNone_iff_eq_none, Bool.not_eq_true']

theorem outAvailable_iff (b : OutBin) :
    s.available (.out b) = true ↔ s.sensors.bins.get (.full b) = false ∧ s.notices.reports.length < 32 := by
  rw [State.available, State.outAvailable, Bool.and_eq_true, Bool.not_eq_true', decide_eq_true_iff]
  rfl

theorem printable_iff (j : JobId) (g : Option Grade) : s.printable j g = true ↔ (s.job j).template.isSome ∧
    (g = some .pass ∨ g = some .unverified ∨
      (g = some .marginal ∧ (s.profile (s.job j).profile).printMarginal = true)) := by
  rcases g with _ | (_ | _ | _ | _) <;> simp [State.printable]

variable {s} {d : Disc} {j : JobId}

theorem unloadDest_discard (h : d.state = .scrap ∨ d.state = .orphan) : s.unloadDest d = some (.out .x) := by
  rcases h with h | h <;> rw [State.unloadDest, h]

theorem unloadDest_returning (hj : d.job = some j) (h : d.state = .returning) :
    s.unloadDest d = some (.bin (s.job j).bin) := by
  rw [State.unloadDest, h, hj]

theorem unloadDest_graded (hj : d.job = some j) (h : d.state = .graded) : s.unloadDest d =
    if s.printable j d.grade then
      if s.printerFree then some .platter else ((numbers 4).find? s.shelfFree).map .shelf
    else some (.out (s.gradeBin j d.grade)) := by
  rw [State.unloadDest, h, hj]

/-- The first of the numbers that meets a condition. -/
theorem find_numbers_first {f : Fin n → Bool} {k : Fin n} (hk : f k = true) (hfirst : ∀ i, i < k → ¬ f i = true) :
    (numbers n).find? f = some k := by
  obtain ⟨before, after, hsplit, hlt⟩ := numbers_split k
  rw [List.find?_eq_some_iff_append]
  exact ⟨hk, before, after, hsplit, fun i hi => by simpa using hfirst i (hlt i hi)⟩

theorem find_numbers_none {f : Fin n → Bool} (h : ∀ k, ¬ f k = true) : (numbers n).find? f = none :=
  List.find?_eq_none.mpr fun k _ => h k

theorem printUnloadDest_eq (d : Disc) : printUnloadDest d =
    if d.state = .finished then (if d.grade = some .marginal then .out .o1 else .out .o0) else .out .x := by
  unfold printUnloadDest
  split
  · next hs hg => rw [if_pos hs, if_pos hg]
  · next hs hg => rw [if_pos hs]; exact (if_neg hg).symm
  · next h _ => exact (if_neg h).symm

end

/-! ## Eligibility (R138 to R142) -/

section
variable {s : State} {k : ReqKind} {src : Source} {dest : Station} {tag : Option Half}

theorem eligible_unresolved (h : s.resolve k = none) : s.eligible k = false := by rw [State.eligible, h]

theorem eligible_resolved (h : s.resolve k = some (src, dest, tag)) : s.eligible k = true ↔
    s.kindReady k = true ∧ s.available dest = true ∧ (src = .place .arm → s.sensors.gripPresent = true) ∧
      (src ≠ .place .arm → s.disc .arm = none) := by
  rw [State.eligible, h]
  simp only [Bool.and_eq_true, Bool.or_eq_true, decide_eq_true_iff, Option.isNone_iff_eq_none, and_assoc,
    ← imp_iff_not_or, ne_eq]
  refine and_congr_right fun _ => and_congr_right fun _ => ?_
  rw [or_iff_not_imp_left]
  exact and_comm

/-- With a source that is not ARM the gripper must be free. -/
theorem eligible_from (h : s.resolve k = some (src, dest, tag)) (hsrc : src ≠ .place .arm) : s.eligible k = true ↔
    s.kindReady k = true ∧ s.available dest = true ∧ s.disc .arm = none := by
  rw [eligible_resolved h]
  exact and_congr_right fun _ => and_congr_right fun _ => ⟨fun hc => hc.2 hsrc, fun hc => ⟨fun e => absurd e hsrc, fun _ => hc⟩⟩

/-- With a place as its source. -/
theorem eligible_place {q : Place} (h : s.resolve k = some (.place q, dest, tag)) : s.eligible k = true ↔
    s.kindReady k = true ∧ s.available dest = true ∧ (q = .arm → s.sensors.gripPresent = true) ∧
      (q ≠ .arm → s.disc .arm = none) := by
  rw [eligible_resolved h]
  simp only [Source.place.injEq, ne_eq]

variable (s)

theorem eligible_feed (n : PortId) (j : JobId) : s.eligible (.feed n j) = true ↔ (s.port n).state = .trayOpen ∧
    (s.port n).errand = .feed ∧ nth s.transport.marks (s.job j).bin = false ∧ s.disc .arm = none := by
  rw [eligible_from (s := s) (k := .feed n j) rfl (by simp)]
  simp only [State.kindReady, State.available, Bool.and_eq_true, decide_eq_true_iff, Bool.not_eq_true', and_assoc, true_and]

theorem eligible_unload (n : PortId) (tag : Half) : s.eligible (.unload n tag) = true ↔
    (s.port n).state = .trayOpen ∧ (s.port n).errand = .unload ∧ s.disc .arm = none ∧
    ∃ d st, s.disc (.tray n) = some d ∧ s.unloadDest d = some st ∧ s.available st = true := by
  cases hd : (s.disc (.tray n)).bind s.unloadDest with
  | none =>
    rw [eligible_unresolved (by rw [State.resolve, hd]; rfl)]
    refine iff_of_false (by decide) ?_
    rintro ⟨-, -, -, d, st, hdd, hst, -⟩
    rw [hdd, Option.bind_some, hst] at hd
    cases hd
  | some st =>
    obtain ⟨d, hdd, hst⟩ := Option.bind_eq_some_iff.mp hd
    rw [eligible_from (src := .place (.tray n)) (dest := st) (tag := some tag) (by rw [State.resolve, hd]; rfl) (by simp)]
    simp only [State.kindReady, decide_eq_true_iff, and_assoc]
    refine and_congr_right fun _ => and_congr_right fun _ => ⟨fun ⟨ha, hn⟩ => ⟨hn, d, st, hdd, hst, ha⟩, ?_⟩
    rintro ⟨hn, e, st', he, hst', ha⟩
    cases hdd.symm.trans he
    cases hst.symm.trans hst'
    exact ⟨ha, hn⟩

theorem eligible_printLoad : s.eligible .printLoad = true ↔
    s.transport.shelfOrder ≠ [] ∧ s.available .platter = true ∧ s.disc .arm = none := by
  cases hl : s.transport.shelfOrder with
  | nil => simp [State.eligible, State.resolve, hl]
  | cons k rest =>
    rw [eligible_from (src := .place (.shelf k)) (dest := .platter) (tag := (s.disc (.shelf k)).map Disc.tag)
      (by rw [State.resolve, hl]; rfl) (by simp)]
    simp [State.kindReady]

theorem eligible_printUnload (tag : Half) : s.eligible (.printUnload tag) = true ↔ s.disc .arm = none ∧
    ∃ d, s.disc .platter = some d ∧ s.available (if d.state = .finished then
      (if d.grade = some .marginal then .out .o1 else .out .o0) else .out .x) = true := by
  cases hd : s.disc .platter with
  | none => simp [State.eligible, State.resolve, hd]
  | some d =>
    rw [eligible_from (src := .place .platter) (dest := printUnloadDest d) (tag := some tag)
      (by rw [State.resolve, hd]; rfl) (by simp), printUnloadDest_eq]
    simp [State.kindReady, and_comm]

theorem eligible_recover (q : Place) (tag : Half) : s.eligible (.recover q tag) = true ↔
    s.available (.out .x) = true ∧ (q = .arm → s.sensors.gripPresent = true) ∧ (q ≠ .arm → s.disc .arm = none) := by
  rw [eligible_place (s := s) (k := .recover q tag) rfl]
  exact and_iff_right rfl

theorem eligible_host (q : Place) (st : Station) (tag : Half) : s.eligible (.host q st tag) = true ↔
    s.available st = true ∧ ((q = .arm → s.sensors.gripPresent = true) ∧ (q ≠ .arm → s.disc .arm = none)) ∧
    ∀ n, q = .tray n → (s.port n).state = .trayOpen ∨ (s.port n).state = .faulted := by
  rw [eligible_place (s := s) (k := .host q st tag) rfl]
  have hkind : s.kindReady (.host q st tag) = true ↔
      ∀ n, q = .tray n → (s.port n).state = .trayOpen ∨ (s.port n).state = .faulted := by
    cases q <;> simp [State.kindReady]
  rw [hkind, and_comm, and_assoc]

end

/-! ## The arbiter (R143) -/

/-- Transport can grant a request: no move runs, no pause is pending, and it is READY or PAUSED. -/
abbrev State.mayGrant (s : State) : Prop := s.transport.move = none ∧ s.transport.pausePending = false ∧
  (s.transport.state = .ready ∨ s.transport.state = .paused)

/-- A request is open to a grant: eligible, and READY or a HOST request. -/
def State.openTo (s : State) (r : Request) : Bool :=
  s.eligible r.kind && (decide (s.transport.state = .ready) || r.kind.isHost)

theorem isHost_iff {k : ReqKind} : k.isHost = true ↔ k.rank = 0 := by cases k <;> simp [ReqKind.isHost, ReqKind.rank]

theorem rank_mem (k : ReqKind) : k.rank ∈ [0, 1, 2, 3, 4, 5] := by cases k <;> simp [ReqKind.rank]

section
variable {s : State}

theorem openTo_iff {r : Request} : s.openTo r = true ↔
    s.eligible r.kind = true ∧ (s.transport.state = .ready ∨ r.kind.rank = 0) := by
  rw [State.openTo, Bool.and_eq_true, Bool.or_eq_true, decide_eq_true_iff, isHost_iff]

theorem choice_barred (h : ¬ s.mayGrant) : s.choice = none := by
  refine if_pos ?_
  by_contra hc
  simp only [Bool.or_eq_true, Bool.not_eq_true', Bool.or_eq_false_iff, decide_eq_false_iff_not, not_or, not_and,
    not_not, Bool.not_eq_true, Option.isSome_eq_false_iff, Option.isNone_iff_eq_none] at hc
  obtain ⟨⟨hm, hp⟩, hs⟩ := hc
  exact h ⟨hm, hp, or_iff_not_imp_left.mpr hs⟩

theorem choice_free (h : s.mayGrant) : s.choice = [0, 1, 2, 3, 4, 5].findSome? fun c =>
    s.transport.queue.find? fun r => decide (r.kind.rank = c) && s.openTo r := by
  obtain ⟨hm, hp, hs⟩ := h
  refine if_neg ?_
  simp only [hm, hp, Option.isSome_none, Bool.or_self, Bool.false_or, Bool.not_eq_true', Bool.or_eq_false_iff,
    decide_eq_false_iff_not]
  exact fun hc => hs.elim hc.1 hc.2

theorem choice_none (h : ∀ r ∈ s.transport.queue, ¬ s.openTo r = true) : s.choice = none := by
  by_cases hg : s.mayGrant
  · rw [choice_free hg, List.findSome?_eq_none_iff]
    refine fun c _ => List.find?_eq_none.mpr fun r hr hc => h r hr ?_
    rw [Bool.and_eq_true] at hc
    exact hc.2
  · exact choice_barred hg

/-- The arbiter takes the first open request of the highest class that has one. -/
theorem choice_first {r : Request} {before after : List Request} (hg : s.mayGrant)
    (hq : s.transport.queue = before ++ r :: after) (hr : s.openTo r = true)
    (hb : ∀ q ∈ before, s.openTo q = true → r.kind.rank < q.kind.rank)
    (ha : ∀ q ∈ after, s.openTo q = true → r.kind.rank ≤ q.kind.rank) : s.choice = some r := by
  obtain ⟨higher, lower, hsplit⟩ := List.append_of_mem (rank_mem r.kind)
  have hlt : ∀ c ∈ higher, c < r.kind.rank := fun c hc => by
    have hsorted : ([0, 1, 2, 3, 4, 5] : List Nat).Pairwise (· < ·) := by decide
    rw [hsplit, List.pairwise_append] at hsorted
    exact hsorted.2.2 c hc _ (by simp)
  rw [choice_free hg, hsplit, List.findSome?_eq_some_iff]
  refine ⟨higher, r.kind.rank, lower, rfl, ?_, fun c hc => List.find?_eq_none.mpr fun q hmem hf => ?_⟩
  · rw [hq, List.find?_eq_some_iff_append]
    refine ⟨by simp [hr], before, after, rfl, fun q hmem => ?_⟩
    rw [Bool.not_eq_true', ← Bool.not_eq_true, Bool.and_eq_true, decide_eq_true_iff]
    exact fun ⟨he, ho⟩ => absurd (hb q hmem ho) (by omega)
  · rw [Bool.and_eq_true, decide_eq_true_iff] at hf
    obtain ⟨he, ho⟩ := hf
    have hle : r.kind.rank ≤ q.kind.rank := by
      rw [hq, List.mem_append, List.mem_cons] at hmem
      rcases hmem with hmem | rfl | hmem
      · exact (hb q hmem ho).le
      · exact le_refl _
      · exact ha q hmem ho
    have := hlt c hc
    omega

theorem arbitrate_none (h : s.choice = none) : s.arbitrate = s := by rw [State.arbitrate, h]

theorem arbitrate_some {r : Request} (h : s.choice = some r) : s.arbitrate = s.grantRequest r := by
  rw [State.arbitrate, h]

end

/-! ## A grant (R143, R144) -/

section
variable {s : State} {r : Request} {src : Source} {dest : Station} {tag : Option Half}

/-- The move's destination takes a report with the disc: an output bin or X. -/
def Station.isOut (d : Station) : Bool := decide (d = .out .o0 ∨ d = .out .o1 ∨ d = .out .x)

/-- The state in which a granted request's move begins: out of the queue, a report reserved for an output bin (R127). -/
def State.taken (s : State) (r : Request) (dest : Station) : State := { s with
  transport := { s.transport with queue := s.transport.queue.filter fun q => decide (q ≠ r) }
  notices := { s.notices with reserved := s.notices.reserved || dest.isOut } }

theorem taken_out (s : State) (r : Request) (b : OutBin) : s.taken r (.out b) =
    (s.modTransport fun t => { t with queue := t.queue.filter fun q => decide (q ≠ r) }).modNotices
      fun n => { n with reserved := true } := by
  cases b <;> simp [State.taken, Station.isOut, State.modTransport, State.modNotices]

theorem taken_notOut (s : State) (r : Request) (h : dest.isOut = false) : s.taken r dest =
    s.modTransport fun t => { t with queue := t.queue.filter fun q => decide (q ≠ r) } := by
  simp only [State.taken, h, Bool.or_false, State.modTransport]

theorem grantRequest_eq (h : s.resolve r.kind = some (src, dest, tag)) : s.grantRequest r =
    if src = .place .arm then (s.taken r dest).judgeGrip ⟨r, src, dest, tag, .grip, dest.isOut, s.now⟩ false
    else (s.taken r dest).enterPhase ⟨r, src, dest, tag, .toSource, dest.isOut, s.now⟩ .toSource := by
  unfold State.grantRequest
  rw [h]
  cases dest with
  | out b => rw [taken_out]; cases b <;> rfl
  | _ => rw [taken_notOut s r rfl]; rfl

/-- A source that is not ARM stands at a station. -/
theorem source_station (h : src ≠ .place .arm) : src.station.isSome := by
  cases src with
  | bin i => rfl
  | place p =>
    cases p with
    | arm => exact absurd rfl h
    | _ => rfl

/-- A grant from elsewhere sends the arm to the source (R144). -/
theorem grantRequest_goes (h : s.resolve r.kind = some (src, dest, tag)) (hsrc : src ≠ .place .arm) :
    s.grantRequest r = { s.taken r dest with
      transport := { (s.taken r dest).transport with
        move := some ⟨r, src, dest, tag, .toSource, dest.isOut, s.now + 6000⟩ }
      lines := { s.lines with arm := src.station.map .goTo } } := by
  rw [grantRequest_eq h, if_neg hsrc]
  obtain ⟨st, hst⟩ := Option.isSome_iff_exists.mp (source_station hsrc)
  simp only [State.enterPhase, hst, Option.map_some, Option.isSome_some, if_true]
  rfl

/-- A grant at ARM reads the grip at once, and with a disc there sends the arm on to the destination (R144). -/
theorem grantRequest_atArm {d : Disc} (h : s.resolve r.kind = some (.place .arm, dest, tag))
    (hg : s.sensors.gripPresent = true) (hd : s.disc .arm = some d) :
    s.grantRequest r = { s.taken r dest with
      transport := { (s.taken r dest).transport with
        move := some ⟨r, .place .arm, dest, tag, .toDest, dest.isOut, s.now + 6000⟩ }
      places := upd s.places Place.arm.idx (some { d with dest := some dest })
      lines := { s.lines with arm := some (.goTo dest) } } := by
  have hlift : (s.taken r dest).liftDisc .arm dest =
      (s.taken r dest).setDisc .arm (some { d with dest := some dest }) := by
    have hdt : (s.taken r dest).disc .arm = some d := hd
    rw [State.liftDisc, hdt]
    simp only [State.freePlace, State.setDisc, State.modTransport, upd_upd]
  rw [grantRequest_eq h, if_pos rfl]
  have hgt : (s.taken r dest).sensors.gripPresent = true := hg
  simp only [State.judgeGrip, State.gripAtPlace, hgt, if_true, hlift, Bool.false_eq_true, if_false]
  rfl

end

end Sys2Proof.Machine

namespace Sys2Proof.Machine

theorem settleTransport_eq (s : State) : s.settleTransport =
    State.arbitrate ((List.finRange 16).foldl State.servePort (State.createPrintLoad
      ((List.finRange 16).foldl State.feedPort ((List.finRange 16).foldl State.createUnload s.pruneRequests)))) := by
  unfold State.settleTransport
  rw [numbers_eq_finRange]

section
variable {s : State} {n : PortId}

/-- A port that has nothing to do for its requests stands. -/
theorem servePort_stands (h : ¬ ((s.port n).cmd = none ∧ (s.port n).afterReset = none) ∨
    (s.port n).state ∉ [PortState.idle, .standby, .done, .trayOpen] ∨
    ((s.port n).state ∈ [PortState.idle, .standby] ∧ ¬ s.queued (ReqKind.isFeedFor n) = true) ∨
    ((s.port n).state = .done ∧ ¬ s.queued (ReqKind.isUnloadFor n) = true) ∨
    ((s.port n).state = .trayOpen ∧ ((s.port n).errand ≠ .feed ∨ s.queued (ReqKind.isFeedFor n) = true ∨
      s.granted (ReqKind.isFeedFor n) = true ∨ n ∈ s.transport.held))) : s.servePort n = s := by
  by_cases hb : (s.port n).busy = true
  · exact servePort_busy hb
  rw [Bool.not_eq_true] at hb
  replace h := h.resolve_left (not_not_intro (busy_iff.mp hb))
  rw [servePort_free hb]
  cases hs : (s.port n).state with
  | idle | standby =>
    simp only [hs] at h ⊢
    exact if_neg (by simpa using h)
  | done =>
    simp only [hs] at h ⊢
    exact if_neg (by simpa using h)
  | trayOpen =>
    simp only [hs] at h ⊢
    refine if_neg ?_
    rintro ⟨he, hq, hg, hh⟩
    simp_all
  | _ => rfl

theorem servePort_closes (hb : (s.port n).busy = false) (hs : (s.port n).state = .trayOpen)
    (he : (s.port n).errand = .feed) (hq : ¬ s.queued (ReqKind.isFeedFor n) = true)
    (hg : ¬ s.granted (ReqKind.isFeedFor n) = true) (hh : n ∉ s.transport.held) : s.servePort n = s.goClosing n := by
  rw [servePort_free hb, hs]
  exact if_pos ⟨he, by simpa using hq, by simpa using hg, hh⟩

end

/-- Settles O54: each block is read off its definition, with its own conditions spelled out. -/
theorem endOfEventServesTransport : Obligations.EndOfEventServesTransport := by
  unfold Obligations.EndOfEventServesTransport
  refine ⟨settleTransport_eq, fun s => ⟨pruneRequests_eq s, keeps_feed s, keeps_unload s, keeps_printLoad s,
    keeps_printUnload s, keeps_recover s, keeps_host s⟩, fun s n => ?_, fun s d j => ?_, fun s => ?_, fun s => ?_⟩
  · intro queued granted feed unload create mayFeed
    have hqueued : s.queued (ReqKind.ofPort n) = true ↔ queued feed ∨ queued unload := queued_ofPort
    have hrequest : s.hasRequest n = true ↔ queued feed ∨ queued unload ∨ granted feed ∨ granted unload := by
      rw [hasRequest_iff, hqueued, granted_ofPort, or_assoc]
    have hmay : ∀ j, s.mayFeed n j = true ↔ mayFeed j := fun j => mayFeed_iff
    have hprint : (queued (· = .printLoad) ↔ s.queued (fun k => decide (k = .printLoad)) = true) ∧
        (granted (· = .printLoad) ↔ s.granted (fun k => decide (k = .printLoad)) = true) := by
      simp only [queued_iff, granted_iff, decide_eq_true_iff]
      exact ⟨Iff.rfl, Iff.rfl⟩
    refine ⟨fun d hs hf hu hd => ?_, fun h => ?_, fun j hs hf hu hgf hgu hm => ?_, fun h => ?_, fun hl hq hg => ?_,
      fun h => ?_, ?_⟩
    · exact createUnload_done hs (by rw [hqueued]; exact fun hc => hc.elim hf hu) hd
    · refine createUnload_not (h.imp_right fun h => ?_)
      rw [hqueued, or_assoc]; exact h
    · refine feedPort_creates hs ?_ ((hmay j).mpr hm)
      rw [hrequest]
      exact fun hc => hc.elim hf fun hc => hc.elim hu fun hc => hc.elim hgf hgu
    · refine feedPort_not ?_
      simp only [hrequest, hmay, or_assoc]
      exact h.imp_left fun hs hc => hs (by simpa using hc)
    · refine createPrintLoad_eq.trans (if_neg ?_)
      rw [← hprint.1, ← hprint.2]
      exact fun hc => hc.elim hl fun hc => hc.elim hq hg
    · refine createPrintLoad_eq.trans (if_pos ?_)
      rw [← hprint.1, ← hprint.2]; exact h
    · intro issued free opening
      have hbusy : free → (s.port n).busy = false := busy_iff.mpr
      have hfeed : s.queued (ReqKind.isFeedFor n) = true ↔ queued feed := queued_feedFor
      have hunload : s.queued (ReqKind.isUnloadFor n) = true ↔ queued unload := queued_unloadFor
      have hgranted : s.granted (ReqKind.isFeedFor n) = true ↔ granted feed := granted_isFeedFor
      refine ⟨fun hf hs hq => ?_, fun hf hs hq => ?_, fun hf hs hq => ?_, fun hf hs he hq hg hh => ?_, fun h => ?_⟩
      · rw [servePort_free (hbusy hf), hs]
        exact (if_pos (hfeed.mpr hq)).trans (goOpening_eq s n .feed)
      · rw [servePort_free (hbusy hf), hs]
        exact if_pos (hfeed.mpr hq)
      · rw [servePort_free (hbusy hf), hs]
        exact (if_pos (hunload.mpr hq)).trans (goOpening_eq s n .unload)
      · rw [← hfeed] at hq
        rw [← hgranted] at hg
        rw [servePort_closes (hbusy hf) hs he hq hg hh]
        exact goClosing_open hs
      · rw [← hfeed, ← hunload, ← hgranted] at h
        exact servePort_stands h
  · intro printer slot printable
    refine ⟨printerFree_iff s, shelfFree_iff s, fun _ => rfl, outAvailable_iff s, unloadDest_discard,
      unloadDest_returning, fun hj hs => ?_⟩
    have hprintable : s.printable j d.grade = true ↔ printable := printable_iff s j d.grade
    have hprinter : s.printerFree = true ↔ printer := printerFree_iff s
    have hslot : ∀ k, s.shelfFree k = true ↔ slot k := shelfFree_iff s
    rw [unloadDest_graded hj hs]
    refine ⟨fun hp hf => ?_, fun k hp hf hk hfirst => ?_, fun hp hf hno => ?_, fun hp hg => ?_, fun hp hg => ?_,
      fun hg => ?_⟩
    · rw [if_pos (hprintable.mpr hp), if_pos (hprinter.mpr hf)]
    · rw [if_pos (hprintable.mpr hp), if_neg (mt hprinter.mp hf), find_numbers_first ((hslot k).mpr hk)
        fun i hi hc => hfirst i hi ((hslot i).mp hc)]
      rfl
    · rw [if_pos (hprintable.mpr hp), if_neg (mt hprinter.mp hf), find_numbers_none fun k hc => hno k ((hslot k).mp hc)]
      rfl
    · rw [if_neg (mt hprintable.mp hp)]
      rcases hg with hg | hg <;> rw [hg] <;> rfl
    · rw [if_neg (mt hprintable.mp hp), hg]; rfl
    · rw [hg]; rfl
  · exact ⟨eligible_feed s, eligible_unload s, eligible_printLoad s, eligible_printUnload s, eligible_recover s,
      eligible_host s⟩
  · intro rank grants ready
    have hrank : ∀ k, rank k = k.rank := fun k => by cases k <;> rfl
    have hready : ∀ r, s.openTo r = true ↔ ready r := fun r => by
      rw [openTo_iff, ← hrank]
    refine ⟨fun h => ?_, fun r before after hg hq hr hb ha => ?_, fun n j => rfl, fun n tag d hd => ?_,
      fun k rest hl => ?_, fun tag d hd => ?_, fun q tag => rfl, fun q st tag => rfl, fun r src dest tag hres => ?_⟩
    · refine arbitrate_none (h.elim choice_barred fun h => choice_none fun r hr => ?_)
      rw [hready]; exact h r hr
    · refine arbitrate_some (choice_first hg hq ((hready r).mpr hr) (fun q hm ho => ?_) fun q hm ho => ?_)
      · rw [← hrank, ← hrank]; exact hb q hm ((hready q).mp ho)
      · rw [← hrank, ← hrank]; exact ha q hm ((hready q).mp ho)
    · rw [State.resolve, hd]; rfl
    · rw [State.resolve, hl]; rfl
    · rw [State.resolve, hd, Option.map_some, printUnloadDest_eq]
    · exact ⟨fun hsrc => grantRequest_goes hres hsrc, fun d hsrc hg hd => by
        subst hsrc; exact grantRequest_atArm hres hg hd⟩

end Sys2Proof.Machine

namespace Sys2Proof.Machine

/-! ## Pending pairs (R170) -/

theorem mem_insertRanked {x y : Notice} {l : List Notice} : y ∈ insertRanked x l ↔ y = x ∨ y ∈ l := by
  induction l with
  | nil => simp [insertRanked]
  | cons z l ih =>
    unfold insertRanked
    split
    · simp
    · simp [ih, or_left_comm]

theorem mem_raise {c : NoticeClass} {x y : Notice} : y ∈ (c.raise x).set ↔ y ∈ c.set ∨ y = x := by
  unfold NoticeClass.raise
  split
  · next h => exact ⟨.inl, fun hc => hc.elim id fun e => e ▸ h⟩
  · simp [mem_insertRanked, or_comm]

theorem get_put (n : Notices) (c d : CauseClass) (x : NoticeClass) :
    (n.put c x).get d = if d = c then x else n.get d := by
  cases c <;> cases d <;> rfl

/-- A raise makes its own pair pending, and no other. -/
theorem pendingPair_raise (s : State) (x y : Notice) :
    (s.raise x).pendingPair y = true ↔ s.pendingPair y = true ∨ y = x := by
  have hset : (s.raise x).pendingPair y = true ↔
      y ∈ ((s.notices.put x.cls ((s.notices.get x.cls).raise x)).get y.cls).set := decide_eq_true_iff
  rw [hset, State.pendingPair, decide_eq_true_iff, get_put]
  by_cases hc : y.cls = x.cls
  · rw [if_pos hc, hc, mem_raise]
  · have hne : y ≠ x := fun e => hc (e ▸ rfl)
    rw [if_neg hc, or_iff_left hne]

/-! ## The bin sensors (R131, R148) -/

theorem notice_inj {k i : BinSensor} {v w : Bool} (h : k.notice v = i.notice w) : k = i ∧ v = w := by
  cases k <;> cases i <;> cases v <;> cases w <;> simp_all [BinSensor.notice]

theorem notice_cls (k : BinSensor) (v : Bool) : (k.notice v).cls = .transport := by
  cases k <;> cases v <;> rfl

theorem get_set (b : BinSensors) (k i : BinSensor) (v : Bool) :
    (b.set k v).get i = if i = k then v else b.get i := by
  cases k with
  | input m =>
    cases i with
    | input n => simp [BinSensors.set, BinSensors.get, nth_upd]
    | full c => rfl
  | full a =>
    cases i with
    | input n => cases a <;> rfl
    | full c => cases a <;> cases c <;> rfl

/-- Sensors that agree one by one agree. -/
theorem binSensors_ext {a b : BinSensors} (h : ∀ k, a.get k = b.get k) : a = b := by
  obtain ⟨ea, a0, a1, ax⟩ := a
  obtain ⟨eb, b0, b1, bx⟩ := b
  obtain rfl : a0 = b0 := h (.full .o0)
  obtain rfl : a1 = b1 := h (.full .o1)
  obtain rfl : ax = bx := h (.full .x)
  obtain rfl : ea = eb := Vector.ext fun i hi => h (.input ⟨i, hi⟩)
  rfl

theorem mem_binSensors (k : BinSensor) : k ∈ binSensors := by
  cases k with
  | input i => exact List.mem_append_left _ (List.mem_map_of_mem (mem_numbers i))
  | full b => cases b <;> simp [binSensors]

theorem binSensors_nodup : binSensors.Nodup := by decide

/-! ## The release of reset, sensor by sensor (R132, R148, R149) -/

/-- A sensor differs from its latch. -/
abbrev State.differs (s : State) (k : BinSensor) : Prop := s.sensors.bins.get k ≠ s.transport.latched.get k

/-- The mark of the sensor's bin; an output bin has none (R149). -/
def State.markOf (s : State) : BinSensor → Bool
  | .input i => nth s.transport.marks i
  | .full _ => false

/-- The sensor's bin takes the mark of the live state (R149). -/
def State.markSensor (s : State) (k : BinSensor) : State :=
  match k with
  | .input i => s.mark i (s.sensors.bins.get k)
  | .full _ => s

/-- A sensor at the release of reset: treated as a change if it differs from its latch (R132). -/
def State.releaseSensor (s : State) (k : BinSensor) : State :=
  if s.differs k then (s.markSensor k).compareSensor k else s

theorem sensorsAtRelease_eq (s : State) : s.sensorsAtRelease = binSensors.foldl State.releaseSensor s := by
  unfold State.sensorsAtRelease
  refine congrArg (fun f => binSensors.foldl f s) (funext fun s => funext fun k => ?_)
  cases k <;> rfl

theorem quiet_iff {s : State} {k : BinSensor} :
    s.quiet k = true ↔ s.pendingPair (k.notice true) = false ∧ s.pendingPair (k.notice false) = false := by
  rw [State.quiet, Bool.and_eq_true, Bool.not_eq_true', Bool.not_eq_true']

/-- The sensor is treated: its latch follows and its cause is raised. -/
theorem releaseSensor_quiet {s : State} {k : BinSensor} (hd : s.differs k) (hq : s.quiet k = true) :
    s.releaseSensor k = ((s.markSensor k).modTransport fun t =>
      { t with latched := t.latched.set k (s.sensors.bins.get k) }).raise (k.notice (s.sensors.bins.get k)) := by
  cases k <;> exact (if_pos hd).trans (if_pos (by rw [Bool.and_eq_true, decide_eq_true_iff]; exact ⟨hq, hd⟩))

/-- A cause of the sensor is pending: only the mark follows (R148). -/
theorem releaseSensor_loud {s : State} {k : BinSensor} (hd : s.differs k) (hq : ¬ s.quiet k = true) :
    s.releaseSensor k = s.markSensor k := by
  cases k <;> exact (if_pos hd).trans (if_neg (by rw [Bool.and_eq_true]; exact fun hc => hq hc.1))

theorem releaseSensor_same {s : State} {k : BinSensor} (hd : ¬ s.differs k) : s.releaseSensor k = s := if_neg hd

section
variable (s : State) (k : BinSensor)

theorem releaseSensor_latched (i : BinSensor) : (s.releaseSensor k).transport.latched.get i =
    if i = k ∧ s.differs k ∧ s.quiet k = true then s.sensors.bins.get k else s.transport.latched.get i := by
  have hmark : (s.markSensor k).transport.latched = s.transport.latched := by cases k <;> rfl
  by_cases hd : s.differs k
  · by_cases hq : s.quiet k = true
    · rw [releaseSensor_quiet hd hq]
      refine (get_set _ k i _).trans (if_congr ?_ rfl (by rw [hmark]))
      exact ⟨fun e => ⟨e, hd, hq⟩, fun h => h.1⟩
    · rw [releaseSensor_loud hd hq, hmark, if_neg fun h => hq h.2.2]
  · rw [releaseSensor_same hd, if_neg fun h => hd h.2.1]

theorem markSensor_markOf (i : BinSensor) : (s.markSensor k).markOf i =
    if i = k then (match k with | .input _ => s.sensors.bins.get k | .full _ => false) else s.markOf i := by
  cases k with
  | input m =>
    cases i with
    | input n => simp [State.markOf, State.markSensor, State.mark, State.modTransport, nth_upd]
    | full c => rfl
  | full a =>
    cases i with
    | input n => rfl
    | full c => simp [State.markOf]

theorem releaseSensor_marked (hd : s.differs k) (i : BinSensor) :
    (s.releaseSensor k).markOf i = (s.markSensor k).markOf i := by
  by_cases hq : s.quiet k = true
  · rw [releaseSensor_quiet hd hq]; cases i <;> rfl
  · rw [releaseSensor_loud hd hq]

theorem releaseSensor_mark_ne {i : BinSensor} (hi : i ≠ k) : (s.releaseSensor k).markOf i = s.markOf i := by
  by_cases hd : s.differs k
  · rw [releaseSensor_marked s k hd, markSensor_markOf, if_neg hi]
  · rw [releaseSensor_same hd]

theorem releaseSensor_mark_self (i : BinId) : (s.releaseSensor (.input i)).markOf (.input i) =
    if s.differs (.input i) then s.sensors.bins.get (.input i) else s.markOf (.input i) := by
  by_cases hd : s.differs (.input i)
  · rw [releaseSensor_marked s _ hd, markSensor_markOf, if_pos rfl, if_pos hd]
  · rw [releaseSensor_same hd, if_neg hd]

theorem releaseSensor_pending (x : Notice) : (s.releaseSensor k).pendingPair x = true ↔ s.pendingPair x = true ∨
    (s.differs k ∧ s.quiet k = true ∧ x = k.notice (s.sensors.bins.get k)) := by
  have hmark : ∀ y, (s.markSensor k).pendingPair y = s.pendingPair y := fun y => by cases k <;> rfl
  by_cases hd : s.differs k
  · by_cases hq : s.quiet k = true
    · rw [releaseSensor_quiet hd hq, pendingPair_raise]
      refine or_congr (Bool.eq_iff_iff.mp (hmark x)) ?_
      exact ⟨fun e => ⟨hd, hq, e⟩, fun h => h.2.2⟩
    · rw [releaseSensor_loud hd hq, hmark, or_iff_left fun h => hq h.2.1]
  · rw [releaseSensor_same hd, or_iff_left fun h => hd h.1]

end

/-- What treating sensors leaves alone: all but latches, marks and the pending pairs of transport. -/
def SensorWork (s t : State) : Prop := t = { s with
  transport := { s.transport with latched := t.transport.latched, marks := t.transport.marks }
  notices := { s.notices with transport := { s.notices.transport with set := t.notices.transport.set } } }

theorem SensorWork.refl (s : State) : SensorWork s s := rfl

theorem SensorWork.trans {s t u : State} (h : SensorWork s t) (g : SensorWork t u) : SensorWork s u := by
  unfold SensorWork at *; rw [g, h]

theorem raise_sensorWork (s : State) (k : BinSensor) (v : Bool) : SensorWork s (s.raise (k.notice v)) := by
  have hraise : ∀ (c : NoticeClass) (x : Notice), c.raise x = { c with set := (c.raise x).set } := fun c x => by
    unfold NoticeClass.raise; split <;> rfl
  unfold SensorWork State.raise
  rw [notice_cls]
  exact congrArg (fun c => { s with notices := { s.notices with transport := c } }) (hraise _ _)

theorem releaseSensor_work (s : State) (k : BinSensor) : SensorWork s (s.releaseSensor k) := by
  have hmark : SensorWork s (s.markSensor k) := by cases k <;> rfl
  by_cases hd : s.differs k
  · by_cases hq : s.quiet k = true
    · rw [releaseSensor_quiet hd hq]
      exact hmark.trans (SensorWork.trans (t := (s.markSensor k).modTransport fun t =>
        { t with latched := t.latched.set k (s.sensors.bins.get k) }) rfl (raise_sensorWork _ k _))
    · rw [releaseSensor_loud hd hq]; exact hmark
  · rw [releaseSensor_same hd]; rfl

end Sys2Proof.Machine

namespace Sys2Proof.Machine

/-! ## The release of reset, all sensors (R132) -/

theorem SensorWork.sensors {s t : State} (h : SensorWork s t) : t.sensors = s.sensors := by rw [h]

/-- What the treatment of a sensor reads and writes: its latch, its bin's mark, its two causes. -/
def State.sensorView (s : State) (k : BinSensor) : Bool × Bool × Bool × Bool :=
  (s.transport.latched.get k, s.markOf k, s.pendingPair (k.notice true), s.pendingPair (k.notice false))

theorem sensorView_eq {s t : State} {k : BinSensor} (h : t.sensorView k = s.sensorView k) :
    t.transport.latched.get k = s.transport.latched.get k ∧ t.markOf k = s.markOf k ∧
      (∀ v, t.pendingPair (k.notice v) = s.pendingPair (k.notice v)) ∧ t.quiet k = s.quiet k := by
  simp only [State.sensorView, Prod.mk.injEq] at h
  obtain ⟨hl, hm, ht, hf⟩ := h
  exact ⟨hl, hm, fun v => by cases v <;> assumption, by rw [State.quiet, State.quiet, ht, hf]⟩

theorem releaseSensor_view_ne (s : State) (k i : BinSensor) (h : i ≠ k) :
    (s.releaseSensor k).sensorView i = s.sensorView i := by
  have hp : ∀ v, (s.releaseSensor k).pendingPair (i.notice v) = s.pendingPair (i.notice v) := fun v => by
    rw [Bool.eq_iff_iff, releaseSensor_pending]
    exact or_iff_left fun hc => h (notice_inj hc.2.2).1
  have hl : (s.releaseSensor k).transport.latched.get i = s.transport.latched.get i := by
    rw [releaseSensor_latched, if_neg fun hc => h hc.1]
  simp only [State.sensorView, hp, releaseSensor_mark_ne s k h, hl]

section
variable (s : State)

/-- The part's sensors after the release of reset. -/
theorem sensorsAtRelease_work : SensorWork s s.sensorsAtRelease := by
  rw [sensorsAtRelease_eq]
  exact foldl_rel (f := State.releaseSensor) SensorWork.refl SensorWork.trans releaseSensor_work binSensors s

/-- Each sensor is treated once, and its treatment finds what the release found. -/
theorem sensorsAtRelease_visit (k : BinSensor) : ∃ t : State, t.sensors = s.sensors ∧ t.sensorView k = s.sensorView k ∧
    s.sensorsAtRelease.sensorView k = (t.releaseSensor k).sensorView k := by
  obtain ⟨t, hw, hview, -, hres⟩ := foldl_visit (R := SensorWork) (obs := State.sensorView) (f := State.releaseSensor)
    SensorWork.refl SensorWork.trans releaseSensor_work releaseSensor_view_ne binSensors_nodup (mem_binSensors k) s
  exact ⟨t, hw.sensors, hview, by rw [sensorsAtRelease_eq]; exact hres⟩

theorem sensorsAtRelease_latched (k : BinSensor) : s.sensorsAtRelease.transport.latched.get k =
    if s.differs k ∧ s.quiet k = true then s.sensors.bins.get k else s.transport.latched.get k := by
  obtain ⟨t, hs, hview, hres⟩ := sensorsAtRelease_visit s k
  obtain ⟨hl, -, -, hq⟩ := sensorView_eq hview
  rw [(sensorView_eq hres).1, releaseSensor_latched]
  simp only [State.differs, hl, hq, hs, true_and]

theorem sensorsAtRelease_mark (i : BinId) : s.sensorsAtRelease.markOf (.input i) =
    if s.differs (.input i) then s.sensors.bins.get (.input i) else s.markOf (.input i) := by
  obtain ⟨t, hs, hview, hres⟩ := sensorsAtRelease_visit s (.input i)
  obtain ⟨hl, hm, -, -⟩ := sensorView_eq hview
  rw [(sensorView_eq hres).2.1, releaseSensor_mark_self]
  simp only [State.differs, hl, hm, hs]

/-- Nothing but the sensors' causes is raised. -/
theorem sensorsAtRelease_otherPair {x : Notice} (hx : ∀ (k : BinSensor) (v : Bool), x ≠ k.notice v) :
    s.sensorsAtRelease.pendingPair x = s.pendingPair x := by
  rw [sensorsAtRelease_eq]
  refine foldl_rel (f := State.releaseSensor) (R := fun s t => t.pendingPair x = s.pendingPair x) (fun _ => rfl)
    (fun h g => g.trans h) (fun s k => ?_) binSensors s
  rw [Bool.eq_iff_iff, releaseSensor_pending]
  exact or_iff_left fun hc => hx k _ hc.2.2

theorem sensorsAtRelease_ownPair (k : BinSensor) (v : Bool) : s.sensorsAtRelease.pendingPair (k.notice v) = true ↔
    s.pendingPair (k.notice v) = true ∨ (s.differs k ∧ s.quiet k = true ∧ v = s.sensors.bins.get k) := by
  obtain ⟨t, hs, hview, hres⟩ := sensorsAtRelease_visit s k
  obtain ⟨hl, -, hp, hq⟩ := sensorView_eq hview
  rw [(sensorView_eq hres).2.2.1 v, releaseSensor_pending, hp]
  refine or_congr_right ?_
  simp only [State.differs, hl, hq, hs]
  exact and_congr_right fun _ => and_congr_right fun _ => ⟨fun h => (notice_inj h).2, fun h => h ▸ rfl⟩

/-- R148: a quiet sensor that differs from its latch raises the cause of its live state. -/
theorem sensorsAtRelease_pending (x : Notice) : s.sensorsAtRelease.pendingPair x = true ↔ s.pendingPair x = true ∨
    ∃ k, s.differs k ∧ s.quiet k = true ∧ x = k.notice (s.sensors.bins.get k) := by
  by_cases hx : ∃ (k : BinSensor) (v : Bool), x = k.notice v
  · obtain ⟨k, v, rfl⟩ := hx
    rw [sensorsAtRelease_ownPair]
    refine or_congr_right ⟨fun ⟨hd, hq, hv⟩ => ⟨k, hd, hq, hv ▸ rfl⟩, fun ⟨i, hd, hq, he⟩ => ?_⟩
    obtain ⟨rfl, rfl⟩ := notice_inj he
    exact ⟨hd, hq, rfl⟩
  · rw [sensorsAtRelease_otherPair s fun k v e => hx ⟨k, v, e⟩]
    exact (or_iff_left fun ⟨k, _, _, he⟩ => hx ⟨k, _, he⟩).symm

end

/-! ## The start of the part (R23, R132) -/

/-- The part at its reset values, the levels from outside and the time kept. -/
def State.fresh (s : State) : State := { State.reset with pending := s.pending, now := s.now, sensors := s.sensors }

theorem fresh_quiet (s : State) (k : BinSensor) : s.fresh.quiet k = true := by
  cases k <;> rfl

theorem fresh_differs (s : State) (k : BinSensor) : s.fresh.differs k ↔ s.sensors.bins.get k = true := by
  have hl : s.fresh.transport.latched.get k = false := reset_latched k
  rw [State.differs, hl]
  exact Bool.not_eq_false _ ▸ Iff.rfl

theorem fresh_latched (s : State) : s.fresh.sensorsAtRelease.transport.latched = s.sensors.bins := by
  refine binSensors_ext fun k => ?_
  rw [sensorsAtRelease_latched]
  split
  · rfl
  · next h =>
    have hd : ¬ s.sensors.bins.get k = true := fun hc => h ⟨(fresh_differs s k).mpr hc, fresh_quiet s k⟩
    exact (reset_latched k).trans (by simpa using hd)

theorem fresh_marks (s : State) : s.fresh.sensorsAtRelease.transport.marks = s.sensors.bins.empty := by
  refine Vector.ext fun i hi => ?_
  have hm := sensorsAtRelease_mark s.fresh ⟨i, hi⟩
  refine hm.trans ?_
  split
  · rfl
  · next h =>
    have hd : ¬ s.sensors.bins.get (.input ⟨i, hi⟩) = true := fun hc => h ((fresh_differs s _).mpr hc)
    exact (nth_replicate 4 false (⟨i, hi⟩ : Fin 4)).trans (Bool.not_eq_true _ ▸ hd).symm

/-- At the start no pass asks for credit, and the receiver in HUNT asks for nothing. -/
theorem fresh_outbound (s : State) : s.fresh.start = s.fresh.sensorsAtRelease := by
  have hw := sensorsAtRelease_work s.fresh
  have hlink : s.fresh.sensorsAtRelease.link = Link.reset := by rw [hw]; rfl
  have hpass : ∀ j, s.fresh.sensorsAtRelease.pass j = none := fun j => by rw [hw]; exact reset_pass j
  have hcredits : State.creditsAsked s.fresh s.fresh.sensorsAtRelease = [] := by
    rw [State.creditsAsked, List.map_eq_nil_iff, List.filter_eq_nil_iff]
    intro j _
    rw [creditChanged, hpass]
    exact Bool.false_ne_true
  have hnotices : s.fresh.sensorsAtRelease.noticesAsked = [] := by
    rw [State.noticesAsked, List.map_eq_nil_iff, List.filter_eq_nil_iff]
    intro c _
    simp [State.classReady, hlink, Link.reset]
  have hreport : s.fresh.sensorsAtRelease.reportAsked = [] := by
    simp [State.reportAsked, State.reportReady, hlink, Link.reset]
  rw [State.start, outbound_eq (by rw [hlink]; decide), hcredits, hnotices, hreport]
  exact enqueue_nil _

theorem fresh_startedFrom (s : State) : State.startedFrom s s.fresh.start Link.reset [] := by
  rw [fresh_outbound]
  have hw := sensorsAtRelease_work s.fresh
  refine ⟨?_, fun c => ?_, ?_, ?_, ?_, fun x => ?_⟩
  · rw [hw, fresh_latched, fresh_marks]; rfl
  · rw [hw]; cases c <;> rfl
  · rw [hw]; rfl
  · rw [hw]; rfl
  · rw [hw]; rfl
  · rw [sensorsAtRelease_pending]
    have hnone : ¬ s.fresh.pendingPair x = true := by
      rw [State.pendingPair, decide_eq_true_iff]
      have hempty : ∀ c, (Notices.reset.get c).set = [] := fun c => by cases c <;> rfl
      have hx : (s.fresh.notices.get x.cls).set = [] := hempty x.cls
      rw [hx]; exact List.not_mem_nil
    rw [or_iff_right hnone, or_iff_right List.not_mem_nil]
    refine exists_congr fun k => ?_
    have hb : s.fresh.sensors.bins = s.sensors.bins := rfl
    rw [fresh_differs, and_iff_right (fresh_quiet s k), hb]
    exact and_congr_right fun h => by rw [h]

/-- The release of reset, for every state held in it (R132, R148, R149). -/
theorem start_spec (s : State) : ∃ rest : List OutEntry, (∀ e ∈ rest, e.isAnswer = false) ∧
    s.start = s.sensorsAtRelease.enqueue rest := outbound_appends s s.sensorsAtRelease

theorem resetRelease_held {s : State} (hs : s.resetHeld = true) :
    exec .resetRelease s = .next (State.start { s with resetHeld := false }) := congrArg Host.Outcome.next (if_pos hs)

theorem powerOn_start {s : State} (hs : s.resetHeld = false) : exec .powerOn s = .next s.fresh.start := by
  have hvalues : s.resetValues = s.fresh := by rw [State.resetValues, hs]; rfl
  exact congrArg Host.Outcome.next ((if_neg (by simp [hs])).trans (congrArg State.start hvalues))

/-- Released after its pin, the part starts from its reset values. -/
theorem resetRelease_afterPin (s : State) :
    exec .resetRelease { s.resetValues with resetHeld := true } = .next s.fresh.start := by
  have hfresh : ({ s.resetValues with resetHeld := false } : State) = s.fresh := rfl
  rw [resetRelease_held rfl, ← hfresh]

/-- Settles O4: the sensors are treated one by one, each reading and writing what no other touches. -/
theorem resetPinAndPowerOn : Obligations.ResetPinAndPowerOn := by
  unfold Obligations.ResetPinAndPowerOn
  refine ⟨fun s => rfl, fun s u hu => ?_, fun s hs => ?_, fun s hs => ?_, fun s hs => ?_⟩
  · cases hu
    exact ⟨s.fresh.start, resetRelease_afterPin s, fresh_startedFrom s⟩
  · exact congrArg Host.Outcome.next (if_neg (by simp [hs]))
  · intro differs quiet
    obtain ⟨rest, hrest, hstart⟩ := start_spec { s with resetHeld := false }
    have hw := sensorsAtRelease_work { s with resetHeld := false }
    have hlatched := sensorsAtRelease_latched { s with resetHeld := false }
    have hmark := sensorsAtRelease_mark { s with resetHeld := false }
    have hpending := sensorsAtRelease_pending { s with resetHeld := false }
    have hquiet : ∀ k, State.quiet { s with resetHeld := false } k = true ↔ quiet k := fun k => quiet_iff
    simp only [hquiet] at hlatched hpending
    generalize State.sensorsAtRelease { s with resetHeld := false } = t at hstart hw hlatched hmark hpending
    refine ⟨t.enqueue rest, rest, (resetRelease_held hs).trans (congrArg _ hstart), by rw [hw]; rfl, fun k => ⟨fun hd hq => ?_,
      fun hq => ?_, fun hd => ?_⟩, fun i => ⟨fun hd => ?_, fun hd => ?_⟩, hpending, fun c => ?_, by rw [hw]; rfl,
      by rw [hw]; rfl, by rw [hw]; rfl, hrest, by rw [hw]; rfl, by rw [hw, ← hs]; rfl⟩
    · exact (hlatched k).trans (if_pos ⟨hd, hq⟩)
    · exact (hlatched k).trans (if_neg fun hc => hq hc.2)
    · exact (hlatched k).trans (if_neg fun hc => hd hc.1)
    · exact (hmark i).trans (if_pos hd)
    · exact (hmark i).trans (if_neg hd)
    · rw [hw]; cases c <;> rfl
  · exact ⟨s.fresh.start, powerOn_start hs, fresh_startedFrom s⟩

end Sys2Proof.Machine

namespace Sys2Proof.Machine

/-! ## What leaves image memory alone: ports, passes and the roster -/

theorem memory_of_fixed {s t : State} (h : t.fixed = s.fixed) : t.memory = s.memory := congrArg Fixed.memory h

theorem PortWork.memory {s t : State} (h : PortWork s t) : t.memory = s.memory := by rw [h.frame]

theorem foldl_memory {f : State → α → State} (h : ∀ s a, (f s a).memory = s.memory) (l : List α) (s : State) :
    (l.foldl f s).memory = s.memory := by
  induction l generalizing s with
  | nil => rfl
  | cons a l ih => exact (ih _).trans (h s a)

section
variable (s : State) (p : PortId) (j : JobId)

@[simp] theorem raise_memory (x : Notice) : (s.raise x).memory = s.memory := rfl
@[simp] theorem withdraw_memory (x : Notice) : (s.withdraw x).memory = s.memory := rfl
@[simp] theorem removeRequests_memory (f : ReqKind → Bool) : (s.removeRequests f).memory = s.memory := rfl
@[simp] theorem createRequest_memory (k : ReqKind) : (s.createRequest k).memory = s.memory := rfl
@[simp] theorem issue_memory (c : DriveCmd) : (s.issue p c).memory = s.memory := rfl
@[simp] theorem gotoPort_memory (x : PortState) : (s.gotoPort p x).memory = s.memory := rfl
@[simp] theorem goIdle_memory : (s.goIdle p).memory = s.memory := rfl
@[simp] theorem goDone_memory : (s.goDone p).memory = s.memory := rfl
@[simp] theorem goProbe_memory : (s.goProbe p).memory = s.memory := rfl
@[simp] theorem goRecovery_memory : (s.goRecovery p).memory = s.memory := rfl
@[simp] theorem goOpening_memory (e : Errand) : (s.goOpening p e).memory = s.memory := rfl
@[simp] theorem goClosing_memory : (s.goClosing p).memory = s.memory := rfl
@[simp] theorem goChecking_memory : (s.goChecking p).memory = s.memory := rfl
@[simp] theorem giveUpBlank_memory : (s.giveUpBlank p).memory = s.memory := rfl
@[simp] theorem until_memory (d : Option Nat) : (s.until d).memory = s.memory := rfl
@[simp] theorem takeOutcome_memory (c : CmdClass) (o : Outcome) : (s.takeOutcome p c o).memory = s.memory := rfl

@[simp] theorem goFaulted_memory : (s.goFaulted p).memory = s.memory := memory_of_fixed (goFaulted_fixed s p)
@[simp] theorem goOffline_memory : (s.goOffline p).memory = s.memory := memory_of_fixed (goOffline_fixed s p)
@[simp] theorem trayServed_memory : (s.trayServed p).memory = s.memory := memory_of_fixed (trayServed_fixed s p)
@[simp] theorem giveUpBlanks_memory : (s.giveUpBlanks j).memory = s.memory := memory_of_fixed (giveUpBlanks_fixed s j)
@[simp] theorem abortPass_memory (c : AbortCause) (l : Option Nat) : (s.abortPass j c l).memory = s.memory :=
  memory_of_fixed (abortPass_fixed s j c l)

@[simp] theorem handFault_memory (c : FaultCause) (l : Option Nat) : (s.handFault p c l).memory = s.memory :=
  (handFault_work s p c l).memory

@[simp] theorem memberLeaves_memory (st : MemberStatus) : (s.memberLeaves p st).memory = s.memory :=
  (memberLeaves_work s p st).memory

@[simp] theorem failBurn_memory (c : FaultCause) (l : Option Nat) : (s.failBurn p c l).memory = s.memory := by
  simp [State.failBurn]

@[simp] theorem joinWave_memory : (s.joinWave j p).memory = s.memory := by
  unfold State.joinWave
  split
  · split <;> rfl
  · rfl

@[simp] theorem enterLoaded_memory : (s.enterLoaded p j).memory = s.memory := by
  unfold State.enterLoaded
  dsimp only
  split
  · exact joinWave_memory _ p j
  · rfl

@[simp] theorem writeComplete_memory (seg : Nat) : (s.writeComplete p seg).memory = s.memory := by
  unfold State.writeComplete
  dsimp only
  (repeat' split) <;> rfl

@[simp] theorem enterDraining_memory : (s.enterDraining j).memory = s.memory := by
  simp [State.enterDraining]

@[simp] theorem createDisc_memory (q : Place) (k : Option JobId) (x : DiscState) (f : Disc → Disc) :
    (s.createDisc q k x f).memory = s.memory := rfl

@[simp] theorem createOrphan_memory (q : Place) : (s.createOrphan q).memory = s.memory := rfl

@[simp] theorem countJob_memory (k : Option JobId) (f : Counters → Counters) :
    (s.countJob k f).memory = s.memory := memory_of_fixed (countJob_fixed s k f)

@[simp] theorem appendReport_memory (b : Bool) (r : Report) : (s.appendReport b r).memory = s.memory :=
  memory_of_fixed (appendReport_fixed s b r)

@[simp] theorem lose_memory (q : Place) (c : LossCause) (b : Bool) : (s.lose q c b).memory = s.memory :=
  memory_of_fixed (lose_fixed s q c b)

@[simp] theorem pick_memory (b : Bool) : (s.pick p j b).memory = s.memory := by
  cases b <;> exact countJob_memory _ _ _

@[simp] theorem arrive_memory (q : Place) : (s.arrive q).memory = s.memory := by
  unfold State.arrive
  split
  · rfl
  · cases q <;> rfl

@[simp] theorem checkTarget_memory : (s.checkTarget j).memory = s.memory := by
  unfold State.checkTarget
  dsimp only
  split <;> simp

@[simp] theorem deliver_memory (b : OutBin) : (s.deliver b).memory = s.memory := by
  unfold State.deliver
  split
  · rfl
  · dsimp only
    (repeat' split) <;> simp

@[simp] theorem returnDisc_memory : s.returnDisc.memory = s.memory := by
  unfold State.returnDisc
  split <;> simp

end

/-! ## What leaves image memory alone: drives and the verify engine -/

section
variable (s : State) (p : PortId)

@[simp] theorem readBlock_memory (v : Verify) : (s.readBlock p v).memory = s.memory := rfl

@[simp] theorem startVerify_memory : (s.startVerify p).memory = s.memory := by
  unfold State.startVerify
  (repeat' split) <;> rfl

@[simp] theorem writeGrade_memory (v : Verify) (g : Grade) (f : Option (FaultCause × Option Nat)) :
    (s.writeGrade p v g f).memory = s.memory := by
  cases f <;> simp [State.writeGrade]

@[simp] theorem decideGrade_memory (v : Verify) (g : Profile) : (s.decideGrade p v g).memory = s.memory := by
  unfold State.decideGrade
  split <;> exact writeGrade_memory s p _ _ _

@[simp] theorem completeRead_memory (v : Verify) (n : Nat) : (s.completeRead p v n).memory = s.memory := by
  unfold State.completeRead
  dsimp only
  (repeat' split) <;> simp

@[simp] theorem failedAttempt_memory (v : Verify) (l : Option Nat) : (s.failedAttempt p v l).memory = s.memory := by
  unfold State.failedAttempt
  dsimp only
  split <;> simp

@[simp] theorem readReported_memory (o : Outcome) : (s.readReported p o).memory = s.memory := by
  unfold State.readReported
  dsimp only
  (repeat' split) <;> simp

theorem retry_memory (c : DriveCmd) (r : Nat) {f : State → State} (h : (f s).memory = s.memory) :
    (s.retry p c r f).memory = s.memory := by
  unfold State.retry
  split
  · rfl
  · exact h

@[simp] theorem online_memory : (s.online p).memory = s.memory := by
  unfold State.online
  split <;> rfl

@[simp] theorem loseVerify_memory : (s.loseVerify p).memory = s.memory := by
  simp [State.loseVerify]

@[simp] theorem probed_memory (i : IdentifyInfo) : (s.probed p i).memory = s.memory := by
  unfold State.probed
  dsimp only
  (repeat' split) <;> simp

@[simp] theorem identifyResult_memory (c : DriveCmd) (r : Nat) (o : Outcome) (i : IdentifyInfo) :
    (s.identifyResult p c r o i).memory = s.memory := by
  unfold State.identifyResult
  dsimp only
  (repeat' split) <;> simp [retry_memory]

@[simp] theorem endRecovery_memory : (s.endRecovery p).memory = s.memory := by
  unfold State.endRecovery
  (repeat' split) <;> rfl

@[simp] theorem trayClosed_memory : (s.trayClosed p).memory = s.memory := by
  unfold State.trayClosed
  (repeat' split) <;> simp

@[simp] theorem trayOpened_memory : (s.trayOpened p).memory = s.memory := by
  unfold State.trayOpened
  split <;> rfl

@[simp] theorem trayResult_memory (c : DriveCmd) (r : Nat) (o : Outcome) :
    (s.trayResult p c r o).memory = s.memory := by
  unfold State.trayResult
  (repeat' split) <;> simp [retry_memory]

@[simp] theorem sleepResult_memory (o : Outcome) : (s.sleepResult p o).memory = s.memory := by
  unfold State.sleepResult
  (repeat' split) <;> simp

@[simp] theorem wakeResult_memory (o : Outcome) : (s.wakeResult p o).memory = s.memory := by
  unfold State.wakeResult
  (repeat' split) <;> simp

@[simp] theorem blankGood_memory : (s.blankGood p).memory = s.memory := by
  unfold State.blankGood
  (repeat' split) <;> simp

@[simp] theorem blankScrap_memory (c : FaultCause) : (s.blankScrap p c).memory = s.memory := rfl

@[simp] theorem mediaResult_memory (c : DriveCmd) (r : Nat) (o : Outcome) :
    (s.mediaResult p c r o).memory = s.memory := by
  have hretry := retry_memory s p c r (f := fun s => s.blankScrap p .checkError) rfl
  unfold State.mediaResult
  split <;> simp [hretry]

@[simp] theorem writeResult_memory (seg : Nat) (o : Outcome) : (s.writeResult p seg o).memory = s.memory := by
  unfold State.writeResult
  split <;> simp

@[simp] theorem finishFails_memory (o : Outcome) : (s.finishFails p o).memory = s.memory := by
  unfold State.finishFails
  split <;> simp

@[simp] theorem syncResult_memory (o : Outcome) : (s.syncResult p o).memory = s.memory := by
  unfold State.syncResult
  split <;> simp

@[simp] theorem finalised_memory : (s.finalised p).memory = s.memory := by
  unfold State.finalised
  dsimp only
  split <;> simp

@[simp] theorem finaliseResult_memory (o : Outcome) : (s.finaliseResult p o).memory = s.memory := by
  unfold State.finaliseResult
  split <;> simp

@[simp] theorem readResult_memory (o : Outcome) : (s.readResult p o).memory = s.memory := by
  unfold State.readResult
  split <;> simp

/-- No outcome of a drive's command writes image memory. -/
@[simp] theorem result_memory (c : DriveCmd) (r : Nat) (o : Outcome) (i : IdentifyInfo) :
    (s.result p c r o i).memory = s.memory := by
  unfold State.result
  split <;> simp

@[simp] theorem answered_memory (c : DriveCmd) (a : Answer) (i : IdentifyInfo) :
    (s.answered p c a i).memory = s.memory := by
  unfold State.answered
  dsimp only
  (repeat' split) <;> simp

@[simp] theorem carried_memory (k : CmdClass) : (s.carried p k).memory = s.memory := by
  unfold State.carried
  split <;> rfl

@[simp] theorem timedOut_memory : (s.timedOut p).memory = s.memory := by
  unfold State.timedOut
  dsimp only
  split <;> simp

@[simp] theorem notReadyReissue_memory : (s.notReadyReissue p).memory = s.memory := by
  unfold State.notReadyReissue
  dsimp only
  split <;> simp

@[simp] theorem writeSector_memory : (s.writeSector p).memory = s.memory := by
  unfold State.writeSector
  dsimp only
  (repeat' split) <;> rfl

@[simp] theorem linkUp_memory : (s.linkUp p).memory = s.memory := by
  unfold State.linkUp
  dsimp only
  split <;> rfl

@[simp] theorem linkDown_memory : (s.linkDown p).memory = s.memory := by
  unfold State.linkDown
  dsimp only
  (repeat' split) <;> simp

@[simp] theorem sleepPort_memory : (s.sleepPort p).memory = s.memory := by
  unfold State.sleepPort
  split <;> rfl

end


/-! ## What leaves image memory alone: the arm, sensors and the printer -/

section
variable (s : State) (m : Move)

@[simp] theorem sendRow_memory : s.sendRow.memory = s.memory := by
  unfold State.sendRow
  split <;> rfl

@[simp] theorem unloadPlatter_memory : s.unloadPlatter.memory = s.memory := by
  unfold State.unloadPlatter
  split <;> rfl

@[simp] theorem spoilPrint_memory : s.spoilPrint.memory = s.memory := unloadPlatter_memory _

@[simp] theorem finishPrint_memory : s.finishPrint.memory = s.memory := unloadPlatter_memory _

@[simp] theorem commitSerial_memory (j : JobId) : (s.commitSerial j).memory = s.memory := by
  unfold State.commitSerial
  dsimp only
  split <;> rfl

@[simp] theorem commitLabel_memory : s.commitLabel.memory = s.memory := by
  unfold State.commitLabel
  split
  · rfl
  · split
    · rfl
    · dsimp only
      split <;> simp

@[simp] theorem proceedLabel_memory : s.proceedLabel.memory = s.memory := by
  unfold State.proceedLabel
  split <;> simp

@[simp] theorem platterTaken_memory : s.platterTaken.memory = s.memory := by
  unfold State.platterTaken
  dsimp only
  split <;> rfl

@[simp] theorem platterLost_memory : s.platterLost.memory = s.memory := by
  unfold State.platterLost
  dsimp only
  split <;> rfl

@[simp] theorem mark_memory (i : BinId) (b : Bool) : (s.mark i b).memory = s.memory := rfl
@[simp] theorem returnRequest_memory (r : Request) : (s.returnRequest r).memory = s.memory := rfl
@[simp] theorem giveUpReservation_memory : s.giveUpReservation.memory = s.memory := rfl
@[simp] theorem enterPhase_memory (ph : Phase) : (s.enterPhase m ph).memory = s.memory := rfl
@[simp] theorem armFault_memory (c : TransportCause) (st : Option Station) : (s.armFault c st).memory = s.memory := rfl
@[simp] theorem homingFailed_memory : s.homingFailed.memory = s.memory := rfl

@[simp] theorem holdPort_memory : (s.holdPort m).memory = s.memory := memory_of_fixed (holdPort_fixed s m)

@[simp] theorem closeMove_memory (b : Bool) (st : Option Station) : (s.closeMove m b st).memory = s.memory :=
  memory_of_fixed (closeMove_fixed s m b st)

@[simp] theorem createFeed_memory (p : PortId) : (s.createFeed p).memory = s.memory :=
  memory_of_fixed (createFeed_fixed s p)

@[simp] theorem createRecover_memory (q : Place) : (s.createRecover q).memory = s.memory :=
  memory_of_fixed (createRecover_fixed s q)

@[simp] theorem liftDisc_memory (q : Place) (st : Station) : (s.liftDisc q st).memory = s.memory :=
  memory_of_fixed (liftDisc_fixed s q st)

@[simp] theorem gripAtBin_memory (i : BinId) (p : PortId) (j : JobId) (b : Bool) :
    (s.gripAtBin m i p j b).memory = s.memory := by
  unfold State.gripAtBin
  dsimp only
  (repeat' split) <;> simp

@[simp] theorem gripAtPlace_memory (q : Place) (b : Bool) : (s.gripAtPlace m q b).memory = s.memory := by
  unfold State.gripAtPlace
  cases q <;> dsimp only <;> (repeat' split) <;> simp

@[simp] theorem judgeGrip_memory (b : Bool) : (s.judgeGrip m b).memory = s.memory := by
  unfold State.judgeGrip
  split <;> simp

@[simp] theorem land_memory : (s.land m).memory = s.memory := by
  unfold State.land
  split
  case h_5 =>
    dsimp only
    (repeat' split) <;> simp [State.loadPrinter]
  all_goals simp

@[simp] theorem endMove_memory : s.endMove.memory = s.memory := rfl

@[simp] theorem judgeRelease_memory (b : Bool) : (s.judgeRelease m b).memory = s.memory := by
  unfold State.judgeRelease
  dsimp only
  (repeat' split) <;> simp

@[simp] theorem stall_memory : (s.stall m).memory = s.memory := by
  unfold State.stall
  split <;> simp

@[simp] theorem drop_memory : (s.drop m).memory = s.memory := by
  simp [State.drop]

theorem onMove_memory {f : Move → State → State} (h : ∀ m, (f m s).memory = s.memory) :
    (s.onMove f).memory = s.memory := by
  unfold State.onMove
  split
  · rfl
  · exact h _

@[simp] theorem arrived_memory : s.arrived.memory = s.memory :=
  onMove_memory s fun m => by split <;> rfl

@[simp] theorem inventoryPlace_memory (q : Place) (b : Bool) : (s.inventoryPlace q b).memory = s.memory := by
  unfold State.inventoryPlace
  (repeat' split) <;> simp

@[simp] theorem readGripper_memory : s.readGripper.memory = s.memory := by
  unfold State.readGripper
  split <;> simp

@[simp] theorem inventory_memory : s.inventory.memory = s.memory := by
  have hfold := foldl_memory (f := fun (s : State) (k : SlotId) => s.inventoryPlace (.shelf k) (nth s.sensors.shelf k))
    (fun s k => inventoryPlace_memory s _ _) (numbers 4) s
  simp [State.inventory, hfold]

@[simp] theorem homed_memory : s.homed.memory = s.memory := by
  simp [State.homed]

@[simp] theorem gripperIdle_memory (b : Bool) : (s.gripperIdle b).memory = s.memory := by
  unfold State.gripperIdle
  dsimp only
  (repeat' split) <;> simp

@[simp] theorem gripperChanges_memory (b : Bool) : (s.gripperChanges b).memory = s.memory := by
  unfold State.gripperChanges
  dsimp only
  (repeat' split) <;> simp

@[simp] theorem compareSensor_memory (k : BinSensor) : (s.compareSensor k).memory = s.memory := by
  unfold State.compareSensor
  dsimp only
  split <;> rfl

@[simp] theorem sensorChanges_memory (k : BinSensor) (b : Bool) : (s.sensorChanges k b).memory = s.memory := by
  unfold State.sensorChanges
  split
  · rfl
  · cases k <;> simp

end

end Sys2Proof.Machine

namespace Sys2Proof.Machine

/-! ## What a command's own work does to image memory -/

section
variable {s : State}

theorem withJob_memory {f : JobId → State × Result} (b : Byte) (h : ∀ j, (f j).1.memory = s.memory) :
    (withJob b s f).1.memory = s.memory := by
  unfold withJob
  split
  · rfl
  · exact h _

theorem withPort_memory {f : PortId → State × Result} (b : Byte) (h : ∀ p, (f p).1.memory = s.memory) :
    (withPort b s f).1.memory = s.memory := by
  unfold withPort
  split
  · rfl
  · exact h _

theorem setJob_memory (b : Byte) (pre lag tgt : Half) (bin prof tmpl : Byte) :
    (setJob b pre lag tgt bin prof tmpl s).1.memory = s.memory :=
  withJob_memory b fun j => by
    dsimp only
    (repeat' split) <;> rfl

theorem runJob_memory (b : Byte) : (runJob b s).1.memory = s.memory :=
  withJob_memory b fun j => by
    dsimp only
    split <;> rfl

theorem drainJob_memory (b : Byte) : (drainJob b s).1.memory = s.memory :=
  withJob_memory b fun j => by
    split
    · simp [State.accept]
    all_goals rfl

theorem enterHalting_memory (j : JobId) : (s.enterHalting j).memory = s.memory := by
  rw [enterHalting_eq, withdraw_memory, (haltPorts_work _ j).memory, abortPass_memory, modJob_memory]

theorem haltJob_memory (b : Byte) : (haltJob b s).1.memory = s.memory :=
  withJob_memory b fun j => by
    split
    · simp [State.accept, enterHalting_memory]
    · simp [State.accept, enterHalting_memory]
    all_goals rfl

theorem closeJob_memory (b : Byte) : (closeJob b s).1.memory = s.memory :=
  withJob_memory b fun j => by split <;> rfl

theorem loadMap_memory (b : Byte) (es : List ExtentEntry) : (loadMap b es s).1.memory = s.memory :=
  withJob_memory b fun j => by (repeat' split) <;> rfl

theorem loadProfile_memory (b : Byte) (e : ProfileEntry) : (loadProfile b e s).1.memory = s.memory := by
  unfold loadProfile
  (repeat' split) <;> rfl

theorem assignPort_memory (b k : Byte) : (assignPort b k s).1.memory = s.memory := by
  unfold assignPort
  (repeat' split) <;> rfl

theorem loadTiming_memory (e : TimingEntry) : (loadTiming e s).1.memory = s.memory := by
  simp only [loadTiming, State.accept, foldl_memory sleepPort_memory]

theorem setSerial_memory (b : Byte) (base : Word) (st : Half) (w pad : Byte) :
    (setSerial b base st w pad s).1.memory = s.memory :=
  withJob_memory b fun j => by
    dsimp only
    (repeat' split) <;> rfl

theorem digestReset_memory (b : Byte) : (digestReset b s).1.memory = s.memory :=
  withJob_memory b fun j => by split <;> rfl

theorem admitLoaded_memory (j : JobId) : (s.admitLoaded j).memory = s.memory :=
  foldl_memory (f := fun (s : State) p => if s.assigned p = some j ∧ (s.port p).state = .loaded then s.joinWave j p else s)
    (fun s p => by split <;> simp) (numbers 16) s

theorem passStart_memory (b : Byte) : (passStart b s).1.memory = s.memory :=
  withJob_memory b fun j => by
    split
    · rfl
    · split
      · rfl
      · simp [State.startPass, admitLoaded_memory]

theorem passAbort_memory (b : Byte) : (passAbort b s).1.memory = s.memory :=
  withJob_memory b fun j => by
    split
    · exact abortPass_memory s j _ _
    · rfl

theorem resetPort_memory (p : PortId) : (s.resetPort p).memory = s.memory := by
  unfold State.resetPort
  dsimp only
  split
  · split <;> simp
  · split <;> rfl

theorem portReset_memory (b : Byte) : (portReset b s).1.memory = s.memory :=
  withPort_memory b fun p => by
    split
    · rfl
    · exact resetPort_memory p

theorem portService_memory (b : Byte) : (portService b s).1.memory = s.memory :=
  withPort_memory b fun p => by
    split
    · rfl
    · split
      · rfl
      · exact goOffline_memory s p

theorem transportHome_memory : (transportHome s).1.memory = s.memory := by
  unfold transportHome
  (repeat' split) <;> rfl

theorem transportPause_memory : (transportPause s).1.memory = s.memory := by
  unfold transportPause
  (repeat' split) <;> rfl

theorem resume_memory : s.resume.memory = s.memory := by
  unfold State.resume
  dsimp only
  rw [apply_ite State.memory, readGripper_memory]
  exact ite_self _

theorem transportResume_memory : (transportResume s).1.memory = s.memory := by
  unfold transportResume
  split
  · rfl
  · exact resume_memory
  · exact resume_memory
  · rfl
  · rfl

theorem hostMove_memory (src dest : Byte) : (hostMove src dest s).1.memory = s.memory := by
  unfold hostMove
  (repeat' split) <;> rfl

theorem setTemplate_memory (b : Byte) (i o : Half) (fs : List FieldEntry) :
    (setTemplate b i o fs s).1.memory = s.memory := by
  unfold setTemplate
  dsimp only
  (repeat' split) <;> rfl

theorem loadGlyphs_memory (gs : Vector Glyph 16) : (loadGlyphs gs s).1.memory = s.memory := by
  unfold loadGlyphs
  split <;> rfl

theorem ribbonLoad_memory (n : Half) : (ribbonLoad n s).1.memory = s.memory := by
  unfold ribbonLoad
  dsimp only
  split
  · exact commitLabel_memory _
  · rfl

theorem printerResume_memory : (printerResume s).1.memory = s.memory := by
  unfold printerResume
  (repeat' split) <;> rfl

theorem acknowledged_memory (n : Notice) : (s.acknowledged n).memory = s.memory := by
  have hfree : ∀ j, (s.freePass j).memory = s.memory := fun j => by
    unfold State.freePass
    split <;> rfl
  unfold State.acknowledged
  split <;> simp [hfree]

theorem ackCause_memory (c : CauseClass) (cause : Byte) (obj : Half) :
    (ackCause c cause obj s).1.memory = s.memory := by
  unfold ackCause
  split
  · rfl
  · split
    · rfl
    · split
      · rfl
      · exact acknowledged_memory _

theorem ackReport_memory (cause : Byte) (obj : Half) : (ackReport cause obj s).1.memory = s.memory := by
  unfold ackReport
  (repeat' split) <;> rfl

theorem ackNotice_memory (cls cause : Byte) (obj : Half) : (ackNotice cls cause obj s).1.memory = s.memory := by
  unfold ackNotice
  split <;> simp [ackCause_memory, ackReport_memory, State.refuse]

theorem faultClear_memory (b : Byte) : (faultClear b s).1.memory = s.memory :=
  withJob_memory b fun _ => rfl

theorem readObject_memory (h : CmdHdr) (a : ReadArgs) : (readObject h a s).1.memory = s.memory := by
  have hclear : (readClear s a).memory = s.memory := by
    unfold readClear
    (repeat' split) <;> rfl
  unfold readObject
  (repeat' split) <;> simp [hclear]

end

/-! ## The canonical form of image memory, event by event -/

section
variable {s : State} {f : State → State}

theorem memoryOk_of_eq {t : State} (h : t.memory = s.memory) (hs : s.memoryOk) : t.memoryOk := by
  unfold State.memoryOk at *
  rw [h]
  exact hs

theorem settle_memory (s0 s : State) : (State.settle s0 s).memory = s.memory := memory_of_fixed (settle_fixed s0 s)

theorem outbound_memory (s0 s : State) : (State.outbound s0 s).memory = s.memory :=
  memory_of_fixed (outbound_fixed s0 s)

theorem event_memoryOk (hs : s.memoryOk) (hf : (f s).memoryOk) : (s.event f).memoryOk := by
  unfold State.event
  split
  · exact hs
  · exact memoryOk_of_eq (settle_memory _ _) hf

theorem eventIf_memoryOk (c : Bool) (hs : s.memoryOk) (hf : (f s).memoryOk) : (s.eventIf c f).memoryOk := by
  unfold State.eventIf
  split
  · exact event_memoryOk hs hf
  · exact hs

theorem quietIf_memoryOk (c : Bool) (hs : s.memoryOk) (hf : (f s).memoryOk) : (s.quietIf c f).memoryOk := by
  unfold State.quietIf
  split
  · exact hs
  · exact hf

theorem event_keepsMemory (hs : s.memoryOk) (hf : (f s).memory = s.memory) : (s.event f).memoryOk :=
  event_memoryOk hs (memoryOk_of_eq hf hs)

theorem eventIf_keepsMemory (c : Bool) (hs : s.memoryOk) (hf : (f s).memory = s.memory) : (s.eventIf c f).memoryOk :=
  eventIf_memoryOk c hs (memoryOk_of_eq hf hs)

theorem quietIf_keepsMemory (c : Bool) (hs : s.memoryOk) (hf : (f s).memory = s.memory) : (s.quietIf c f).memoryOk :=
  quietIf_memoryOk c hs (memoryOk_of_eq hf hs)

theorem enterSynced_memory (s : State) : s.enterSynced.memory = s.memory := by
  unfold State.enterSynced
  dsimp only
  rw [foldl_memory fun s j => by split <;> rfl]
  split <;> rfl

theorem huntGood_memory (s : State) : s.huntGood.memory = s.memory := by
  unfold State.huntGood
  dsimp only
  rw [outbound_memory]
  split
  · rfl
  · exact enterSynced_memory _

/-- A frame that is heard keeps the canonical form if its dispatch does. -/
theorem hear_memoryOk (hs : s.memoryOk) (hf : s.countGood.memoryOk → (f s.countGood).memoryOk) :
    (s.hear f).memoryOk := by
  unfold State.hear
  split
  · exact hs
  · split
    · exact memoryOk_of_eq (huntGood_memory s) hs
    · exact hf hs

theorem take_memoryOk {h : CmdHdr} {n : Nat} {after : After} {perform : State → State × AnswerEntry} (hs : s.memoryOk)
    (hp : (perform s).1.memoryOk) : (State.take h n after perform s).memoryOk := by
  have ho : (State.outbound s ((perform s).1.answer (perform s).2)).memoryOk :=
    memoryOk_of_eq (outbound_memory _ _) hp
  unfold State.take
  split
  · exact hs
  · split
    · exact memoryOk_of_eq (outbound_memory _ _) hs
    · dsimp only
      split
      · exact memoryOk_of_eq (settle_memory _ _) hp
      · exact ho
      · exact ho

/-- A command keeps the canonical form if its own work does. -/
theorem command_memoryOk {h : CmdHdr} {n : Nat} {after : After} {perform : State → State × Result} (hs : s.memoryOk)
    (hp : ∀ s : State, s.memoryOk → (perform s).1.memoryOk) : (State.command h n after perform s).memoryOk :=
  hear_memoryOk hs fun hc => take_memoryOk hc (hp _ hc)

theorem command_keepsMemory {h : CmdHdr} {n : Nat} {after : After} {perform : State → State × Result} (hs : s.memoryOk)
    (hp : ∀ s : State, (perform s).1.memory = s.memory) : (State.command h n after perform s).memoryOk :=
  command_memoryOk hs fun s => memoryOk_of_eq (hp s)

theorem driveAnswer_memoryOk (hs : s.memoryOk) (p : PortId) (k : CmdClass) (b : Bool) (a : Answer) (i : IdentifyInfo) :
    (s.driveAnswer p k b a i).memoryOk := by
  unfold State.driveAnswer
  dsimp only
  (repeat' split)
  · exact hs
  · exact hs
  · exact event_memoryOk hs (memoryOk_of_eq (by simp) hs)

theorem start_memoryOk (hs : s.memoryOk) : s.start.memoryOk := by
  have hsensors : s.sensorsAtRelease.memory = s.memory := by rw [sensorsAtRelease_work s]
  exact memoryOk_of_eq ((outbound_memory _ _).trans hsensors) hs

theorem resetValues_memoryOk (s : State) : s.resetValues.memoryOk := ImageMemory.wf_reset

theorem binSensorRow_memoryOk (hs : s.memoryOk) (k : BinSensor) (b : Bool) : (s.binSensorRow k b).memoryOk := by
  unfold State.binSensorRow
  split
  · exact hs
  · exact event_keepsMemory hs (sensorChanges_memory s k b)

theorem linkLost_memory (s : State) : s.linkLost.memory = s.memory :=
  foldl_memory (fun s j => by unfold State.losePass; split <;> simp) (numbers 4) s

theorem badFrame_memory (s : State) : s.badFrame.memory = s.memory := by
  unfold State.badFrame
  dsimp only
  split
  · rfl
  · split
    · rfl
    · exact linkLost_memory _

theorem sendAnswer_memory (s : State) : s.sendAnswer.memory = s.memory := by
  unfold State.sendAnswer
  split <;> rfl

theorem sendCredit_memory (s : State) : s.sendCredit.memory = s.memory := by
  unfold State.sendCredit
  (repeat' split) <;> rfl

theorem sendNotice_memory (s : State) : s.sendNotice.memory = s.memory := by
  unfold State.sendNotice
  dsimp only
  (repeat' split) <;> rfl

theorem sendReport_memory (s : State) : s.sendReport.memory = s.memory := by
  unfold State.sendReport
  (repeat' split) <;> rfl

/-- A timeout of a command that waited for the link counts it as issued (log 5). -/
theorem commandTimeout_memory (s : State) (p : PortId) :
    ((if (s.port p).afterReset.isSome then s.modPort p (Port.linkBack s.now s.timing) else s).commandTimeout p).memory =
      s.memory := by
  refine (timedOut_memory _ p).trans ?_
  split <;> rfl

end

/-! ## The rows that write image memory (R2, R26, R42, R154) -/

section
variable {s : State}

theorem openJob_memoryOk (b : Byte) (r : Half) (hs : s.memoryOk) : (openJob b r s).1.memoryOk := by
  unfold openJob withJob
  split
  · exact hs
  · dsimp only
    (repeat' split)
    · exact hs
    · exact hs
    · exact hs
    · exact ImageMemory.wf_clearRing hs _

theorem loadTemplate_memoryOk (b : Byte) (o : Word) (ch : List Byte) (hs : s.memoryOk) :
    (loadTemplate b o ch s).1.memoryOk := by
  unfold loadTemplate
  (repeat' split)
  · exact hs
  · exact hs
  · exact hs
  · exact hs
  · exact ImageMemory.wf_setRaster hs _ _ _

theorem blockDigest_memoryOk (j : JobId) (b : Nat) (d : Word) (hs : s.memoryOk) : (s.blockDigest j b d).1.memoryOk := by
  unfold State.blockDigest
  dsimp only
  split
  · dsimp only
    split <;> exact ImageMemory.wf_setDigest hs j b d
  · exact hs
  · exact hs

theorem composeSector_memoryOk (j : JobId) (data : Sector) (hs : s.memoryOk) : (s.composeSector j data).1.memoryOk := by
  unfold State.composeSector
  dsimp only
  split
  · exact hs
  · next p _ =>
    have hset := ImageMemory.wf_setSector hs j (p.comp.head % (16 * (s.job j).ring)) data
    split
    · exact blockDigest_memoryOk j _ _ hset
    · exact hset

/-- One more sector of a frame: it is composed, and the first mismatch is kept (R41, R43). -/
def composeNext (j : JobId) (r : State × Option Nat) (d : Sector) : State × Option Nat :=
  ((r.1.composeSector j d).1, r.2.orElse fun _ => (r.1.composeSector j d).2)

theorem composeSectors_eq (j : JobId) (ds : List Sector) : s.composeSectors j ds = ds.foldl (composeNext j) (s, none) := rfl

theorem composeSectors_memoryOk (j : JobId) (ds : List Sector) (hs : s.memoryOk) :
    (s.composeSectors j ds).1.memoryOk := by
  rw [composeSectors_eq]
  suffices h : ∀ r : State × Option Nat, r.1.memoryOk → (ds.foldl (composeNext j) r).1.memoryOk from h (s, none) hs
  induction ds with
  | nil => exact fun _ hr => hr
  | cons d ds ih => exact fun r hr => ih _ (composeSector_memoryOk j d hr)

theorem imageFrame_memoryOk (b : Byte) (pl : List Byte) (hs : s.memoryOk) : (s.imageFrame b pl).memoryOk := by
  unfold State.imageFrame
  split
  · exact hs
  · next j p _ =>
    split
    · have hc := composeSectors_memoryOk j (frameSectors pl) (s := s.modPass j fun p =>
        { p with comp := { p.comp with frames := p.comp.frames + 1, framesInExtent := p.comp.framesInExtent + 1 } }) hs
      dsimp only
      split
      · next heq => rw [heq] at hc; exact hc
      · next heq => rw [heq] at hc; exact memoryOk_of_eq (abortPass_memory _ _ _ _) hc
    · exact memoryOk_of_eq (abortPass_memory _ _ _ _) hs

theorem fillOne_memoryOk (j : JobId) (hs : s.memoryOk) : (s.fillOne j).memoryOk := by
  unfold State.fillOne
  split
  · exact hs
  · next p _ =>
    split
    · have hc := composeSector_memoryOk j
        (List.replicate Config.sectorBytes (((p.cursor (s.job j)).map Extent.fill).getD 0)) hs
      split
      · next heq => rw [heq] at hc; exact hc
      · next heq => rw [heq] at hc; exact memoryOk_of_eq (abortPass_memory _ _ _ _) hc
    · exact hs

end

end Sys2Proof.Machine

namespace Sys2Proof.Machine

/-! ## Every row keeps the canonical form of image memory -/

/-- Every row has a next state, and its image memory is in canonical form if it was before. -/
theorem exec_memoryOk (i : Instr) {s : State} (hs : s.memoryOk) : ∃ t, exec i s = .next t ∧ t.memoryOk := by
  cases i with
  | powerOn =>
    refine ⟨_, rfl, ?_⟩
    split
    · exact resetValues_memoryOk s
    · exact start_memoryOk (resetValues_memoryOk s)
  | resetPin => exact ⟨_, rfl, resetValues_memoryOk s⟩
  | resetRelease =>
    refine ⟨_, rfl, ?_⟩
    split
    · exact start_memoryOk hs
    · exact hs
  | resetPerformed =>
    refine ⟨_, rfl, ?_⟩
    split
    · exact hs
    · exact start_memoryOk (resetValues_memoryOk s)
  | jobOpen h job ring => exact ⟨_, rfl, command_memoryOk hs fun _ => openJob_memoryOk job ring⟩
  | setJob => exact ⟨_, rfl, command_keepsMemory hs fun _ => setJob_memory _ _ _ _ _ _ _⟩
  | jobRun h job => exact ⟨_, rfl, command_keepsMemory hs fun _ => runJob_memory job⟩
  | jobDrain h job => exact ⟨_, rfl, command_keepsMemory hs fun _ => drainJob_memory job⟩
  | jobHalt h job => exact ⟨_, rfl, command_keepsMemory hs fun _ => haltJob_memory job⟩
  | jobClose h job => exact ⟨_, rfl, command_keepsMemory hs fun _ => closeJob_memory job⟩
  | loadMap h job es => exact ⟨_, rfl, command_keepsMemory hs fun _ => loadMap_memory job es⟩
  | loadProfile h g e => exact ⟨_, rfl, command_keepsMemory hs fun _ => loadProfile_memory g e⟩
  | assignPort h p j => exact ⟨_, rfl, command_keepsMemory hs fun _ => assignPort_memory p j⟩
  | loadTiming h e => exact ⟨_, rfl, command_keepsMemory hs fun _ => loadTiming_memory e⟩
  | setSerial => exact ⟨_, rfl, command_keepsMemory hs fun _ => setSerial_memory _ _ _ _ _⟩
  | digestReset h job => exact ⟨_, rfl, command_keepsMemory hs fun _ => digestReset_memory job⟩
  | passStart h job => exact ⟨_, rfl, command_keepsMemory hs fun _ => passStart_memory job⟩
  | passAbort h job => exact ⟨_, rfl, command_keepsMemory hs fun _ => passAbort_memory job⟩
  | portReset h p => exact ⟨_, rfl, command_keepsMemory hs fun _ => portReset_memory p⟩
  | portService h p => exact ⟨_, rfl, command_keepsMemory hs fun _ => portService_memory p⟩
  | transportHome => exact ⟨_, rfl, command_keepsMemory hs fun _ => transportHome_memory⟩
  | transportPause => exact ⟨_, rfl, command_keepsMemory hs fun _ => transportPause_memory⟩
  | transportResume => exact ⟨_, rfl, command_keepsMemory hs fun _ => transportResume_memory⟩
  | hostMove h src dest => exact ⟨_, rfl, command_keepsMemory hs fun _ => hostMove_memory src dest⟩
  | loadTemplate h t o ch => exact ⟨_, rfl, command_memoryOk hs fun _ => loadTemplate_memoryOk t o ch⟩
  | setTemplate h t i o fs => exact ⟨_, rfl, command_keepsMemory hs fun _ => setTemplate_memory t i o fs⟩
  | loadGlyphs h gs => exact ⟨_, rfl, command_keepsMemory hs fun _ => loadGlyphs_memory gs⟩
  | ribbonLoad h n => exact ⟨_, rfl, command_keepsMemory hs fun _ => ribbonLoad_memory n⟩
  | printerResume => exact ⟨_, rfl, command_keepsMemory hs fun _ => printerResume_memory⟩
  | ackNotice h c k o => exact ⟨_, rfl, command_keepsMemory hs fun _ => ackNotice_memory c k o⟩
  | faultClear h job => exact ⟨_, rfl, command_keepsMemory hs fun _ => faultClear_memory job⟩
  | read h a =>
    exact ⟨_, rfl, hear_memoryOk hs fun hc => take_memoryOk hc (memoryOk_of_eq (readObject_memory h a) hc)⟩
  | partReset => exact ⟨_, rfl, hear_memoryOk hs fun hc => take_memoryOk hc hc⟩
  | unknownCommand => exact ⟨_, rfl, hear_memoryOk hs fun hc => take_memoryOk hc hc⟩
  | commandDropped =>
    refine ⟨_, rfl, ?_⟩
    split
    · exact hs
    · exact hear_memoryOk hs id
  | otherKindFrame => exact ⟨_, rfl, hear_memoryOk hs id⟩
  | imageFrame job pl =>
    exact ⟨_, rfl, hear_memoryOk hs fun hc => memoryOk_of_eq (settle_memory _ _) (imageFrame_memoryOk job pl hc)⟩
  | badFrame => exact ⟨_, rfl, eventIf_keepsMemory _ hs (badFrame_memory s)⟩
  | huntGoodFrame =>
    refine ⟨_, rfl, ?_⟩
    split
    · exact hear_memoryOk hs id
    · exact hs
  | frameDuringReset => exact ⟨_, rfl, hs⟩
  | laneSignalLoss =>
    refine ⟨_, rfl, ?_⟩
    split
    · exact quietIf_memoryOk _ hs hs
    · exact event_keepsMemory hs (linkLost_memory s)
  | answerSent => exact ⟨_, rfl, quietIf_keepsMemory _ hs (sendAnswer_memory s)⟩
  | creditSent => exact ⟨_, rfl, quietIf_keepsMemory _ hs (sendCredit_memory s)⟩
  | noticeSent => exact ⟨_, rfl, quietIf_keepsMemory _ hs (sendNotice_memory s)⟩
  | reportSent => exact ⟨_, rfl, quietIf_keepsMemory _ hs (sendReport_memory s)⟩
  | fillSector j => exact ⟨_, rfl, eventIf_memoryOk _ hs (fillOne_memoryOk j hs)⟩
  | linkUp p => exact ⟨_, rfl, eventIf_keepsMemory _ hs (linkUp_memory s p)⟩
  | linkDown p => exact ⟨_, rfl, event_keepsMemory hs (linkDown_memory s p)⟩
  | identifyAnswer => exact ⟨_, rfl, driveAnswer_memoryOk hs _ _ _ _ _⟩
  | trayAnswer => exact ⟨_, rfl, driveAnswer_memoryOk hs _ _ _ _ _⟩
  | sleepAnswer => exact ⟨_, rfl, driveAnswer_memoryOk hs _ _ _ _ _⟩
  | wakeAnswer => exact ⟨_, rfl, driveAnswer_memoryOk hs _ _ _ _ _⟩
  | mediaCheckAnswer => exact ⟨_, rfl, driveAnswer_memoryOk hs _ _ _ _ _⟩
  | writeAnswer => exact ⟨_, rfl, driveAnswer_memoryOk hs _ _ _ _ _⟩
  | syncAnswer => exact ⟨_, rfl, driveAnswer_memoryOk hs _ _ _ _ _⟩
  | finaliseAnswer => exact ⟨_, rfl, driveAnswer_memoryOk hs _ _ _ _ _⟩
  | readAnswer => exact ⟨_, rfl, driveAnswer_memoryOk hs _ _ _ _ _⟩
  | endedCommandAnswer => exact ⟨_, rfl, eventIf_memoryOk _ hs hs⟩
  | readSector => exact ⟨_, rfl, quietIf_memoryOk _ hs hs⟩
  | writeSectorTransferred p => exact ⟨_, rfl, quietIf_keepsMemory _ hs (writeSector_memory s p)⟩
  | endingTimeout => exact ⟨_, rfl, eventIf_memoryOk _ hs hs⟩
  | commandTimeout p => exact ⟨_, rfl, eventIf_keepsMemory _ hs (commandTimeout_memory s p)⟩
  | notReadyReissue p => exact ⟨_, rfl, eventIf_keepsMemory _ hs (notReadyReissue_memory s p)⟩
  | dataPhasePause => exact ⟨_, rfl, quietIf_memoryOk _ hs hs⟩
  | dataPhaseResume => exact ⟨_, rfl, quietIf_memoryOk _ hs hs⟩
  | pauseLimitExpiry p => exact ⟨_, rfl, eventIf_keepsMemory _ hs (timedOut_memory _ p)⟩
  | standbyIntervalReached p => exact ⟨_, rfl, eventIf_keepsMemory _ hs (sleepPort_memory _ p)⟩
  | armArrived =>
    refine ⟨_, rfl, eventIf_memoryOk _ hs ?_⟩
    split
    · exact memoryOk_of_eq (homed_memory s) hs
    · exact memoryOk_of_eq (arrived_memory s) hs
  | armStalled =>
    refine ⟨_, rfl, eventIf_memoryOk _ hs ?_⟩
    split
    · exact hs
    · exact memoryOk_of_eq (onMove_memory s (stall_memory s)) hs
  | travelTimeout => exact ⟨_, rfl, eventIf_keepsMemory _ hs (onMove_memory _ (stall_memory _))⟩
  | homingTimeout => exact ⟨_, rfl, eventIf_memoryOk _ hs hs⟩
  | gripDone =>
    exact ⟨_, rfl, eventIf_keepsMemory _ hs (onMove_memory s fun m => judgeGrip_memory s m false)⟩
  | gripTimeout =>
    exact ⟨_, rfl, eventIf_keepsMemory _ hs (onMove_memory _ fun m => judgeGrip_memory _ m false)⟩
  | releaseDone =>
    exact ⟨_, rfl, eventIf_keepsMemory _ hs (onMove_memory s fun m => judgeRelease_memory s m false)⟩
  | releaseTimeout =>
    exact ⟨_, rfl, eventIf_keepsMemory _ hs (onMove_memory _ fun m => judgeRelease_memory _ m false)⟩
  | gripperSensorChange k b =>
    refine ⟨_, rfl, ?_⟩
    cases k with
    | double => exact hs
    | present =>
      dsimp only
      split
      · exact hs
      · exact event_keepsMemory hs (gripperChanges_memory s b)
  | inputBinSensorChange => exact ⟨_, rfl, binSensorRow_memoryOk hs _ _⟩
  | fullSensorChange => exact ⟨_, rfl, binSensorRow_memoryOk hs _ _⟩
  | placeSensorChange =>
    refine ⟨_, rfl, ?_⟩
    split
    · exact hs
    · exact event_memoryOk hs hs
  | printerReady => exact ⟨_, rfl, eventIf_keepsMemory _ hs (proceedLabel_memory s)⟩
  | printRowSent => exact ⟨_, rfl, quietIf_keepsMemory _ hs (sendRow_memory s)⟩
  | printerDone =>
    refine ⟨_, rfl, eventIf_memoryOk _ hs ?_⟩
    split
    · exact memoryOk_of_eq (finishPrint_memory s) hs
    · exact memoryOk_of_eq (spoilPrint_memory s) hs
  | printerFaultReport => exact ⟨_, rfl, eventIf_keepsMemory _ hs (spoilPrint_memory s)⟩
  | printTimerExpiry => exact ⟨_, rfl, eventIf_keepsMemory _ hs (spoilPrint_memory _)⟩

/-- Settles O58, row by row: a tick of the clock leaves image memory, every row keeps its form. -/
theorem stepsKeepMemoryCanonical : Obligations.StepsKeepMemoryCanonical := by
  intro s t hs hstep
  unfold step at hstep
  split at hstep
  · cases hstep
    exact hs
  · next i rest _ =>
    obtain ⟨u, hexec, hu⟩ := exec_memoryOk i (s := { s with pending := rest }) hs
    cases hexec.symm.trans hstep
    exact hu

end Sys2Proof.Machine

namespace Sys2Proof.Machine

/-! ## Halves, words and flags as their bytes and bits (11) -/

/-- The first and the second byte of a half as sent (11). -/
def loByte (w : Half) : Byte := w.extractLsb' 0 8
def hiByte (w : Half) : Byte := w.extractLsb' 8 8

/-- Byte `k` of a 4-byte slot holding a number (R193). -/
def slotAt (n k : Nat) : Byte := (slotWord n).extractLsb' (8 * k) 8

theorem halfBytes_eq (w : Half) : halfBytes w = [loByte w, hiByte w] := rfl

theorem slot_eq (n : Nat) : slot n = [slotAt n 0, slotAt n 1, slotAt n 2, slotAt n 3] := rfl

theorem hiByte_loByte (w : Half) : hiByte w ++ loByte w = w :=
  BitVec.extractLsb'_append_extractLsb' (w := 8) (len := 8)

/-- A slot of a number below 2^32 reads as the number. -/
theorem slotAt_append {n : Nat} (h : n < 2 ^ 32) :
    slotAt n 3 ++ slotAt n 2 ++ slotAt n 1 ++ slotAt n 0 = BitVec.ofNat 32 n := by
  have hword : slotWord n = BitVec.ofNat 32 n := if_pos h
  simp only [slotAt]
  rw [BitVec.extractLsb'_append_extractLsb'_eq_extractLsb' (by rfl),
    BitVec.extractLsb'_append_extractLsb'_eq_extractLsb' (by rfl),
    BitVec.extractLsb'_append_extractLsb'_eq_extractLsb' (by rfl), hword]
  exact BitVec.extractLsb'_eq_self

/-- The flags of a list in the bits of a half, the first in bit 0 (R194). -/
def packFlags (bs : List Bool) : Half :=
  bs.reverse.foldl (fun (w : Half) b => (w <<< 1) ||| (if b then 1 else 0)) 0

theorem packFlags_cons (b : Bool) (bs : List Bool) :
    packFlags (b :: bs) = (packFlags bs <<< 1) ||| (if b then 1 else 0) := by
  simp [packFlags, List.foldl_append]

theorem packFlags_bit (bs : List Bool) : ∀ k, k < 16 → (packFlags bs).getLsbD k = bs.getD k false := by
  induction bs with
  | nil => simp [packFlags]
  | cons b bs ih =>
    intro k hk
    rw [packFlags_cons, BitVec.getLsbD_or, BitVec.getLsbD_shiftLeft]
    cases k with
    | zero => cases b <;> rfl
    | succ k => cases b <;> simp [ih k (by omega), hk]

/-! ## The bytes of a disc report (11.3, R194) -/

section
variable (r : Report)

/-- A report's bytes, one by one. -/
theorem report_bytes : r.bytes =
    let d := r.disc
    let m := d.metrics.getD ⟨0, 0, 0, 0⟩
    let p := d.pass.getD 0
    [loByte d.tag, hiByte d.tag, loByte r.flags, hiByte r.flags,
      byteOrNone (d.job.map Fin.val), byteOf d.state.code,
      byteOrNone (r.bin.map fun b => (Station.out b).code), byteOrNone (d.port.map Fin.val),
      loByte p, hiByte p, byteOf ((d.grade.map Grade.code).getD 0), byteOf ((d.cause.map FaultCause.code).getD 0),
      loByte (halfOf m.peak), hiByte (halfOf m.peak), loByte (halfOf m.mean), hiByte (halfOf m.mean),
      slotAt m.blocks 0, slotAt m.blocks 1, slotAt m.blocks 2, slotAt m.blocks 3,
      slotAt m.sectors 0, slotAt m.sectors 1, slotAt m.sectors 2, slotAt m.sectors 3,
      slotAt (d.serial.getD 0) 0, slotAt (d.serial.getD 0) 1, slotAt (d.serial.getD 0) 2, slotAt (d.serial.getD 0) 3,
      slotAt (d.lba.getD 0) 0, slotAt (d.lba.getD 0) 1, slotAt (d.lba.getD 0) 2, slotAt (d.lba.getD 0) 3,
      byteOf ((r.loss.map LossCause.code).getD 0), byteOrNone (r.place.map Place.code), 0, 0] := by
  simp only [Report.bytes, halfBytes_eq, slot_eq, List.cons_append, List.nil_append]

theorem flags_bit (k : Nat) (hk : k < 16) : r.flags.getLsbD k =
    [r.disc.job.isSome, r.disc.port.isSome, r.disc.pass.isSome, r.disc.grade.isSome, r.disc.metrics.isSome,
      r.disc.serial.isSome, r.disc.serial.isSome && r.disc.void, r.disc.cause.isSome, r.disc.lba.isSome, r.loss.isSome,
      r.place.isSome].getD k false :=
  packFlags_bit _ k hk

end

/-! ## The head entry leaves the queue (R30, R172, R175, R187) -/

section
variable {s : State} {q : List OutEntry}

theorem popOut_eq {e : OutEntry} (h : s.link.queue = e :: q) :
    s.popOut = { s with link := { s.link with queue := q } } := by
  rw [State.popOut, State.modLink, h]
  rfl

theorem sendAnswer_head {a : AnswerEntry} (h : s.link.queue = .answer a :: q) : s.sendAnswer = { s with
    link := { s.link with
      queue := if a.reset then [] else q, stage := if a.reset then .answered else s.link.stage }
    lines := { s.lines with frames := a.frames } } := by
  rw [State.sendAnswer, popOut_eq h, h]
  cases hr : a.reset <;> simp only [List.head?_cons, hr] <;> rfl

theorem sendCredit_head {j : JobId} {p : Pass} (h : s.link.queue = .credit j :: q) (hp : s.pass j = some p) :
    s.sendCredit = { s with
      link := { s.link with queue := q }, lines := { s.lines with frames := [creditFrame j p] } } := by
  rw [State.sendCredit, popOut_eq h, h]
  simp only [List.head?_cons, hp]
  rfl

theorem sendNotice_head {c : CauseClass} {x : Notice} {xs : List Notice} (h : s.link.queue = .notice c :: q)
    (hc : s.notices.get c = ⟨x :: xs, none⟩) : s.sendNotice = { s with
      link := { s.link with queue := q }, notices := s.notices.put c ⟨x :: xs, some x⟩
      lines := { s.lines with frames := [noticeFrame c x (xs.length + 1)] } } := by
  have hsend : s.notices.put c (s.notices.get c).send = s.notices.put c ⟨x :: xs, some x⟩ := by rw [hc]; rfl
  rw [State.sendNotice, popOut_eq h, h]
  simp only [List.head?_cons, hc, List.length_cons]
  rw [← hsend]
  rfl

/-- A class with nothing to send drops its entry (R172). -/
theorem sendNotice_empty {c : CauseClass} (h : s.link.queue = .notice c :: q) (hc : (s.notices.get c).set = []) :
    s.sendNotice = { s with link := { s.link with queue := q } } := by
  rw [State.sendNotice, popOut_eq h, h]
  simp only [List.head?_cons, hc, List.head?_nil]

theorem sendReport_head {r : Report} {rs : List Report} (h : s.link.queue = .report :: q)
    (hr : s.notices.reports = r :: rs) (ho : s.notices.reportOut = false) : s.sendReport = { s with
      link := { s.link with queue := q }, notices := { s.notices with reportOut := true }
      lines := { s.lines with frames := [reportFrame r (rs.length + 1)] } } := by
  have hhead : s.notices.reports.head? = some r := by rw [hr]; rfl
  have hlength : s.notices.reports.length = rs.length + 1 := by rw [hr]; rfl
  rw [State.sendReport, popOut_eq h, h]
  simp only [List.head?_cons, hhead, ho, hlength]
  rfl

end

/-- Settles O12: a report's bytes are read one by one; each kind of head entry leaves the queue as its frames. -/
theorem transmitterSendsHeadEntry : Obligations.TransmitterSendsHeadEntry := by
  refine ⟨fun _ => rfl, rfl, rfl, fun i hi => ?_, rfl, rfl, fun r => ?_, fun s q hs => ?_⟩
  · simp only [responsePayload, if_pos hi]
    rfl
  · rw [report_bytes]
    have zero : (0 : Byte) ++ (0 : Byte) = (0 : Half) := by decide
    refine ⟨rfl, hiByte_loByte _, fun k hk => ?_, rfl, rfl, rfl, rfl, hiByte_loByte _, rfl, rfl, fun hm => ?_,
      fun m hm => ?_, slotAt_append, slotAt_append, rfl, rfl, zero⟩
    · exact (congrArg (BitVec.getLsbD · k) (hiByte_loByte r.flags)).trans (flags_bit r k hk)
    · simp only [hm]
      rfl
    · simp only [hm]
      exact ⟨hiByte_loByte _, hiByte_loByte _, slotAt_append, slotAt_append⟩
  · have sent (f : State → State) : Host.Outcome.next (ρ := Refusal) (φ := Fault) (s.quietIf true f) = .next (f s) :=
      congrArg _ (quietIf_run hs rfl f)
    exact ⟨fun a h => (sent _).trans (congrArg _ (sendAnswer_head h)),
      fun j p h hp => (sent _).trans (congrArg _ (sendCredit_head h hp)),
      fun c x xs h hc => (sent _).trans (congrArg _ (sendNotice_head h hc)),
      fun c h hc => (sent _).trans (congrArg _ (sendNotice_empty h hc)),
      fun r rs h hr ho => (sent _).trans (congrArg _ (sendReport_head h hr ho))⟩

end Sys2Proof.Machine

namespace Sys2Proof.Machine

/-! ## Data phases (R73) -/

/-- A command's data moves while it is not ending, not paused and not waiting for its reissue. -/
theorem moving_iff {q : Port} : q.moving = true ↔ q.ending = false ∧ q.paused = false ∧ q.reissueAt = none := by
  simp [Port.moving, and_assoc]

/-- R85: the next sector of a segment goes from its slot of the ring to the drive. -/
theorem writeSector_inside {s : State} {p : PortId} {seg : Nat} {j : JobId} (hc : (s.port p).cmd = some (.writeSegment seg))
    (hj : s.waveOf p = some j) (hin : (s.port p).transferred < segmentSize (s.job j).length seg) :
    s.writeSector p = { s with
      ports := upd s.ports p { s.port p with transferred := (s.port p).transferred + 1 }
      lines := { s.lines with drive := upd s.lines.drive p (some (16 * seg + (s.port p).transferred,
        s.memory.sector j ((16 * seg + (s.port p).transferred) % (16 * (s.job j).ring)))) } } := by
  unfold State.writeSector
  rw [hc, hj]
  exact if_pos hin

/-! ## Standby (R77) -/

/-- An idle port whose standby interval the clock has reached issues sleep. -/
theorem sleepPort_due {s : State} {p : PortId} (h : s.sleepDue p = true) :
    s.sleepPort p = s.modPort p (Port.issue s.now s.timing .sleep 0) := if_pos h

/-- Settles O44: the guard of each row holds, and the row's effect is its one port's. -/
theorem dataPhasesAndStandby : Obligations.DataPhasesAndStandby := by
  intro s p hs
  refine ⟨fun c hc hk he hr hp => ?_, fun hp => congrArg _ (quietIf_run hs hp _), fun seg j hc hj he hp hr hin => ?_,
    fun hi hc hr hz => ?_⟩
  · have hphase : ((s.port p).dataPhase && !(s.port p).paused) = true := by
      simp [Port.dataPhase, Port.running, hc, he, hr, hp, hk]
    exact congrArg _ (quietIf_run hs hphase _)
  · have hmoving : (s.port p).moving = true := moving_iff.mpr ⟨he, hp, hr⟩
    exact congrArg _ ((quietIf_run hs hmoving _).trans (writeSector_inside hc hj hin))
  · have hguard : (decide ((s.port p).state = .idle) && !(s.port p).busy && decide (s.timing.standby ≠ 0)) = true := by
      simp [hi, hz, busy_iff.mpr ⟨hc, hr⟩]
    let due := (s.port p).idleSince + 15000 * s.timing.standby
    have hdue : (s.until (some due)).sleepDue p = true :=
      sleepDue_iff.mpr ⟨hi, hc, hr, hz, Nat.le_sub_of_add_le' (le_max_right s.now _)⟩
    have hrun := eventIf_run hs hguard fun s => (s.until (some due)).sleepPort p
    exact congrArg Host.Outcome.next (hrun.trans (congrArg (State.settle s) (sleepPort_due hdue)))

end Sys2Proof.Machine

namespace Sys2Proof.Machine

/-! ## The least and the greatest of a list -/

theorem foldl_min_spec (w : Nat) (ws : List Nat) : ws.foldl min w ∈ w :: ws ∧ ∀ v ∈ w :: ws, ws.foldl min w ≤ v :=
  List.min?_eq_some_iff.mp List.min?_cons'

theorem foldl_max_spec (w : Nat) (ws : List Nat) : ws.foldl max w ∈ w :: ws ∧ ∀ v ∈ w :: ws, v ≤ ws.foldl max w :=
  List.max?_eq_some_iff.mp List.max?_cons'

/-! ## The quantities of a pass (R24, R25, R27, R57) -/

section
variable {x : Job} {p : Pass}

theorem Pass.live_iff : p.live = true ↔ p.state = .forming ∨ p.state = .running := decide_eq_true_iff

/-- The cursor's extent is one of the job's map. -/
theorem cursor_eq_some {e : Extent} : p.cursor x = some e ↔ p.at x e := by
  rw [Pass.cursor, Option.bind_eq_some_iff]
  constructor
  · rintro ⟨i, hi, he⟩
    cases hm : x.map with
    | none => simp [hm] at he
    | some m => exact ⟨m, i, hm, hi, by rwa [hm] at he⟩
  · rintro ⟨m, i, hm, hi, he⟩
    exact ⟨i, hi, by rwa [hm]⟩

theorem mem_liveWritten {w : Nat} :
    w ∈ p.liveWritten ↔ ∃ m ∈ p.wave, (m.status = .armed ∨ m.status = .writing) ∧ m.written = w := by
  simp only [Pass.liveWritten, List.mem_map, List.mem_filter, Sys2Proof.Machine.live_iff, and_assoc]

theorem tail_forming (h : p.state = .forming) : p.tail = 0 := if_pos h

/-- Past FORMING the tail is the head, or the least written count of a member ARMED or WRITING. -/
theorem tail_launched (h : p.state ≠ .forming) : p.liveWritten = [] ∧ p.tail = p.comp.head ∨
    p.tail ∈ p.liveWritten ∧ ∀ w ∈ p.liveWritten, p.tail ≤ w := by
  rw [Pass.tail, if_neg h]
  cases p.liveWritten with
  | nil => exact .inl ⟨rfl, rfl⟩
  | cons w ws => exact .inr (foldl_min_spec w ws)

theorem tail_of_none_live (h : p.state ≠ .forming) (hn : ∀ m ∈ p.wave, m.status ≠ .armed ∧ m.status ≠ .writing) :
    p.tail = p.comp.head := by
  refine (tail_launched h).elim And.right fun ⟨hmem, _⟩ => ?_
  obtain ⟨m, hm, hlive, -⟩ := mem_liveWritten.mp hmem
  obtain ⟨ha, hw⟩ := hn m hm
  exact (hlive.elim ha hw).elim

theorem tail_least (h : p.state ≠ .forming) {m : Member} (hm : m ∈ p.wave)
    (hlive : m.status = .armed ∨ m.status = .writing) :
    p.tail ≤ m.written ∧ ∃ k ∈ p.wave, (k.status = .armed ∨ k.status = .writing) ∧ p.tail = k.written := by
  have hwritten : m.written ∈ p.liveWritten := mem_liveWritten.mpr ⟨m, hm, hlive, rfl⟩
  rcases tail_launched h with ⟨hnil, -⟩ | ⟨hmem, hle⟩
  · rw [hnil] at hwritten; cases hwritten
  · obtain ⟨k, hk, hklive, hkeq⟩ := mem_liveWritten.mp hmem
    exact ⟨hle _ hwritten, k, hk, hklive, hkeq.symm⟩

/-- The written counts of the members in WRITING (R57). -/
def Pass.writingCounts (p : Pass) : List Nat := (p.wave.filter fun m => decide (m.status = .writing)).map Member.written

theorem mem_writingCounts {w : Nat} : w ∈ p.writingCounts ↔ ∃ m ∈ p.wave, m.status = .writing ∧ m.written = w := by
  simp only [Pass.writingCounts, List.mem_map, List.mem_filter, decide_eq_true_eq, and_assoc]

theorem lead_spec : p.lead ∈ 0 :: p.writingCounts ∧ ∀ w ∈ 0 :: p.writingCounts, w ≤ p.lead :=
  foldl_max_spec 0 p.writingCounts

/-- The lead is the written count of a member in WRITING that no other exceeds. -/
theorem lead_greatest {m : Member} (hm : m ∈ p.wave) (hw : m.status = .writing) :
    ∃ k ∈ p.wave, k.status = .writing ∧ p.lead = k.written ∧
      ∀ l ∈ p.wave, l.status = .writing → l.written ≤ k.written := by
  obtain ⟨hin, hle⟩ := lead_spec (p := p)
  have hbound (l : Member) (hl : l ∈ p.wave) (hlw : l.status = .writing) : l.written ≤ p.lead :=
    hle _ (List.mem_cons_of_mem _ (mem_writingCounts.mpr ⟨l, hl, hlw, rfl⟩))
  have hsome : p.lead ∈ p.writingCounts := by
    rcases List.mem_cons.mp hin with hzero | hin
    · have hm0 : m.written = p.lead := by have := hbound m hm hw; omega
      exact mem_writingCounts.mpr ⟨m, hm, hw, hm0⟩
    · exact hin
  obtain ⟨k, hk, hkw, hkeq⟩ := mem_writingCounts.mp hsome
  exact ⟨k, hk, hkw, hkeq.symm, hkeq ▸ hbound⟩

/-! ## What makes a credit or fill wanted (R29, R35) -/

theorem wantsCredit_iff : p.wantsCredit x = true ↔
    (p.state = .forming ∨ p.state = .running) ∧ p.comp.outstanding < 8 ∧
      (∃ e, p.at x e ∧ e.kind = .stream ∧ p.comp.outstanding < (e.length + 15) / 16 - p.comp.framesInExtent) ∧
      (p.state = .running ∨ p.comp.head + 16 * p.comp.outstanding < x.prefillPoint) := by
  simp only [← cursor_eq_some, Pass.wantsCredit]
  cases p.cursor x with
  | none => simp
  | some e =>
    simp only [Bool.and_eq_true, Bool.or_eq_true, decide_eq_true_eq, Pass.live_iff, Option.some.injEq, exists_eq_left']
    by_cases hk : e.kind = .stream
    · simp only [hk, Pass.needed, Extent.frames, if_true, true_and, and_true, and_assoc]
    · simp only [hk, false_and, and_false]

theorem wantsFill_iff : p.wantsFill x = true ↔
    (p.state = .forming ∨ p.state = .running) ∧ (∃ e, p.at x e ∧ e.kind = .fill) ∧
      (p.state = .running ∨ p.comp.head < x.prefillPoint) := by
  simp only [← cursor_eq_some, Pass.wantsFill]
  cases p.cursor x with
  | none => simp
  | some e => simp only [Bool.and_eq_true, Bool.or_eq_true, decide_eq_true_eq, Pass.live_iff, Option.some.injEq,
      exists_eq_left', and_assoc]

theorem isBlocked_iff : p.isBlocked x = true ↔
    (p.wantsCredit x = true ∧ p.creditRoom x = false) ∨ (p.wantsFill x = true ∧ p.free x = 0) := by
  simp only [Pass.isBlocked, Bool.or_eq_true, Bool.and_eq_true, Bool.not_eq_true', decide_eq_true_eq]

/-! ## Credits one after another (R29) -/

/-- The pass `q` after `n` attempts at a credit: if the conditions still hold, each of them granted one. -/
structure GrantedFrom (x : Job) (p : Pass) (n : Nat) (q : Pass) : Prop where
  frame : q = { p with comp := { p.comp with credits := q.comp.credits } }
  atMost : q.comp.outstanding ≤ 8
  rises : p.comp.outstanding ≤ q.comp.outstanding
  dead : p.live = false → q = p
  granted : q.wantsCredit x = true → q.creditRoom x = true → n ≤ q.comp.outstanding

theorem grant_ready (hw : p.wantsCredit x = true) (hr : p.creditRoom x = true) :
    p.grant x = { p with comp := { p.comp with credits := p.comp.credits + 1 } } := by
  rw [Pass.grant, hw, hr]; rfl

theorem grant_unready (h : ¬ (p.wantsCredit x = true ∧ p.creditRoom x = true)) : p.grant x = p :=
  if_neg (by rwa [Bool.and_eq_true])

theorem outstanding_credit {c : Composition} (h : c.outstanding < 8) :
    ({ c with credits := c.credits + 1 } : Composition).outstanding = c.outstanding + 1 := by
  simp only [Composition.outstanding] at *
  bv_omega

theorem GrantedFrom.refl (h : p.comp.outstanding ≤ 8) : GrantedFrom x p 0 p :=
  ⟨rfl, h, le_rfl, fun _ => rfl, fun _ _ => Nat.zero_le _⟩

theorem GrantedFrom.grant {n : Nat} {q : Pass} (h : GrantedFrom x p n q) : GrantedFrom x p (n + 1) (q.grant x) := by
  by_cases hready : q.wantsCredit x = true ∧ q.creditRoom x = true
  · obtain ⟨hwants, hroom⟩ := hready
    obtain ⟨hlive, hbelow, -⟩ := wantsCredit_iff.mp hwants
    have hone : (q.grant x).comp.outstanding = q.comp.outstanding + 1 := by
      rw [grant_ready hwants hroom]; exact outstanding_credit hbelow
    have hcount := h.granted hwants hroom
    have hrises := h.rises
    refine ⟨?_, by omega, by omega, fun hdead => ?_, fun _ _ => by omega⟩
    · rw [grant_ready hwants hroom, h.frame]
    · rw [h.dead hdead, ← Pass.live_iff, hdead] at hlive; cases hlive
  · rw [grant_unready hready]
    exact ⟨h.frame, h.atMost, h.rises, h.dead, fun hw hr => (hready ⟨hw, hr⟩).elim⟩

theorem grantedFrom_attempts (h : p.comp.outstanding ≤ 8) :
    ∀ n, GrantedFrom x p n ((List.range n).foldl (fun q _ => q.grant x) p)
  | 0 => .refl h
  | n + 1 => by
    rw [List.range_succ, List.foldl_append]
    exact (grantedFrom_attempts h n).grant

theorem grants_from (h : p.comp.outstanding ≤ 8) : GrantedFrom x p 8 (p.grants x) := grantedFrom_attempts h 8

/-- After eight attempts the conditions of a credit no longer hold together. -/
theorem grants_exhausted (h : p.comp.outstanding ≤ 8) (hw : (p.grants x).wantsCredit x = true) :
    (p.grants x).creditRoom x = false := by
  refine Bool.eq_false_iff.mpr fun hr => ?_
  obtain ⟨-, hbelow, -⟩ := wantsCredit_iff.mp hw
  exact absurd hbelow (Nat.not_lt.mpr ((grants_from h).granted hw hr))

/-! ## What the examination reports (R38, R39) -/

/-- The conditions an examination reports once its credits are granted. -/
def Pass.reported (x : Job) (q : Pass) : Pass :=
  { q with comp := { q.comp with
      blocked := q.isBlocked x
      prefillReached := q.comp.prefillReached || decide (x.prefillPoint ≤ q.comp.head)
        || (q.isBlocked x && decide (q.state = .forming)) } }

theorem examine_eq : p.examine x = (p.grants x).reported x := rfl

theorem prefillReached_reported : (p.reported x).comp.prefillReached = true ↔ p.comp.prefillReached = true ∨
    x.prefillPoint ≤ p.comp.head ∨ ((p.reported x).comp.blocked = true ∧ p.state = .forming) := by
  simp only [Pass.reported, Bool.or_eq_true, Bool.and_eq_true, decide_eq_true_eq, or_assoc]

/-! ## The members a cut takes (R57) -/

theorem mem_stragglers {limit : Nat} {m : Member} : m ∈ p.stragglers limit ↔
    limit ≠ 0 ∧ m ∈ p.wave ∧ m.status = .writing ∧ limit < p.lag m := by
  rw [Pass.stragglers]
  split
  · next h => simp [h]
  · next h => simp [h]

/-- The member that leads is no straggler. -/
theorem exists_not_straggler {limit : Nat} (h : ∃ m ∈ p.wave, m.status = .writing) :
    ∃ m ∈ p.wave, m.status = .writing ∧ m ∉ p.stragglers limit := by
  obtain ⟨m, hm, hw⟩ := h
  obtain ⟨k, hk, hkw, hlead, -⟩ := lead_greatest hm hw
  refine ⟨k, hk, hkw, fun hcut => ?_⟩
  obtain ⟨-, -, -, hlag⟩ := mem_stragglers.mp hcut
  rw [Pass.lag, hlead, Nat.sub_self, Nat.zero_div] at hlag
  exact Nat.not_lt_zero _ hlag

end

/-- Settles O55: the quantities by what they are the least and the greatest of; the credits by eight attempts, each of which
grants one while the conditions hold. -/
theorem examinationOfAPass : Obligations.ExaminationOfAPass := by
  refine ⟨fun x p => ⟨rfl, rfl, wantsCredit_iff, decide_eq_true_iff, wantsFill_iff, rfl, tail_forming, tail_of_none_live,
    fun h m hm hlive => tail_least h hm hlive, fun m hm hw => ?_⟩, fun x p h => ?_⟩
  · obtain ⟨k, hk, hkw, hlead, hle⟩ := lead_greatest hm hw
    exact ⟨k, hk, hkw, hle m hm hw, by rw [Pass.lag, hlead], hle⟩
  · obtain ⟨hframe, hatMost, hrises, hdead, -⟩ := grants_from (x := x) h
    have hexhausted := grants_exhausted (x := x) h
    rw [examine_eq]
    generalize p.grants x = q at *
    have hhead : q.comp.head = p.comp.head := by rw [hframe]
    have hstate : q.state = p.state := by rw [hframe]
    have hreached : q.comp.prefillReached = p.comp.prefillReached := by rw [hframe]
    have hfree : q.free x = p.free x := by rw [hframe]; rfl
    refine ⟨hatMost, hrises, hexhausted, hhead, by rw [hframe]; rfl, by rw [hframe]; rfl, hstate, ?_, ?_,
      fun hd => congrArg (·.comp.credits) (hdead hd), rfl, fun _ _ => mem_stragglers, fun _ => exists_not_straggler⟩
    · rw [← hfree]; exact isBlocked_iff
    · rw [← hreached, ← hhead, ← hstate]; exact prefillReached_reported

end Sys2Proof.Machine

namespace Sys2Proof.Machine

/-! ## The fault record of an abort (R62, R178) -/

/-- An abort with its pass marked and raised leaves the members to be taken down at their ports. -/
theorem abortPass_work {s : State} {j : JobId} {p : Pass} (hp : s.pass j = some p) (hl : p.live = true)
    (c : AbortCause) (lba : Option Nat) :
    PortWork ((s.markAborted j p.number c lba).raise (.passAborted j)) (s.abortPass j c lba) := by
  rw [abortPass_live hp hl]
  exact (abortMembers_work _ j _).raise _

/-- A fault record that is not valid takes the abort; faults handed by its members only count. -/
theorem abortPass_fault {s : State} {j : JobId} {p : Pass} (hp : s.pass j = some p) (hl : p.live = true)
    (hf : (s.job j).fault = none) (c : AbortCause) (lba : Option Nat) : ∃ n,
    ((s.abortPass j c lba).job j).fault = some ⟨c.fault, some p.number, none, lba, none, n⟩ := by
  refine (abortPass_work hp hl c lba).fault j ⟨c.fault, some p.number, none, lba, none, 0⟩ ?_
  rw [job_raise, markAborted_eq hp]
  refine (congrArg Job.fault (nth_upd_self _ _ _)).trans ?_
  simp only [Job.marked, hf, FaultRecord.take]

/-! ## Image frames as they are heard (R32, R33) -/

theorem numbered_iff {n : Nat} {code : Byte} {i : Fin n} : numbered n code = some i ↔ code.toNat = i.val := by
  refine ⟨fun h => ?_, numbered_eq⟩
  unfold numbered at h
  split at h
  · cases h; rfl
  · cases h

section
variable {s : State} {job : Byte} {pl : List Byte} {j : JobId} {p : Pass}

theorem framePass_iff : s.framePass job pl = some (j, p) ↔ job.toNat = j.val ∧ s.pass j = some p ∧ p.live = true ∧
    32 ≤ pl.length ∧ byteAt pl 0 = p.number.extractLsb' 0 8 := by
  simp only [State.framePass, Option.bind_eq_some_iff, numbered_iff, Option.ite_none_right_eq_some, Option.some.injEq,
    Prod.mk.injEq]
  constructor
  · rintro ⟨k, hk, q, hq, hnames, rfl, rfl⟩
    exact ⟨hk, hq, hnames⟩
  · rintro ⟨hj, hp, hnames⟩
    exact ⟨j, hj, p, hp, hnames, rfl, rfl⟩

theorem accepts_iff {x : Job} : p.accepts x pl = true ↔ ∃ e, p.at x e ∧ e.kind = .stream ∧
    half pl 2 = halfOf p.comp.frames ∧ 0 < p.comp.outstanding ∧ (byteAt pl 1).toNat = p.dueSize e ∧
    pl.length = 32 + 2048 * (byteAt pl 1).toNat := by
  simp only [← cursor_eq_some, Pass.accepts]
  cases p.cursor x with
  | none => simp
  | some e => simp only [Bool.and_eq_true, decide_eq_true_eq, Option.some.injEq, exists_eq_left', and_assoc]

theorem imageFrame_stray (h : s.framePass job pl = none) :
    s.imageFrame job pl = s.modLink fun l => { l with stray := satInc max32 l.stray } := by
  rw [State.imageFrame, h]

theorem imageFrame_faulty (h : s.framePass job pl = some (j, p)) (ha : p.accepts (s.job j) pl = false) :
    s.imageFrame job pl = s.abortPass j .streamFault (some p.comp.head) := by
  simp only [State.imageFrame, h, ha, Bool.false_eq_true, if_false]

/-- Out of reset, in SYNCED, an image frame reaches the composer with its count. -/
theorem exec_imageFrame (hr : s.resetHeld = false) (hs : s.link.stage = .none) (hy : s.link.receiver = .synced) :
    exec (.imageFrame job pl) s = .next (State.settle s.countGood (s.countGood.imageFrame job pl)) :=
  congrArg Host.Outcome.next (hear_synced hr hs hy)

end

/-- Settles O33: a frame that names no live pass is only counted; a named pass that does not accept its frame is aborted. -/
theorem strayAndFaultyImageFrames : Obligations.StrayAndFaultyImageFrames := by
  intro job pl s hr hs hy
  refine ⟨fun hstray => ?_, fun j p hj hp hl hlen hnum hbad => ?_⟩
  · have hnone : s.countGood.framePass job pl = none := by
      refine Option.eq_none_iff_forall_ne_some.mpr fun ⟨j, p⟩ hsome => ?_
      obtain ⟨hj, hp, hl, hlen, hnum⟩ := framePass_iff.mp hsome
      exact hstray.elim (fun hshort => by omega) fun hother => hother j p hj hp hl hnum
    rw [exec_imageFrame hr hs hy, imageFrame_stray hnone]
    rfl
  · have hsome : s.countGood.framePass job pl = some (j, p) := framePass_iff.mpr ⟨hj, hp, hl, hlen, hnum⟩
    have haccepts : p.accepts (s.job j) pl = false := by
      refine Bool.eq_false_iff.mpr fun ha => ?_
      obtain ⟨e, he, hkind, hframe, hout, hdue, hlength⟩ := accepts_iff.mp ha
      rcases hbad with hturn | hcredit | hsize | hextent
      · exact hturn hframe
      · exact absurd hcredit (Nat.ne_of_gt hout)
      · exact hsize hlength
      · rcases hextent e he with hfill | hsectors
        · rw [hkind] at hfill; cases hfill
        · exact hsectors hdue
    obtain ⟨⟨q, hq, hstate, hcause, -, -, hcomp⟩, hothers, -⟩ :=
      abortPass_spec (s := s.countGood) hp hl .streamFault (some p.comp.head)
    refine ⟨_, q, (exec_imageFrame hr hs hy).trans (by rw [imageFrame_faulty hsome haccepts]), hq, hstate, hcause,
      by rw [hcomp], by rw [hcomp], hothers, abortPass_memory _ _ _ _, fun hf => ?_⟩
    exact abortPass_fault (s := s.countGood) hp hl hf .streamFault (some p.comp.head)

end Sys2Proof.Machine

namespace Sys2Proof.Machine

/-! ## Image memory read after a write (R26, R42) -/

section
variable (m : ImageMemory) (j : JobId)

theorem sector_setSector (a b : Nat) (x : Sector) :
    (m.setSector j a x).sector j b = if b = a then x else m.sector j b := by
  simp only [ImageMemory.sector, ImageMemory.setSector, nth_upd_self, Cells.read_write, List.length_singleton]
  have hcell : a ≤ b ∧ b < a + 1 ↔ b = a := by omega
  simp only [hcell]
  split
  · next h => subst h; simp
  · rfl

theorem digest_setDigest (a b : Nat) (x : Word) :
    (m.setDigest j a x).digest j b = if b = a then x else m.digest j b := by
  simp only [ImageMemory.digest, ImageMemory.setDigest, nth_upd_self, Cells.read_write, List.length_singleton]
  have hcell : a ≤ b ∧ b < a + 1 ↔ b = a := by omega
  simp only [hcell]
  split
  · next h => subst h; simp
  · rfl

/-- Rasters and the rings and digests of the other jobs are the same. -/
def ImageMemory.SameElsewhere (m n : ImageMemory) (j : JobId) : Prop :=
  n.rasters = m.rasters ∧ ∀ k, k ≠ j → nth n.rings k = nth m.rings k ∧ nth n.digests k = nth m.digests k

variable {m j}

theorem ImageMemory.SameElsewhere.refl : m.SameElsewhere m j := ⟨rfl, fun _ _ => ⟨rfl, rfl⟩⟩

theorem ImageMemory.SameElsewhere.trans {n o : ImageMemory} (h : m.SameElsewhere n j) (g : n.SameElsewhere o j) :
    m.SameElsewhere o j :=
  ⟨g.1.trans h.1, fun k hk => ⟨(g.2 k hk).1.trans (h.2 k hk).1, (g.2 k hk).2.trans (h.2 k hk).2⟩⟩

theorem setSector_elsewhere (a : Nat) (x : Sector) : m.SameElsewhere (m.setSector j a x) j :=
  ⟨rfl, fun _ hk => ⟨nth_upd_ne _ _ hk, rfl⟩⟩

theorem setDigest_elsewhere (a : Nat) (x : Word) : m.SameElsewhere (m.setDigest j a x) j :=
  ⟨rfl, fun _ hk => ⟨rfl, nth_upd_ne _ _ hk⟩⟩

end

/-! ## The move of the cursor (R25) -/

/-- The cursor's move changes the head, the extent and the frames taken in it. -/
theorem advance_frame (m : List Extent) (c : Composition) : c.advance m = { c with
    head := c.head + 1, extent := (c.advance m).extent, framesInExtent := (c.advance m).framesInExtent } := by
  unfold Composition.advance
  dsimp only
  split
  · rfl
  · split <;> rfl

/-- At extent `i` the cursor stays short of the extent's end and leaves the extent at it. -/
theorem advance_extent {m : List Extent} {c : Composition} {i : Nat} (h : c.extent = some i) : c.advance m =
    if c.head + 1 < extentEnd m i then { c with head := c.head + 1 }
    else { c with head := c.head + 1, extent := if i + 1 < m.length then some (i + 1) else none, framesInExtent := 0 } := by
  unfold Composition.advance
  simp only [h]

/-! ## What composing a sector reads and writes (R25, R26, R41 to R43) -/

/-- The part of the state that composition into a job's ring changes. -/
structure Composer where
  comp : Composition
  digest : DigestState
  memory : ImageMemory

/-- LBA `n` is the last of its verify block (R14). -/
def Job.endsBlock (x : Job) (n : Nat) : Bool := decide ((n + 1) % 256 = 0 ∨ n + 1 = x.length)

section
variable (x : Job) (j : JobId) (k : Composer) (data : Sector)

/-- The running CRC once the sector has passed through the accumulator. -/
def Composer.absorbed : Word := crcRun (k.comp.accumulator.getD crcPreset) data

def Composer.nextComp : Composition :=
  { k.comp.advance (x.map.getD []) with
    accumulator := some (if x.endsBlock k.comp.head then crcPreset else k.absorbed data)
    blocksDone := k.comp.blocksDone + if x.endsBlock k.comp.head then 1 else 0 }

def Composer.nextDigest : DigestState :=
  if k.digest = .building ∧ x.endsBlock k.comp.head = true ∧ k.comp.head / 256 + 1 = blockCount x.length then .sealed
  else k.digest

def Composer.nextMemory : ImageMemory :=
  let m := k.memory.setSector j (k.comp.head % (16 * x.ring)) data
  if k.digest = .building ∧ x.endsBlock k.comp.head = true
  then m.setDigest j (k.comp.head / 256) (crcValue (k.absorbed data)) else m

/-- The first LBA of a block that the sector completes and that differs from its digest (R43). -/
def Composer.differs : Option Nat :=
  if k.digest = .sealed ∧ x.endsBlock k.comp.head = true ∧
    k.memory.digest j (k.comp.head / 256) ≠ crcValue (k.absorbed data) then some (256 * (k.comp.head / 256)) else none

/-- The composer after one sector. -/
def Composer.next : Composer := ⟨k.nextComp x data, k.nextDigest x, k.nextMemory x j data⟩

end

section
variable {x : Job} {j : JobId} {k : Composer} {data : Sector}

/-- A sector inside a block moves the head, the extent and the accumulator, and is stored. -/
theorem next_inside (h : x.endsBlock k.comp.head = false) : k.next x j data =
    { k with
      comp := { k.comp.advance (x.map.getD []) with accumulator := some (k.absorbed data) }
      memory := k.memory.setSector j (k.comp.head % (16 * x.ring)) data } := by
  have hdone : (k.comp.advance (x.map.getD [])).blocksDone = k.comp.blocksDone := by rw [advance_frame]
  simp only [Composer.next, Composer.nextComp, Composer.nextDigest, Composer.nextMemory, h, Bool.false_eq_true, false_and,
    and_false, if_false, Nat.add_zero, hdone]

theorem differs_inside (h : x.endsBlock k.comp.head = false) : k.differs x j data = none :=
  if_neg fun ⟨_, hends, _⟩ => by rw [h] at hends; cases hends

end

/-- The state whose job `j` has the pass `p` with the composer's values. -/
def State.withComposer (s : State) (j : JobId) (p : Pass) (k : Composer) : State :=
  { s with
    jobs := upd s.jobs j { s.job j with digest := k.digest }
    passes := upd s.passes j (some { p with comp := k.comp })
    memory := k.memory }

section
variable {s : State} {j : JobId} {p : Pass} {k : Composer}

@[simp] theorem job_withComposer : (s.withComposer j p k).job j = { s.job j with digest := k.digest } :=
  nth_upd_self _ _ _

@[simp] theorem pass_withComposer : (s.withComposer j p k).pass j = some { p with comp := k.comp } := nth_upd_self _ _ _

theorem modPass_withComposer (f : Composition → Composition) :
    ((s.withComposer j p k).modPass j fun q => { q with comp := f q.comp }) =
      s.withComposer j p { k with comp := f k.comp } := by
  rw [State.modPass, pass_withComposer]
  simp only [Option.map_some, State.setPass, State.withComposer, upd_upd]

theorem sealDigest_withComposer :
    ((s.withComposer j p k).modJob j fun x => { x with digest := .sealed }) =
      s.withComposer j p { k with digest := .sealed } := by
  simp only [State.modJob, State.job, State.withComposer, nth_upd_self, upd_upd]

/-- A completed block's digest is stored while BUILDING and compared while SEALED (R42, R43). -/
theorem blockDigest_withComposer (b : Nat) (v : Word) : (s.withComposer j p k).blockDigest j b v =
    (s.withComposer j p { k with
        digest := if k.digest = .building ∧ b + 1 = blockCount (s.job j).length then .sealed else k.digest
        memory := if k.digest = .building then k.memory.setDigest j b v else k.memory },
      if k.digest = .sealed ∧ k.memory.digest j b ≠ v then some (256 * b) else none) := by
  obtain ⟨c, d, m⟩ := k
  rw [State.blockDigest, job_withComposer]
  cases d with
  | empty => rfl
  | sealed =>
    refine Prod.ext rfl ?_
    by_cases hv : m.digest j b = v
    · exact (if_pos hv).trans (if_neg fun h => h.2 hv).symm
    · exact (if_neg hv).trans (if_pos ⟨rfl, hv⟩).symm
  | building =>
    refine Prod.ext ?_ rfl
    by_cases hb : b + 1 = blockCount (s.job j).length
    · refine (if_pos hb).trans ?_
      simp only [hb, and_self, if_true]
      exact sealDigest_withComposer (s := s) (p := p) (k := ⟨c, .building, m.setDigest j b v⟩)
    · refine (if_neg hb).trans ?_
      simp only [hb, and_false, if_false, if_true]
      rfl

/-- Composing one sector is the composer's next. -/
theorem composeSector_eq (data : Sector) : (s.withComposer j p k).composeSector j data =
    (s.withComposer j p (k.next (s.job j) j data), k.differs (s.job j) j data) := by
  have hmodified := modPass_withComposer (s := s) (j := j) (p := p)
    (k := { k with memory := k.memory.setSector j (k.comp.head % (16 * (s.job j).ring)) data })
  rw [State.composeSector, pass_withComposer, job_withComposer]
  by_cases hends : (k.comp.head + 1) % 256 = 0 ∨ k.comp.head + 1 = (s.job j).length
  · have hblock : (s.job j).endsBlock k.comp.head = true := decide_eq_true hends
    refine (if_pos hends).trans ?_
    refine (congrArg (State.blockDigest · j (k.comp.head / 256) (crcValue (k.absorbed data))) (hmodified fun c =>
      { c.advance ((s.job j).map.getD []) with accumulator := some crcPreset, blocksDone := c.blocksDone + 1 })).trans ?_
    rw [blockDigest_withComposer]
    simp only [Composer.next, Composer.nextComp, Composer.nextDigest, Composer.nextMemory, Composer.differs, hblock,
      if_true, and_true, true_and]
    rfl
  · have hblock : (s.job j).endsBlock k.comp.head = false := decide_eq_false hends
    rw [next_inside hblock, differs_inside hblock]
    exact (if_neg hends).trans (congrArg (·, none) (hmodified fun c =>
      { c.advance ((s.job j).map.getD []) with accumulator := some (k.absorbed data) }))

end

end Sys2Proof.Machine

namespace Sys2Proof.Machine

/-! ## One sector of the composer -/

section
variable {x : Job} {j : JobId} {k : Composer} {data : Sector}

theorem nextComp_frame : k.nextComp x data = { k.comp with
    head := k.comp.head + 1, extent := (k.nextComp x data).extent, framesInExtent := (k.nextComp x data).framesInExtent
    accumulator := (k.nextComp x data).accumulator, blocksDone := (k.nextComp x data).blocksDone } := by
  simp only [Composer.nextComp]
  rw [advance_frame]

/-- The last sector of a block presets the accumulator again and counts the block (R41). -/
theorem nextComp_ends (h : x.endsBlock k.comp.head = true) :
    (k.nextComp x data).accumulator = some crcPreset ∧ (k.nextComp x data).blocksDone = k.comp.blocksDone + 1 := by
  simp only [Composer.nextComp, h, if_true, and_self]

theorem nextComp_inside (h : x.endsBlock k.comp.head = false) :
    (k.nextComp x data).accumulator = some (k.absorbed data) ∧ (k.nextComp x data).blocksDone = k.comp.blocksDone := by
  simp only [Composer.nextComp, h, Bool.false_eq_true, if_false, Nat.add_zero, and_self]

theorem nextComp_extent {m : List Extent} {i : Nat} (hm : x.map = some m) (hi : k.comp.extent = some i) :
    if k.comp.head + 1 < extentEnd m i
    then (k.nextComp x data).extent = some i ∧ (k.nextComp x data).framesInExtent = k.comp.framesInExtent
    else (k.nextComp x data).extent = (if i + 1 < m.length then some (i + 1) else none) ∧
      (k.nextComp x data).framesInExtent = 0 := by
  simp only [Composer.nextComp, hm, Option.getD_some, advance_extent hi]
  split
  · exact ⟨hi, rfl⟩
  · exact ⟨rfl, rfl⟩

theorem endsBlock_iff {n : Nat} : x.endsBlock n = true ↔ (n + 1) % 256 = 0 ∨ n + 1 = x.length := decide_eq_true_iff

/-- Inside the image the last block is completed at its last sector alone (R14). -/
theorem endsBlock_last {n : Nat} (h : n < x.length) :
    x.endsBlock n = true ∧ n / 256 + 1 = blockCount x.length ↔ n + 1 = x.length := by
  rw [endsBlock_iff, blockCount]
  omega

/-- A table that is not BUILDING stays as it is; the last sector of the image seals one that is (R42). -/
theorem nextDigest_idle (h : k.digest ≠ .building) : k.nextDigest x = k.digest := if_neg fun hb => h hb.1

theorem nextDigest_building (h : k.digest = .building) (hn : k.comp.head < x.length) :
    k.nextDigest x = if k.comp.head + 1 = x.length then .sealed else .building := by
  simp only [Composer.nextDigest, h, true_and, endsBlock_last hn]

theorem nextDigest_inside (h : x.endsBlock k.comp.head = false) : k.nextDigest x = k.digest :=
  if_neg fun ⟨_, hends, _⟩ => by rw [h] at hends; cases hends

theorem nextMemory_sector (a : Nat) : (k.nextMemory x j data).sector j a =
    if a = k.comp.head % (16 * x.ring) then data else k.memory.sector j a := by
  have hset := sector_setSector k.memory j (k.comp.head % (16 * x.ring)) a data
  simp only [Composer.nextMemory]
  split
  · exact hset
  · exact hset

theorem nextMemory_elsewhere : k.memory.SameElsewhere (k.nextMemory x j data) j := by
  simp only [Composer.nextMemory]
  split
  · exact (setSector_elsewhere _ _).trans (setDigest_elsewhere _ _)
  · exact setSector_elsewhere _ _

/-- No digest is stored unless a block is completed while BUILDING (R42). -/
theorem nextMemory_digests_kept (h : ¬ (k.digest = .building ∧ x.endsBlock k.comp.head = true)) :
    (k.nextMemory x j data).digests = k.memory.digests := by
  simp only [Composer.nextMemory, h, if_false]
  rfl

theorem nextMemory_digests_stored (hd : k.digest = .building) (he : x.endsBlock k.comp.head = true) (b : Nat) :
    (k.nextMemory x j data).digest j b =
      if b = k.comp.head / 256 then crcValue (k.absorbed data) else k.memory.digest j b := by
  simp only [Composer.nextMemory, hd, he, and_self, if_true]
  exact digest_setDigest _ j _ b _

/-- A completed block that differs from its digest is told by its first LBA (R43). -/
theorem differs_unequal (hd : k.digest = .sealed) (he : x.endsBlock k.comp.head = true)
    (hv : crcValue (k.absorbed data) ≠ k.memory.digest j (k.comp.head / 256)) :
    k.differs x j data = some (256 * (k.comp.head / 256)) := if_pos ⟨hd, he, hv.symm⟩

theorem differs_none (h : k.digest ≠ .sealed ∨ x.endsBlock k.comp.head = false ∨
    crcValue (k.absorbed data) = k.memory.digest j (k.comp.head / 256)) : k.differs x j data = none := by
  refine if_neg fun ⟨hd, he, hv⟩ => ?_
  rcases h with h | h | h
  · exact h hd
  · rw [h] at he; cases he
  · exact hv h.symm

end

/-! ## What follows the composition: a mismatch aborts the pass (R43, R63) -/

/-- A composition's state, or its abort at the first LBA of the block that differs. -/
def State.afterCompose (j : JobId) (r : State × Option Nat) : State :=
  match r with
  | (s, none) => s
  | (s, some lba) => s.abortPass j .sourceMismatch (some lba)

/-- What a composition that left the composer `k` leaves of the state `s`, whose job `j` had the pass `p`. -/
structure Composed (s : State) (j : JobId) (p : Pass) (k : Composer) (differs : Option Nat) (u : State) (q : Pass) :
    Prop where
  pass : u.pass j = some q
  number : q.number = p.number
  comp : q.comp = { k.comp with accumulator := q.comp.accumulator, blocked := q.comp.blocked }
  others : ∀ i, i ≠ j → u.pass i = s.pass i
  memory : u.memory = k.memory
  tables : (u.job j).tables = (s.job j).tables
  equal : differs = none → q = { p with comp := k.comp } ∧ u = s.withComposer j p k
  unequal : ∀ lba, differs = some lba → q.state = .aborted ∧ q.cause = some .sourceMismatch ∧
    q.comp.accumulator = none ∧ q.comp.blocked = false ∧ ((s.job j).fault = none → ∃ f,
      (u.job j).fault = some ⟨.sourceMismatch, some p.number, none, some lba, none, f⟩)

section
variable {s : State} {j : JobId} {p : Pass}

theorem pass_withComposer_ne (k : Composer) {i : JobId} (h : i ≠ j) : (s.withComposer j p k).pass i = s.pass i :=
  nth_upd_ne _ _ h

theorem afterCompose_composed (hl : p.live = true) (k : Composer) (differs : Option Nat) :
    ∃ q, Composed s j p k differs (State.afterCompose j (s.withComposer j p k, differs)) q := by
  have hpass := pass_withComposer (s := s) (j := j) (p := p) (k := k)
  cases differs with
  | none =>
    exact ⟨_, hpass, rfl, rfl, fun i hi => pass_withComposer_ne k hi, rfl,
      by rw [State.afterCompose, job_withComposer]; rfl, fun _ => ⟨rfl, rfl⟩, fun _ h => by cases h⟩
  | some lba =>
    obtain ⟨⟨q, hq, hstate, hcause, hnumber, -, hcomp⟩, hothers, -⟩ :=
      abortPass_spec hpass (p := { p with comp := k.comp }) hl .sourceMismatch (some lba)
    refine ⟨q, hq, hnumber, by rw [hcomp], fun i hi => (hothers i hi).trans (pass_withComposer_ne k hi),
      abortPass_memory _ _ _ _, ?_, (nomatch ·), fun l hdiff => ?_⟩
    · have hfixed := abortPass_fixed (s.withComposer j p k) j .sourceMismatch (some lba)
      have htables := congrFun (congrArg Fixed.tables hfixed) j
      exact htables.trans (by simp only [State.fixed, job_withComposer]; rfl)
    · cases hdiff
      refine ⟨hstate, hcause, by rw [hcomp], by rw [hcomp], fun hf => ?_⟩
      exact abortPass_fault hpass (p := { p with comp := k.comp }) hl (by rw [job_withComposer]; exact hf) .sourceMismatch _

/-- The composer as the state has it. -/
def State.composer (s : State) (j : JobId) (c : Composition) : Composer := ⟨c, (s.job j).digest, s.memory⟩

theorem withComposer_self (hp : s.pass j = some p) : s.withComposer j p (s.composer j p.comp) = s := by
  have hjobs : upd s.jobs j { s.job j with digest := (s.job j).digest } = s.jobs := upd_self _ _
  have hpasses : upd s.passes j (some { p with comp := p.comp }) = s.passes := by
    refine (congrArg (upd s.passes j) ?_).trans (upd_self _ _)
    exact hp.symm
  simp only [State.withComposer, State.composer, hjobs, hpasses]

/-! ## FILL_SECTOR (R35) -/

theorem fillOne_composes {e : Extent} (hp : s.pass j = some p) (hc : p.cursor (s.job j) = some e)
    (h : p.canFill (s.job j) = true) :
    s.fillOne j = State.afterCompose j (s.composeSector j (List.replicate Config.sectorBytes e.fill)) := by
  rw [State.fillOne, hp]
  simp only [h, if_true, hc, Option.map_some, Option.getD_some]
  rfl

/-- The composer examines a fill sector that can be composed, then what it composed. -/
theorem exec_fillSector {e : Extent} (hr : s.resetHeld = false) (hp : s.pass j = some p)
    (hc : p.cursor (s.job j) = some e) (h : p.canFill (s.job j) = true) : exec (.fillSector j) s =
      .next (State.settle s (State.afterCompose j (s.composeSector j (List.replicate Config.sectorBytes e.fill)))) := by
  have hguard : ((s.pass j).any fun p => p.canFill (s.job j)) = true := by rw [hp]; exact h
  have hrun := eventIf_run hr hguard fun s => s.fillOne j
  rw [fillOne_composes hp hc h] at hrun
  exact congrArg Host.Outcome.next hrun

end

/-- Settles O34: the sector is the composer's next, and what a mismatch does is the abort's. -/
theorem fillSectorIsComposed : Obligations.FillSectorIsComposed := by
  intro s j p e acc hr hp hl he hkind hfree _ hacc hwanted x head data ends value
  have hcursor : p.cursor x = some e := cursor_eq_some.mpr he
  have hcan : p.canFill x = true := by
    rw [Pass.canFill, wantsFill_iff.mpr ⟨Pass.live_iff.mp hl, ⟨e, he, hkind⟩, hwanted⟩, decide_eq_true hfree]; rfl
  let k := s.composer j p.comp
  have habsorbed : k.absorbed data = crcRun acc data := by
    rw [Composer.absorbed]; simp only [k, State.composer, hacc, Option.getD_some]
  have hends : x.endsBlock k.comp.head = true ↔ ends := endsBlock_iff
  have hinside : x.endsBlock k.comp.head = false ↔ ¬ ends := by rw [← hends, Bool.not_eq_true]
  have hcompose : s.composeSector j data = (s.withComposer j p (k.next x j data), k.differs x j data) := by
    have h := composeSector_eq (s := s) (j := j) (p := p) (k := k) data
    rwa [withComposer_self hp] at h
  obtain ⟨q, hu⟩ := afterCompose_composed (s := s) (j := j) hl (k.next x j data) (k.differs x j data)
  have hmemory : (State.afterCompose j (s.withComposer j p (k.next x j data), k.differs x j data)).memory =
    k.nextMemory x j data := hu.memory
  have hexec := (exec_fillSector hr hp hcursor hcan).trans
    (congrArg (fun r => Host.Outcome.next (State.settle s (State.afterCompose j r))) hcompose)
  have hcomp := hu.comp.trans (congrArg (fun c : Composition =>
    { c with accumulator := q.comp.accumulator, blocked := q.comp.blocked }) nextComp_frame)
  refine ⟨_, q, hexec, hu.pass, hu.number, congrArg (·.head) hcomp, congrArg (·.frames) hcomp,
    congrArg (·.credits) hcomp, congrArg (·.prefillReached) hcomp, hu.others, ?_, fun a ha => ?_, ?_, ?_, hu.tables,
    fun hkept => ?_, fun m i hm hi => ?_, fun hequal => ?_, fun hb hend => ⟨?_, fun b hb' => ?_⟩, fun hd hend hv => ?_⟩
  · rw [hmemory, nextMemory_sector]; exact if_pos rfl
  · rw [hmemory, nextMemory_sector]; exact if_neg ha
  · rw [hmemory]; exact nextMemory_elsewhere.2
  · rw [hmemory]; exact nextMemory_elsewhere.1
  · rw [hmemory]; exact nextMemory_digests_kept (by rwa [hends])
  · rw [congrArg Composition.extent hu.comp, congrArg Composition.framesInExtent hu.comp]
    exact nextComp_extent (k := k) (data := data) hm hi
  · have hnone : k.differs x j data = none := by
      refine differs_none ?_
      rwa [hinside, habsorbed]
    obtain ⟨hq, hstate⟩ := hu.equal hnone
    have hdigest : ((s.withComposer j p (k.next x j data)).job j).digest = k.nextDigest x :=
      congrArg Job.digest job_withComposer
    rw [hstate, hdigest, hq]
    refine ⟨rfl, congrArg (·.blocked) (nextComp_frame (x := x) (k := k) (data := data)),
      fun hend => nextComp_ends (hends.mpr hend), fun hend => ?_, rfl, fun hkept => ?_,
      fun hb hn => nextDigest_building hb hn, rfl⟩
    · rw [← habsorbed]
      exact nextComp_inside (hinside.mpr hend)
    · by_cases hb : x.digest = .building
      · exact nextDigest_inside (hinside.mpr fun hend => hkept ⟨hb, hend⟩)
      · exact nextDigest_idle hb
  · rw [hmemory, nextMemory_digests_stored hb (hends.mpr hend), habsorbed]; exact if_pos rfl
  · rw [hmemory, nextMemory_digests_stored hb (hends.mpr hend)]; exact if_neg hb'
  · exact hu.unequal _ (differs_unequal hd (hends.mpr hend) (by rwa [habsorbed]))

end Sys2Proof.Machine

namespace Sys2Proof.Machine

/-! ## The sectors of a frame, one after another (R26, R41 to R43) -/

section
variable (x : Job) (j : JobId) (f : Nat → Sector) (k : Composer)

/-- The composer after the first `n` of the sectors `f`. -/
def Composer.run : Nat → Composer
  | 0 => k
  | n + 1 => (Composer.run n).next x j (f n)

/-- Sector `i` of the run is the last of its verify block. -/
def Composer.endsAt (i : Nat) : Bool := x.endsBlock (k.comp.head + i)

/-- The accumulator before sector `n` of the run. -/
def Composer.before (n : Nat) : Word :=
  (List.range n).foldl (fun r i => if k.endsAt x i then crcPreset else crcRun r (f i))
    (k.comp.accumulator.getD crcPreset)

/-- The CRC of the block that sector `i` of the run completes. -/
def Composer.valueAt (i : Nat) : Word := crcValue (crcRun (k.before x f i) (f i))

end

section
variable {x : Job} {j : JobId} {f : Nat → Sector} {k : Composer}

/-- Composing sectors one after another is the composer's run; the first block that differs is kept. -/
theorem composeSectors_run (s : State) (p : Pass) (n : Nat) :
    (s.withComposer j p k).composeSectors j ((List.range n).map f) = (s.withComposer j p (k.run (s.job j) j f n),
      (List.range n).findSome? fun i => (k.run (s.job j) j f i).differs (s.job j) j (f i)) := by
  rw [composeSectors_eq]
  induction n with
  | zero => rfl
  | succ n ih =>
    rw [List.range_succ, List.map_append, List.foldl_append, ih, List.findSome?_append]
    simp only [List.map_cons, List.map_nil, List.foldl_cons, List.foldl_nil, composeNext, composeSector_eq,
      List.findSome?_singleton]
    refine Prod.ext rfl ?_
    cases (List.range n).findSome? fun i => (k.run (s.job j) j f i).differs (s.job j) j (f i) <;> rfl

/-! ## What a run leaves of the composition -/

theorem run_frame (n : Nat) : (k.run x j f n).comp = { k.comp with
    head := k.comp.head + n, extent := (k.run x j f n).comp.extent
    framesInExtent := (k.run x j f n).comp.framesInExtent
    accumulator := (k.run x j f n).comp.accumulator, blocksDone := (k.run x j f n).comp.blocksDone } := by
  induction n with
  | zero => rfl
  | succ n ih =>
    refine (nextComp_frame (x := x)).trans ?_
    rw [ih]
    rfl

theorem run_head (n : Nat) : (k.run x j f n).comp.head = k.comp.head + n := congrArg (·.head) (run_frame n)

theorem run_ends (n : Nat) : x.endsBlock (k.run x j f n).comp.head = k.endsAt x n := by rw [run_head]; rfl

theorem before_succ (n : Nat) :
    k.before x f (n + 1) = if k.endsAt x n then crcPreset else crcRun (k.before x f n) (f n) := by
  simp only [Composer.before, List.range_succ, List.foldl_append, List.foldl_cons, List.foldl_nil]

/-- The accumulator as the run has it before sector `n`. -/
theorem run_accumulator_getD (n : Nat) : (k.run x j f n).comp.accumulator.getD crcPreset = k.before x f n := by
  induction n with
  | zero => rfl
  | succ n ih =>
    have hlast : (k.run x j f (n + 1)).comp.accumulator = some
        (if x.endsBlock (k.run x j f n).comp.head then crcPreset else (k.run x j f n).absorbed (f n)) := rfl
    rw [hlast, Option.getD_some, run_ends, Composer.absorbed, ih, before_succ]

theorem run_accumulator {n : Nat} (h : 0 < n) : (k.run x j f n).comp.accumulator = some (k.before x f n) := by
  obtain ⟨n, rfl⟩ := Nat.exists_eq_succ_of_ne_zero h.ne'
  exact congrArg some (run_accumulator_getD (j := j) (n + 1))

theorem run_absorbed (n : Nat) : crcValue ((k.run x j f n).absorbed (f n)) = k.valueAt x f n := by
  rw [Composer.absorbed, run_accumulator_getD]; rfl

theorem run_blocksDone (n : Nat) : (k.run x j f n).comp.blocksDone =
    k.comp.blocksDone + ((List.range n).filter (k.endsAt x)).length := by
  induction n with
  | zero => rfl
  | succ n ih =>
    have hlast : (k.run x j f (n + 1)).comp.blocksDone = (k.run x j f n).comp.blocksDone +
        if x.endsBlock (k.run x j f n).comp.head then 1 else 0 := rfl
    rw [hlast, run_ends, ih, List.range_succ, List.filter_append, List.length_append, List.filter_singleton, Nat.add_assoc]
    cases k.endsAt x n <;> rfl

/-- Short of its extent's end the run leaves the cursor where it is. -/
theorem run_extent_inside {m : List Extent} {i : Nat} (hm : x.map = some m) (hi : k.comp.extent = some i) {n : Nat}
    (h : k.comp.head + n < extentEnd m i) : (k.run x j f n).comp.extent = some i ∧
      (k.run x j f n).comp.framesInExtent = k.comp.framesInExtent := by
  induction n with
  | zero => exact ⟨hi, rfl⟩
  | succ n ih =>
    obtain ⟨hextent, hframes⟩ := ih (by omega)
    have hnext := nextComp_extent (data := f n) hm hextent
    rw [run_head, Nat.add_assoc, if_pos h, hframes] at hnext
    exact hnext

/-- A run that does not pass its extent's end moves the cursor on at the end. -/
theorem run_extent {m : List Extent} {i : Nat} (hm : x.map = some m) (hi : k.comp.extent = some i) {n : Nat}
    (h0 : 0 < n) (h : k.comp.head + n ≤ extentEnd m i) : if k.comp.head + n < extentEnd m i
      then (k.run x j f n).comp.extent = some i ∧ (k.run x j f n).comp.framesInExtent = k.comp.framesInExtent
      else (k.run x j f n).comp.extent = (if i + 1 < m.length then some (i + 1) else none) ∧
        (k.run x j f n).comp.framesInExtent = 0 := by
  obtain ⟨n, rfl⟩ := Nat.exists_eq_succ_of_ne_zero h0.ne'
  obtain ⟨hextent, hframes⟩ := run_extent_inside (f := f) (j := j) hm hi (Nat.lt_of_succ_le h)
  have hnext := nextComp_extent (data := f n) hm hextent
  rw [run_head, hframes] at hnext
  exact hnext

/-! ## What a run leaves of the digest table -/

theorem run_digest_idle (h : k.digest ≠ .building) (n : Nat) : (k.run x j f n).digest = k.digest := by
  induction n with
  | zero => rfl
  | succ n ih => exact (nextDigest_idle (by rwa [ih])).trans ih

/-- A table stays as it is until the last sector of the image. -/
theorem run_digest_inside {n : Nat} (h : k.comp.head + n < x.length) : (k.run x j f n).digest = k.digest := by
  by_cases hb : k.digest = .building
  · induction n with
    | zero => rfl
    | succ n ih =>
      have hbuilding := (ih (by omega)).trans hb
      refine (nextDigest_building hbuilding (by rw [run_head]; omega)).trans ?_
      rw [run_head, if_neg (by omega), hb]
  · exact run_digest_idle hb n

theorem run_digest {n : Nat} (h : k.comp.head + n ≤ x.length) : (k.run x j f n).digest =
    if k.digest = .building ∧ 0 < n ∧ k.comp.head + n = x.length then .sealed else k.digest := by
  by_cases hb : k.digest = .building
  · cases n with
    | zero => simp only [lt_irrefl, false_and, and_false, if_false]; rfl
    | succ n =>
      have hbuilding := (run_digest_inside (j := j) (f := f) (Nat.lt_of_succ_le h)).trans hb
      refine (nextDigest_building hbuilding (by rw [run_head]; omega)).trans ?_
      simp only [run_head, hb, Nat.zero_lt_succ, true_and]
      rfl
  · rw [run_digest_idle hb, if_neg fun hc => hb hc.1]

/-! ## What a run leaves of image memory -/

theorem run_elsewhere (n : Nat) : k.memory.SameElsewhere (k.run x j f n).memory j := by
  induction n with
  | zero => exact .refl
  | succ n ih => exact ih.trans nextMemory_elsewhere

theorem run_digests_kept (h : k.digest ≠ .building) (n : Nat) : (k.run x j f n).memory.digests = k.memory.digests := by
  induction n with
  | zero => rfl
  | succ n ih => exact (nextMemory_digests_kept fun hb => h ((run_digest_idle h n).symm.trans hb.1)).trans ih

/-- Sectors of one turn of the ring lie in different slots. -/
theorem slot_inj {head ring i n : Nat} (hn : n < ring) (hi : i < n) : (head + i) % ring ≠ (head + n) % ring := fun h =>
  have hmod : i ≡ n [MOD ring] := Nat.ModEq.add_left_cancel' head h
  absurd (hmod.eq_of_lt_of_lt (by omega) hn) (Nat.ne_of_lt hi)

theorem run_sector_written {n : Nat} (hn : n ≤ 16 * x.ring) {i : Nat} (hi : i < n) :
    (k.run x j f n).memory.sector j ((k.comp.head + i) % (16 * x.ring)) = f i := by
  induction n with
  | zero => cases hi
  | succ n ih =>
    refine (nextMemory_sector _).trans ?_
    rw [run_head]
    rcases Nat.lt_succ_iff_lt_or_eq.mp hi with hlt | rfl
    · rw [if_neg (slot_inj hn hlt), ih (by omega) hlt]
    · exact if_pos rfl

theorem run_sector_kept {n a : Nat} (h : ∀ i, i < n → a ≠ (k.comp.head + i) % (16 * x.ring)) :
    (k.run x j f n).memory.sector j a = k.memory.sector j a := by
  induction n with
  | zero => rfl
  | succ n ih =>
    refine (nextMemory_sector _).trans ?_
    rw [run_head, if_neg (h n (Nat.lt_succ_self n)), ih fun i hi => h i (by omega)]

/-- Inside the image a completed block is no earlier one (R14). -/
theorem block_inj {n i : Nat} (hn : k.comp.head + n < x.length) (hi : i < n) (he : k.endsAt x i = true) :
    (k.comp.head + i) / 256 ≠ (k.comp.head + n) / 256 := by
  rcases endsBlock_iff.mp he with h | h <;> omega

theorem run_digest_next {n b : Nat} (hb : k.digest = .building) (hn : k.comp.head + n < x.length) :
    (k.run x j f (n + 1)).memory.digest j b = if k.endsAt x n = true ∧ b = (k.comp.head + n) / 256 then k.valueAt x f n
      else (k.run x j f n).memory.digest j b := by
  have hbuilding := (run_digest_inside (j := j) (f := f) hn).trans hb
  by_cases he : k.endsAt x n = true
  · refine (nextMemory_digests_stored hbuilding ((run_ends n).trans he) b).trans ?_
    simp only [run_head, run_absorbed, he, true_and]
  · have hkept := nextMemory_digests_kept (x := x) (j := j) (k := k.run x j f n) (data := f n) fun hc =>
      he ((run_ends n).symm.trans hc.2)
    rw [if_neg fun hc => he hc.1]
    exact congrArg (fun v => (nth v j).read Config.dramDigest b) hkept

theorem run_digest_stored {n : Nat} (hb : k.digest = .building) (hn : k.comp.head + n ≤ x.length) {i : Nat} (hi : i < n)
    (he : k.endsAt x i = true) : (k.run x j f n).memory.digest j ((k.comp.head + i) / 256) = k.valueAt x f i := by
  induction n with
  | zero => cases hi
  | succ n ih =>
    rw [run_digest_next hb (by omega)]
    rcases Nat.lt_succ_iff_lt_or_eq.mp hi with hlt | rfl
    · rw [if_neg fun hc => block_inj (by omega) hlt he hc.2, ih (by omega) hlt]
    · exact if_pos ⟨he, rfl⟩

theorem run_digest_kept {n : Nat} (hb : k.digest = .building) (hn : k.comp.head + n ≤ x.length) {b : Nat}
    (h : ∀ i, i < n → k.endsAt x i = true → b ≠ (k.comp.head + i) / 256) :
    (k.run x j f n).memory.digest j b = k.memory.digest j b := by
  induction n with
  | zero => rfl
  | succ n ih =>
    rw [run_digest_next hb (by omega), if_neg fun hc => h n (Nat.lt_succ_self n) hc.1 hc.2,
      ih (by omega) fun i hi => h i (by omega)]

/-! ## The first block of a run that differs (R43) -/

theorem run_digest_read (h : k.digest ≠ .building) (n b : Nat) :
    (k.run x j f n).memory.digest j b = k.memory.digest j b :=
  congrArg (fun v => (nth v j).read Config.dramDigest b) (run_digests_kept h n)

theorem run_differs_equal {i : Nat} (h : k.comp.head + i < x.length) (hv : k.digest ≠ .sealed ∨
    (k.endsAt x i = true → k.valueAt x f i = k.memory.digest j ((k.comp.head + i) / 256))) :
    (k.run x j f i).differs x j (f i) = none := by
  refine differs_none ?_
  rw [run_digest_inside h, run_ends, run_absorbed, run_head]
  by_cases hd : k.digest = .sealed
  · rw [run_digest_read (by rw [hd]; decide)]
    cases he : k.endsAt x i with
    | false => exact .inr (.inl rfl)
    | true => exact .inr (.inr (hv.resolve_left (not_not_intro hd) he))
  · exact .inl hd

theorem run_differs_none {n : Nat} (h : k.comp.head + n ≤ x.length) (hv : k.digest ≠ .sealed ∨
    ∀ i, i < n → k.endsAt x i = true → k.valueAt x f i = k.memory.digest j ((k.comp.head + i) / 256)) :
    ((List.range n).findSome? fun i => (k.run x j f i).differs x j (f i)) = none := by
  refine List.findSome?_eq_none_iff.mpr fun i hi => ?_
  have hin := List.mem_range.mp hi
  exact run_differs_equal (by omega) (hv.imp_right (· i hin))

theorem run_differs_first {n i : Nat} (h : k.comp.head + n ≤ x.length) (hd : k.digest = .sealed) (hi : i < n)
    (he : k.endsAt x i = true) (hv : k.valueAt x f i ≠ k.memory.digest j ((k.comp.head + i) / 256))
    (hfirst : ∀ l, l < i → k.endsAt x l = true → k.valueAt x f l = k.memory.digest j ((k.comp.head + l) / 256)) :
    ((List.range n).findSome? fun i => (k.run x j f i).differs x j (f i)) = some (256 * ((k.comp.head + i) / 256)) := by
  have hidle : k.digest ≠ .building := by rw [hd]; decide
  have hthis : (k.run x j f i).differs x j (f i) = some (256 * ((k.comp.head + i) / 256)) := by
    rw [← run_head (x := x) (j := j) (f := f)] at hv ⊢
    exact differs_unequal ((run_digest_idle hidle i).trans hd) ((run_ends i).trans he)
      (by rwa [run_absorbed, run_digest_read hidle])
  obtain ⟨l, rfl⟩ := Nat.exists_eq_add_of_lt hi
  rw [Nat.add_assoc, List.range_add, List.findSome?_append, run_differs_none (by omega) (.inr hfirst)]
  rw [List.range_succ_eq_map]
  simp only [List.map_cons, Nat.add_zero, List.findSome?_cons, hthis, Option.none_or]

end

end Sys2Proof.Machine

namespace Sys2Proof.Machine

/-! ## An image frame that is taken (R32, R33) -/

/-- The composition once a frame is taken: it counts as a frame, and as one of the cursor's extent. -/
def Composition.takeFrame (c : Composition) : Composition :=
  { c with frames := c.frames + 1, framesInExtent := c.framesInExtent + 1 }

section
variable {s : State} {job : Byte} {pl : List Byte} {j : JobId} {p : Pass}

theorem imageFrame_taken (h : s.framePass job pl = some (j, p)) (ha : p.accepts (s.job j) pl = true) :
    s.imageFrame job pl = State.afterCompose j
      ((s.modPass j fun p => { p with comp := p.comp.takeFrame }).composeSectors j (frameSectors pl)) := by
  simp only [State.imageFrame, h, ha, if_true]
  rfl

theorem takeFrame_withComposer (hp : s.pass j = some p) :
    (s.modPass j fun p => { p with comp := p.comp.takeFrame }) =
      s.withComposer j p (s.composer j p.comp.takeFrame) := by
  have h := modPass_withComposer (s := s) (j := j) (p := p) (k := s.composer j p.comp) Composition.takeFrame
  rwa [withComposer_self hp] at h

/-- Sector `i` of a frame (11.2). -/
def frameSector (pl : List Byte) (i : Nat) : Sector := (pl.drop (32 + 2048 * i)).take 2048

/-- The composition of a taken frame is the run of its sectors. -/
theorem imageFrame_run (hp : s.pass j = some p) (h : s.framePass job pl = some (j, p))
    (ha : p.accepts (s.job j) pl = true) {n : Nat} (hn : (byteAt pl 1).toNat = n) :
    s.imageFrame job pl = State.afterCompose j
      (s.withComposer j p ((s.composer j p.comp.takeFrame).run (s.job j) j (frameSector pl) n),
        (List.range n).findSome? fun i =>
          ((s.composer j p.comp.takeFrame).run (s.job j) j (frameSector pl) i).differs (s.job j) j (frameSector pl i)) := by
  have hsectors : frameSectors pl = (List.range n).map (frameSector pl) := by rw [← hn]; rfl
  rw [imageFrame_taken h ha, takeFrame_withComposer hp, hsectors, composeSectors_run]

/-- The first LBA of the first block that a frame's sectors complete and that differs from its digest (R43). -/
def Composer.firstDiffers (x : Job) (j : JobId) (f : Nat → Sector) (k : Composer) (n : Nat) : Option Nat :=
  (List.range n).findSome? fun i => (k.run x j f i).differs x j (f i)

theorem exec_imageFrame_taken (hr : s.resetHeld = false) (hs : s.link.stage = .none) (hy : s.link.receiver = .synced)
    (hp : s.pass j = some p) (hl : p.live = true) (h : s.countGood.framePass job pl = some (j, p))
    (ha : p.accepts (s.job j) pl = true) {n : Nat} (hn : (byteAt pl 1).toNat = n) :
    ∃ u q, exec (.imageFrame job pl) s = .next (State.settle s.countGood u) ∧
      Composed s.countGood j p ((s.composer j p.comp.takeFrame).run (s.job j) j (frameSector pl) n)
        ((s.composer j p.comp.takeFrame).firstDiffers (s.job j) j (frameSector pl) n) u q := by
  obtain ⟨q, hu⟩ := afterCompose_composed (s := s.countGood) (j := j) hl
    ((s.composer j p.comp.takeFrame).run (s.job j) j (frameSector pl) n)
    ((s.composer j p.comp.takeFrame).firstDiffers (s.job j) j (frameSector pl) n)
  refine ⟨_, q, (exec_imageFrame hr hs hy).trans ?_, hu⟩
  rw [imageFrame_run (s := s.countGood) hp h ha hn]
  rfl

end

/-- An extent ends its own length after the extents before it (R14). -/
theorem extentEnd_eq {m : List Extent} {i : Nat} {e : Extent} (h : m[i]? = some e) :
    extentEnd m i = ((m.take i).map Extent.length).sum + e.length := by
  rw [extentEnd, mapLength, List.take_add_one, h, List.map_append, List.sum_append]
  rfl

/-- Settles O32: the frame's sectors are the composer's run, and what a mismatch does is the abort's. -/
theorem imageFrameIsComposed : Obligations.ImageFrameIsComposed := by
  intro job pl s j p e n hr hs hy hj hp hl hnum hn he hkind hframe hout hdue hlen hring hinside x head sector ends before
    value block
  have hsome : s.countGood.framePass job pl = some (j, p) := framePass_iff.mpr ⟨hj, hp, hl, by omega, hnum⟩
  have haccepts : p.accepts x pl = true :=
    accepts_iff.mpr ⟨e, he, hkind, hframe, hout, hn.trans hdue, by rw [hn]; exact hlen⟩
  let k := s.composer j p.comp.takeFrame
  have hn16 : n ≤ 16 * x.ring := by
    have : n ≤ 16 := hdue ▸ Nat.min_le_left _ _
    have : 64 ≤ x.ring := hring
    omega
  obtain ⟨u, q, hexec, hu⟩ := exec_imageFrame_taken hr hs hy hp hl hsome haccepts hn
  have hframeOf := run_frame (x := x) (j := j) (f := sector) (k := k) n
  have hcomp := hu.comp.trans (congrArg (fun c : Composition =>
    { c with accumulator := q.comp.accumulator, blocked := q.comp.blocked }) hframeOf)
  refine ⟨u, q, hexec, hu.pass, hu.number, congrArg (·.head) hcomp, congrArg (·.frames) hcomp,
    congrArg (·.credits) hcomp, congrArg (·.prefillReached) hcomp, hu.others, fun i hi => ?_, fun a ha => ?_, ?_, ?_,
    hu.tables, fun hkept => ?_, fun m i hm hi hmi h0 hhead => ?_, fun hequal => ?_,
    fun hb => ⟨fun i hi hend => ?_, fun b hb' => ?_⟩, fun hd i hi hend hv hfirst => ?_⟩
  · rw [hu.memory]; exact run_sector_written (k := k) hn16 hi
  · rw [hu.memory]; exact run_sector_kept (k := k) ha
  · rw [hu.memory]; exact (run_elsewhere (k := k) n).2
  · rw [hu.memory]; exact (run_elsewhere (k := k) n).1
  · rw [hu.memory]; exact run_digests_kept (k := k) hkept n
  · have hend : k.comp.head + n ≤ extentEnd m i := by
      have hsize : n ≤ e.length - 16 * p.comp.framesInExtent := hdue ▸ Nat.min_le_right _ _
      have hstart : k.comp.head = ((m.take i).map Extent.length).sum + 16 * p.comp.framesInExtent := hhead
      rw [extentEnd_eq hmi]
      omega
    rw [congrArg Composition.extent hu.comp, congrArg Composition.framesInExtent hu.comp]
    exact run_extent (k := k) hm hi h0 hend
  · obtain ⟨hq, hstate⟩ := hu.equal (run_differs_none (k := k) hinside hequal)
    have hdigest := run_digest (k := k) (j := j) (f := sector) hinside
    subst hq hstate
    refine ⟨rfl, congrArg (·.blocked) hframeOf, run_blocksDone n, fun h0 => run_accumulator h0, ?_, rfl⟩
    exact congrArg (fun d => upd s.jobs j { x with digest := d }) hdigest
  · rw [hu.memory]; exact run_digest_stored (k := k) hb hinside hi hend
  · rw [hu.memory]; exact run_digest_kept (k := k) hb hinside hb'
  · exact hu.unequal _ (run_differs_first (k := k) hinside hd hi hend hv hfirst)

end Sys2Proof.Machine

namespace Sys2Proof.Machine

/-! ## The ports a pass admits (R49, R50) -/

/-- The entry with which a port joins a wave. -/
def Member.fresh (p : PortId) (d : Disc) : Member := ⟨p, d.tag, 0, none, .armed⟩

/-- The entry of a port that a job's new pass admits: LOADED, assigned to the job, its tray with a record. -/
def State.admitted (s : State) (j : JobId) (p : PortId) : Option Member :=
  if s.assigned p = some j ∧ (s.port p).state = .loaded then (s.disc (.tray p)).map (Member.fresh p) else none

/-- The treatment of one port at a pass's start. -/
def State.admitAt (j : JobId) (s : State) (p : PortId) : State :=
  if s.assigned p = some j ∧ (s.port p).state = .loaded then s.joinWave j p else s

theorem admitLoaded_eq (s : State) (j : JobId) : s.admitLoaded j = (numbers 16).foldl (State.admitAt j) s := rfl

/-- A port with its disc once it has joined the wave of pass `n`. -/
def Bay.joined (b : Bay) (n : Half) : Bay :=
  { b with port := { b.port with state := .armed }, disc := b.disc.map fun d => { d with pass := some n } }

/-- A port joins the wave of its job, whose pass is then `y`. -/
def State.joinAs (s : State) (j : JobId) (p : PortId) (y : Pass) : State :=
  ((s.setPass j (some y)).modDisc (.tray p) fun d => { d with pass := some y.number }).gotoPort p .armed

section
variable {s : State} {j : JobId} {p : PortId}

theorem goto_loaded {q : Port} (h : q.state = .loaded) (now : Nat) (st : PortState) :
    q.goto now st = { q with state := st } := by
  rw [Port.goto, h]; rfl

theorem bay_gotoPort_self (st : PortState) :
    (s.gotoPort p st).bay p = { s.bay p with port := (s.bay p).port.goto s.now st } := bay_modPort_self s p _

theorem joinAs_bay_self (y : Pass) (h : (s.port p).state = .loaded) :
    (s.joinAs j p y).bay p = (s.bay p).joined y.number := by
  rw [State.joinAs, bay_gotoPort_self, bay_modDisc_self, bay_setPass, bay_port]
  dsimp only
  rw [goto_loaded h]
  rfl

theorem joinAs_bay_ne (y : Pass) {q : PortId} (h : q ≠ p) : (s.joinAs j p y).bay q = s.bay q := by
  rw [State.joinAs, State.gotoPort, bay_modPort_ne _ h, bay_modDisc_ne _ h, bay_setPass]

theorem joinAs_elsewhere (y : Pass) {q : Place} (h : q ≠ .tray p) : (s.joinAs j p y).disc q = s.disc q :=
  (disc_modDisc (s.setPass j (some y)) (.tray p) q _).trans (if_neg h)

theorem admitted_iff {m : Member} : s.admitted j p = some m ↔ s.assigned p = some j ∧ (s.port p).state = .loaded ∧
    ∃ d, s.disc (.tray p) = some d ∧ Member.fresh p d = m := by
  simp only [State.admitted, Option.ite_none_right_eq_some, Option.map_eq_some_iff, and_assoc]

theorem admitted_port {m : Member} (h : s.admitted j p = some m) : m.port = p := by
  obtain ⟨-, -, d, -, rfl⟩ := admitted_iff.mp h
  rfl

theorem admitAt_none (h : s.admitted j p = none) : s.admitAt j p = s := by
  unfold State.admitAt
  split
  · next hc =>
    rw [State.admitted, if_pos hc, Option.map_eq_none_iff] at h
    rw [State.joinWave, h]
  · rfl

theorem admitAt_some {m : Member} {x : Pass} (h : s.admitted j p = some m) (hp : s.pass j = some x)
    (hm : x.member p = none) : s.admitAt j p = s.joinAs j p { x with wave := insertMember m x.wave } := by
  obtain ⟨ha, hl, d, hd, rfl⟩ := admitted_iff.mp h
  rw [State.admitAt, if_pos ⟨ha, hl⟩, State.joinWave, hd, hp]
  simp only [hm, Option.isSome_none, Bool.false_eq_true, if_false]
  rfl

/-- After entries of lower ports a new entry comes last. -/
theorem insertMember_last {m : Member} {w : List Member} (hw : ∀ q ∈ w, q.port < m.port) (hlen : w.length < maxCount) :
    insertMember m w = w ++ [m] := by
  have hbefore : w.filter (fun q => decide (q.port ≤ m.port)) = w :=
    List.filter_eq_self.mpr fun q hq => decide_eq_true (le_of_lt (hw q hq))
  have hafter : w.filter (fun q => decide (m.port < q.port)) = [] :=
    List.filter_eq_nil_iff.mpr fun q hq => by simpa using le_of_lt (hw q hq)
  rw [insertMember, makeRoom_of_lt hlen, hbefore, hafter, List.append_nil]

/-- Entries of ports below `p` stand below it. -/
theorem admitted_lower {l : List PortId} (hp : ∀ k ∈ l, k < p) : ∀ q ∈ l.filterMap (s.admitted j), q.port < p :=
  fun q hq => by
    obtain ⟨k, hk, hkq⟩ := List.mem_filterMap.mp hq
    rw [admitted_port hkq]
    exact hp k hk

theorem admitted_append (l : List PortId) :
    (l ++ [p]).filterMap (s.admitted j) = l.filterMap (s.admitted j) ++ (s.admitted j p).toList := by
  rw [List.filterMap_append, List.filterMap_cons]
  cases s.admitted j p <;> rfl

/-- What the visits of the ports `l` have made of `s`, whose job's pass is `x`. -/
structure Admitted (s : State) (j : JobId) (x : Pass) (l : List PortId) (t : State) : Prop where
  frame : t = { s with
    passes := upd s.passes j (some { x with wave := l.filterMap (s.admitted j) }), ports := t.ports, places := t.places }
  visited : ∀ p ∈ l, t.bay p = if (s.admitted j p).isSome then (s.bay p).joined x.number else s.bay p
  waiting : ∀ p, p ∉ l → t.bay p = s.bay p
  elsewhere : ∀ q, (∀ p, q ≠ .tray p) → t.disc q = s.disc q

theorem Admitted.start {x : Pass} (hp : s.pass j = some x) (hw : x.wave = []) : Admitted s j x [] s where
  frame := by
    have hself : upd s.passes j (some { x with wave := [] }) = s.passes := by
      rw [← hw]; exact (congrArg (upd s.passes j) hp.symm).trans (upd_self _ _)
    rw [List.filterMap_nil, hself]
  visited _ h := by cases h
  waiting _ _ := rfl
  elsewhere _ _ := rfl

section
variable {x : Pass} {l : List PortId} {t : State} (h : Admitted s j x l t)
include h

theorem Admitted.pass : t.pass j = some { x with wave := l.filterMap (s.admitted j) } := by
  rw [h.frame]; exact nth_upd_self _ _ _

/-- A port not yet visited is still to be judged as it was. -/
theorem Admitted.admitted (hp : p ∉ l) : t.admitted j p = s.admitted j p := by
  have hbay := h.waiting p hp
  have hport : t.port p = s.port p := congrArg Bay.port hbay
  have hdisc : t.disc (.tray p) = s.disc (.tray p) := congrArg Bay.disc hbay
  have hassigned : t.assigned p = s.assigned p := by rw [h.frame]; rfl
  rw [State.admitted, hport, hdisc, hassigned]; rfl

theorem Admitted.next (hp : ∀ k ∈ l, k < p) (hl : l.length < 16) : Admitted s j x (l ++ [p]) (t.admitAt j p) := by
  have hnew : p ∉ l := fun hc => lt_irrefl p (hp p hc)
  cases hm : s.admitted j p with
  | none =>
    rw [admitAt_none ((h.admitted hnew).trans hm)]
    refine ⟨?_, fun q hq => ?_, fun q hq => h.waiting q fun hc => hq (List.mem_append_left _ hc), h.elsewhere⟩
    · rw [admitted_append, hm]
      simpa using h.frame
    · rcases List.mem_append.mp hq with hq | hq
      · exact h.visited q hq
      · cases List.mem_singleton.mp hq
        rw [hm]
        exact h.waiting p hnew
  | some m =>
    obtain ⟨-, hloaded, -⟩ := admitted_iff.mp hm
    have hlower := admitted_lower (s := s) (j := j) hp
    have hlength : (l.filterMap (s.admitted j)).length < maxCount := lt_of_le_of_lt (List.length_filterMap_le _ _) hl
    have hmember : Pass.member { x with wave := l.filterMap (s.admitted j) } p = none :=
      member_none_iff.mpr fun q hq hqp => absurd (hlower q hq) (by rw [hqp]; exact lt_irrefl p)
    have hset (y : Pass) : t.setPass j (some y) =
        { s with passes := upd s.passes j (some y), ports := t.ports, places := t.places } := by
      rw [h.frame]; simp only [State.setPass, upd_upd]
    have hbay := h.waiting p hnew
    rw [admitAt_some ((h.admitted hnew).trans hm) h.pass hmember, insertMember_last (by rwa [admitted_port hm]) hlength]
    refine ⟨?_, fun q hq => ?_, fun q hq => ?_, fun q hq => ?_⟩
    · rw [admitted_append, hm, State.joinAs, hset]
      rfl
    · rcases List.mem_append.mp hq with hq | hq
      · rw [joinAs_bay_ne _ (ne_of_lt (hp q hq))]
        exact h.visited q hq
      · cases List.mem_singleton.mp hq
        have hport : t.port p = s.port p := congrArg Bay.port hbay
        rw [joinAs_bay_self _ (by rw [hport]; exact hloaded), hbay, hm]
        rfl
    · rw [List.mem_append, List.mem_singleton, not_or] at hq
      rw [joinAs_bay_ne _ hq.2]
      exact h.waiting q hq.1
    · rw [joinAs_elsewhere _ (hq p)]
      exact h.elsewhere q hq

end

theorem Admitted.fold : ∀ {l' l : List PortId} {t : State}, Admitted s j x l t → (l ++ l').Pairwise (· < ·) →
    (l ++ l').length ≤ 16 → Admitted s j x (l ++ l') (l'.foldl (State.admitAt j) t)
  | [], l, t, h, _, _ => by rw [List.append_nil]; exact h
  | p :: l', l, t, h, hsorted, hlength => by
    have hlower : ∀ k ∈ l, k < p := fun k hk => (List.pairwise_append.mp hsorted).2.2 k hk p List.mem_cons_self
    have hroom : l.length < 16 := by
      rw [List.length_append, List.length_cons] at hlength; omega
    rw [List.append_cons] at hsorted hlength ⊢
    exact Admitted.fold (h.next hlower hroom) hsorted hlength

theorem numbers_rising (n : Nat) : (numbers n).Pairwise (· < ·) := numbers_eq_finRange n ▸ List.pairwise_lt_finRange n

/-- All ports visited: every admitted port has joined, in port order. -/
theorem admitLoaded_admitted {x : Pass} (hp : s.pass j = some x) (hw : x.wave = []) :
    Admitted s j x (numbers 16) (s.admitLoaded j) := by
  have hlength : (numbers 16).length = 16 := by rw [numbers_eq_finRange, List.length_finRange]
  rw [admitLoaded_eq]
  exact Admitted.fold (l := []) (l' := numbers 16) (.start hp hw) (numbers_rising 16) hlength.le

/-! ## PASS START (R49) -/

/-- The job and the pass a PASS START creates, before the ports are admitted. -/
def State.passCreated (s : State) (j : JobId) (n : Half) : State :=
  (s.modJob j fun x =>
    { x with passCounter := n, digest := if x.digest = .empty then .building else x.digest }).setPass j (some (Pass.start n))

theorem passStart_taken {b : Byte} (hj : b.toNat = j.val) (hs : (s.job j).state = .running) (hp : s.pass j = none) :
    passStart b s = (((s.passCreated j ((s.job j).passCounter + 1)).admitLoaded j).withdraw (.waveReady j),
      .ok ((s.job j).passCounter + 1)) := by
  rw [passStart, withJob_eq hj, if_neg (not_not_intro hs), hp]
  rfl

end

/-- Settles O30: the pass is created with an empty wave, and the ports are visited in their order. -/
theorem passStartCreatesPass : Obligations.PassStartCreatesPass := by
  intro h b s j ht hl hj hs hp
  have hexec := command_settle ht hl (passStart_taken (s := s.countGood) hj hs hp)
  have hvisit := admitLoaded_admitted (s := s.countGood.passCreated j ((s.job j).passCounter + 1)) (j := j)
    (x := Pass.start ((s.job j).passCounter + 1)) (pass_setPass_self _ _ _) rfl
  have hjob : s.countGood.job j = s.job j := rfl
  rw [hjob] at hexec
  generalize hn : (s.job j).passCounter + 1 = n at *
  generalize (s.countGood.passCreated j n).admitLoaded j = t at *
  obtain ⟨hframe, hvisited, -, helsewhere⟩ := hvisit
  have hadmitted : (s.countGood.passCreated j n).admitted j = s.admitted j := rfl
  rw [hadmitted] at hframe hvisited
  refine ⟨t.withdraw (.waveReady j), n, (numbers 16).filterMap (s.admitted j), rfl, congrArg Host.Outcome.next hexec,
    ?_, ?_, (numbers_rising 16).filterMap _ fun p q hpq x hx y hy => ?_, fun m => ?_, fun p d ha hload hd => ?_,
    fun p hno => ?_, helsewhere, ?_, ?_⟩
  · rw [hframe]; rfl
  · rw [hframe]; exact upd_upd _ _ _ _
  · rw [admitted_port hx, admitted_port hy]; exact hpq
  · rw [List.mem_filterMap]
    refine exists_congr fun p => ?_
    rw [admitted_iff]
    constructor
    · rintro ⟨-, ha, hload, d, hd, rfl⟩
      exact ⟨d, ha, hload, hd, rfl⟩
    · rintro ⟨d, ha, hload, hd, rfl⟩
      exact ⟨mem_numbers p, ha, hload, d, hd, rfl⟩
  · have hbay := hvisited p (mem_numbers p)
    rw [admitted_iff.mpr ⟨ha, hload, d, hd, rfl⟩] at hbay
    refine ⟨congrArg Bay.port hbay, (congrArg Bay.disc hbay).trans ?_⟩
    exact congrArg (Option.map fun d => { d with pass := some n }) hd
  · have hnone : s.admitted j p = none := if_neg (not_and_or.mpr hno)
    have hbay := hvisited p (mem_numbers p)
    rw [hnone] at hbay
    exact ⟨congrArg Bay.port hbay, congrArg Bay.disc hbay⟩
  · rw [hframe]; rfl
  · rw [hframe]; rfl

end Sys2Proof.Machine

namespace Sys2Proof.Machine

/-! ## The part at reset meets the invariants -/

theorem reset_reportsOk : State.reset.reportsOk := Nat.zero_le _

theorem reset_queueOk : State.reset.queueOk := ⟨Nat.zero_le _, List.nodup_nil⟩

theorem reset_tagsOk : State.reset.tagsOk := fun p _ d _ hd => by cases (reset_disc p).symm.trans hd

theorem reset_noticesOk : State.reset.noticesOk := fun c => by
  have hempty : (State.reset.notices.get c).set = [] := by cases c <;> rfl
  simp [hempty]

theorem reset_wavesOk : State.reset.wavesOk := fun j p hp => by cases (reset_pass j).symm.trans hp

/-- Settles O57: at reset every queue, pending set and pass record is empty. -/
theorem invariantsAtReset : Obligations.InvariantsAtReset :=
  ⟨ImageMemory.wf_reset, reset_reportsOk, reset_queueOk, reset_tagsOk, reset_noticesOk, reset_wavesOk⟩

end Sys2Proof.Machine

namespace Sys2Proof.Machine

/-! ## Work that keeps the queues in room (R47, R48, R127, R171, R185, R187)

A block's work is tidy when it keeps the reports, the pending sets and the waves within their bounds, adds no answer to the
outbound queue and no second entry of another kind. Tidiness composes, so each operation of the model needs one lemma: what it
adds to work that is tidy is tidy. -/

/-- The invariant of one pass record (R47, R48). -/
def Pass.waveOk (p : Pass) : Prop :=
  p.wave.Pairwise Member.before ∧ p.wave.length ≤ 16 ∧ p.finished ≤ 16 ∧ p.cut ≤ 16 ∧ p.failed ≤ 16

theorem wavesOk_iff {s : State} : s.wavesOk ↔ ∀ j p, s.pass j = some p → p.waveOk := Iff.rfl

/-- The invariant of one pending set (R171). -/
def NoticeClass.ranked (k : CauseClass) (c : NoticeClass) : Prop :=
  c.set.Pairwise (fun x y => x.rank < y.rank) ∧ ∀ x ∈ c.set, x.cls = k

theorem noticesOk_iff {s : State} : s.noticesOk ↔ ∀ k, (s.notices.get k).ranked k := Iff.rfl

/-- The entries of the outbound queue that are no answers (R187). -/
def Link.others (l : Link) : List OutEntry := l.queue.filter fun e => !e.isAnswer

/-- What `t` keeps of `s` when no answer has been queued between. -/
structure Tidy (s t : State) : Prop where
  reports : s.reportsOk → t.reportsOk
  unsent : t.link.unsent ≤ s.link.unsent
  others : s.link.others.Nodup → t.link.others.Nodup
  notices : s.noticesOk → t.noticesOk
  waves : s.wavesOk → t.wavesOk

theorem Tidy.refl (s : State) : Tidy s s := ⟨id, le_refl _, id, id, id⟩

theorem Tidy.trans {s t u : State} (h : Tidy s t) (g : Tidy t u) : Tidy s u where
  reports hs := g.reports (h.reports hs)
  unsent := g.unsent.trans h.unsent
  others hs := g.others (h.others hs)
  notices hs := g.notices (h.notices hs)
  waves hs := g.waves (h.waves hs)

theorem Tidy.queueOk {s t : State} (h : Tidy s t) (hs : s.queueOk) : t.queueOk :=
  ⟨h.unsent.trans hs.1, h.others hs.2⟩

theorem ranked_filter {k : CauseClass} {c : NoticeClass} (hc : c.ranked k) (f : Notice → Bool) (o : Option Notice) :
    NoticeClass.ranked k ⟨c.set.filter f, o⟩ :=
  ⟨hc.1.filter _, fun x hx => hc.2 x (List.mem_of_mem_filter hx)⟩

theorem ranked_congr {k : CauseClass} {c d : NoticeClass} (h : d.set = c.set) (hc : c.ranked k) : d.ranked k := by
  unfold NoticeClass.ranked
  rw [h]
  exact hc

section
variable {α : Type} {s t u : State} (h : Tidy s t)
include h

theorem Tidy.foldl {f : State → α → State} (hf : ∀ t a, Tidy t (f t a)) {l : List α} : Tidy s (l.foldl f t) :=
  h.trans (foldl_rel Tidy.refl Tidy.trans hf l t)

/-- Work that only takes entries from the outbound queue, and leaves the notice unit and the pass records. -/
theorem Tidy.lessQueue (hq : u.link.queue.Sublist t.link.queue) (hn : u.notices = t.notices)
    (hp : u.passes = t.passes) : Tidy s u := by
  refine h.trans ⟨?_, (hq.filter _).length_le, fun hs => hs.sublist (hq.filter _), ?_, ?_⟩
  · simp only [State.reportsOk, hn]; exact id
  · simp only [State.noticesOk, hn]; exact id
  · simp only [State.wavesOk, State.pass, hp]; exact id

/-- Work elsewhere: the notice unit, the outbound queue and the pass records stand. -/
theorem Tidy.frame (hq : u.link.queue = t.link.queue) (hn : u.notices = t.notices)
    (hp : u.passes = t.passes) : Tidy s u :=
  h.lessQueue (hq ▸ List.Sublist.refl _) hn hp

theorem Tidy.modLink {f : Link → Link} (hq : (f t.link).queue.Sublist t.link.queue) : Tidy s (t.modLink f) :=
  h.lessQueue hq rfl rfl

/-! ### Work on one part of the state elsewhere -/

theorem Tidy.modJob {j : JobId} {f : Job → Job} : Tidy s (t.modJob j f) := h.frame rfl rfl rfl
theorem Tidy.modPort {p : PortId} {f : Port → Port} : Tidy s (t.modPort p f) := h.frame rfl rfl rfl
theorem Tidy.setVerify {p : PortId} {v : Option Verify} : Tidy s (t.setVerify p v) := h.frame rfl rfl rfl
theorem Tidy.setDisc {q : Place} {d : Option Disc} : Tidy s (t.setDisc q d) := h.frame rfl rfl rfl
theorem Tidy.modDisc {q : Place} {f : Disc → Disc} : Tidy s (t.modDisc q f) := h.frame rfl rfl rfl
theorem Tidy.modTransport {f : Transport → Transport} : Tidy s (t.modTransport f) := h.frame rfl rfl rfl
theorem Tidy.modPrinter {f : Printer → Printer} : Tidy s (t.modPrinter f) := h.frame rfl rfl rfl
theorem Tidy.modLines {f : Lines → Lines} : Tidy s (t.modLines f) := h.frame rfl rfl rfl
theorem Tidy.setMemory {m : ImageMemory} : Tidy s { t with memory := m } := h.frame rfl rfl rfl
theorem Tidy.createOrphan {q : Place} : Tidy s (t.createOrphan q) := h.frame rfl rfl rfl
theorem Tidy.takeOutcome {p : PortId} {c : CmdClass} {o : Outcome} : Tidy s (t.takeOutcome p c o) := h.frame rfl rfl rfl
theorem Tidy.removeRequests {f : ReqKind → Bool} : Tidy s (t.removeRequests f) := h.frame rfl rfl rfl
theorem Tidy.createRequest {k : ReqKind} : Tidy s (t.createRequest k) := h.frame rfl rfl rfl
theorem Tidy.gotoPort {p : PortId} {x : PortState} : Tidy s (t.gotoPort p x) := h.frame rfl rfl rfl
theorem Tidy.goDone {p : PortId} : Tidy s (t.goDone p) := h.frame rfl rfl rfl
theorem Tidy.goIdle {p : PortId} : Tidy s (t.goIdle p) := h.frame rfl rfl rfl
theorem Tidy.issue {p : PortId} {c : DriveCmd} : Tidy s (t.issue p c) := h.frame rfl rfl rfl

/-! ### The notice unit -/

/-- Work on the notice unit that keeps the reports in room and each pending set in order. -/
theorem Tidy.onNotices {f : Notices → Notices} (hr : t.reportsOk → (t.modNotices f).reportsOk)
    (hc : ∀ k, (t.notices.get k).ranked k → ((f t.notices).get k).ranked k) : Tidy s (t.modNotices f) :=
  h.trans ⟨hr, le_refl _, id, fun ht k => hc k (ht k), id⟩

/-- Work on the reports alone. -/
theorem Tidy.onReports {f : Notices → Notices} (hr : t.reportsOk → (t.modNotices f).reportsOk)
    (hc : ∀ k, ((f t.notices).get k).set = (t.notices.get k).set) :
    Tidy s (t.modNotices f) :=
  h.onNotices hr fun k => ranked_congr (hc k)

/-- Work on one pending set. -/
theorem Tidy.put {k : CauseClass} {f : NoticeClass → NoticeClass}
    (hf : (t.notices.get k).ranked k → (f (t.notices.get k)).ranked k) :
    Tidy s (t.modNotices fun n => n.put k (f (n.get k))) := by
  refine h.onNotices (by cases k <;> exact id) fun i hi => ?_
  rw [get_put]
  split
  · next e => subst e; exact hf hi
  · exact hi

theorem Tidy.raise {x : Notice} : Tidy s (t.raise x) := 
  h.put (k := x.cls) (f := (·.raise x)) (raise_ranked _ _ x rfl)

theorem Tidy.withdraw {x : Notice} : Tidy s (t.withdraw x) :=
  h.put (k := x.cls) (f := (·.withdraw x)) fun hc => by
    unfold NoticeClass.withdraw
    split
    · exact hc
    · exact ranked_filter hc _ _

theorem Tidy.acknowledge {k : CauseClass} :
    Tidy s (t.modNotices fun n => n.put k (n.get k).acknowledge) :=
  h.put (f := NoticeClass.acknowledge) fun hc => by
    unfold NoticeClass.acknowledge
    split
    · exact hc
    · exact ranked_filter hc _ _

theorem Tidy.clearOutstanding : Tidy s (t.modNotices Notices.clearOutstanding) :=
  h.onReports id fun k => by cases k <;> rfl

theorem Tidy.giveUpReservation : Tidy s t.giveUpReservation :=
  h.onReports (hc := fun k => by cases k <;> rfl) fun ht => by
    simp only [State.reportsOk, State.modNotices, Bool.false_eq_true, if_false] at ht ⊢
    omega

/-- A report is appended through the reservation, or where there is room, or not at all (R127). -/
theorem Tidy.appendReport {b : Bool} {r : Report} : Tidy s (t.appendReport b r) := by
  unfold State.appendReport
  dsimp only
  split
  · next hb =>
    refine h.onReports (fun ht => ?_) fun k => by cases k <;> rfl
    simp_all [State.reportsOk, State.modNotices]
  · by_cases hroom : t.notices.reports.length + (if t.notices.reserved then 1 else 0) < Config.reportRoom
    · rw [if_pos hroom]
      refine h.onReports (fun _ => ?_) fun k => by cases k <;> rfl
      show (t.notices.reports ++ [r]).length + (if t.notices.reserved then 1 else 0) ≤ Config.reportRoom
      rw [List.length_append, List.length_singleton]
      omega
    · rw [if_neg hroom]
      exact h.frame rfl rfl rfl

/-- An entry is reserved where a report has room beside those that wait (R127, R139). -/
theorem Tidy.reserve (hroom : t.notices.reports.length < Config.reportRoom) :
    Tidy s (t.modNotices fun n => { n with reserved := true }) :=
  h.onReports (fun _ => hroom) fun k => by cases k <;> rfl

/-! ### The pass records -/

/-- A pass record is written in order. -/
theorem Tidy.setPass {j : JobId} {x : Option Pass} (hx : t.wavesOk → ∀ p, x = some p → p.waveOk) :
    Tidy s (t.setPass j x) := by
  refine h.trans ⟨id, le_refl _, id, id, fun ht => wavesOk_iff.mpr fun k p hp => ?_⟩
  rw [pass_setPass] at hp
  split at hp
  · exact hx ht p hp
  · exact ht k p hp

/-- A pass record is changed in order. -/
theorem Tidy.modPass {j : JobId} {f : Pass → Pass} (hf : ∀ p, p.waveOk → (f p).waveOk) :
    Tidy s (t.modPass j f) := by
  refine h.setPass fun ht q hq => ?_
  obtain ⟨p, hp, rfl⟩ := Option.map_eq_some_iff.mp hq
  exact hf p (ht j p hp)

end

end Sys2Proof.Machine

namespace Sys2Proof.Machine

/-! ## Waves in order (R47, R48) -/

theorem satInc_count (n : Nat) : satInc maxCount n ≤ 16 := by
  unfold satInc
  split
  · next h => exact h
  · exact le_refl _

section
variable {x : Pass} (h : x.waveOk)
include h

/-- Entries are rewritten in their places: their ports stand, and none comes back into the wave. -/
theorem Pass.waveOk.mapMember (n : PortId) {f : Member → Member} (hp : ∀ m, (f m).port = m.port) :
    (x.mapMember n f).waveOk := by
  obtain ⟨hw, hlen, hcounts⟩ := h
  refine ⟨pairwise_map_before (fun m => ?_) (fun m hm => ?_) hw, (List.length_map _).trans_le hlen, hcounts⟩
  · split
    · exact hp m
    · rfl
  · rw [if_neg (by simp [hm])]
    exact hm

theorem Pass.waveOk.leave (n : PortId) (st : MemberStatus) : (x.leave n st).waveOk := by
  obtain ⟨hw, hlen, hfinished, hcut, hfailed⟩ :=
    Pass.waveOk.mapMember h n (f := fun m => { m with status := st, inFlight := none }) fun _ => rfl
  cases st with
  | armed | writing | returned => exact ⟨hw, hlen, hfinished, hcut, hfailed⟩
  | finished => exact ⟨hw, hlen, satInc_count _, hcut, hfailed⟩
  | cut => exact ⟨hw, hlen, hfinished, satInc_count _, hfailed⟩
  | failed => exact ⟨hw, hlen, hfinished, hcut, satInc_count _⟩

theorem Pass.waveOk.insert {m : Member} (hm : x.member m.port = none) :
    Pass.waveOk { x with wave := insertMember m x.wave } := by
  obtain ⟨hw, hlen, hcounts⟩ := h
  have hgone := member_none_iff.mp hm
  exact ⟨insertMember_before hw hgone, insertMember_length hw hlen hgone, hcounts⟩

theorem Pass.waveOk.examine (y : Job) : (x.examine y).waveOk := by
  rw [Pass.examine_frame]
  exact h

end

section
variable {α : Type} {s t : State} (h : Tidy s t) {p : PortId} {j : JobId}
include h

/-! ## Jobs, ports and their discs -/

theorem Tidy.goFaulted : Tidy s (t.goFaulted p) := by
  unfold State.goFaulted
  split
  · exact h
  · exact .raise (.removeRequests h.modPort)

theorem Tidy.goOffline : Tidy s (t.goOffline p) := by
  unfold State.goOffline
  dsimp only
  split
  · exact .frame h rfl rfl rfl
  · exact .raise (.removeRequests h.modPort)

theorem Tidy.trayServed : Tidy s (t.trayServed p) := by
  unfold State.trayServed
  split
  · exact .frame h rfl rfl rfl
  · exact h

theorem Tidy.leave {st : MemberStatus} : Tidy s (t.modPass j fun x => x.leave p st) :=
  h.modPass fun _ hx => hx.leave p st

theorem Tidy.memberLeaves {st : MemberStatus} : Tidy s (t.memberLeaves p st) := by
  unfold State.memberLeaves
  split
  · exact h
  · exact h.leave

theorem Tidy.handFault {c : FaultCause} {l : Option Nat} : Tidy s (t.handFault p c l) := by
  unfold State.handFault
  split
  · exact h
  · split
    · exact h
    · exact .frame h rfl rfl rfl

theorem Tidy.failBurn {c : FaultCause} {l : Option Nat} : Tidy s (t.failBurn p c l) :=
  .setVerify (.handFault (.modDisc h.memberLeaves))

theorem Tidy.giveUpBlanks : Tidy s (t.giveUpBlanks j) :=
  h.foldl fun t p => by
    split
    · exact .frame (.refl t) rfl rfl rfl
    · exact .refl t

theorem Tidy.enterDraining : Tidy s (t.enterDraining j) := .withdraw (.giveUpBlanks h.modJob)

/-! ## The roster -/

theorem Tidy.countJob {k : Option JobId} {f : Counters → Counters} : Tidy s (t.countJob k f) := by
  unfold State.countJob
  split
  · exact h
  · exact .frame h rfl rfl rfl

theorem Tidy.pick {b : Bool} : Tidy s (t.pick p j b) := by
  unfold State.pick
  dsimp only
  exact .countJob (by split <;> exact .frame h rfl rfl rfl)

theorem Tidy.freePlace {q : Place} : Tidy s (t.freePlace q) := by
  cases q <;> exact .frame h rfl rfl rfl

theorem Tidy.liftDisc {q : Place} {d : Station} : Tidy s (t.liftDisc q d) := by
  unfold State.liftDisc
  split
  · exact h
  · exact .setDisc h.freePlace

theorem Tidy.arrive {q : Place} : Tidy s (t.arrive q) := by
  unfold State.arrive
  split
  · exact h
  · cases q <;> exact .frame h rfl rfl rfl

theorem Tidy.checkTarget : Tidy s (t.checkTarget j) := by
  unfold State.checkTarget
  dsimp only
  split
  · exact h.enterDraining
  · exact h

theorem Tidy.deliver {b : OutBin} : Tidy s (t.deliver b) := by
  unfold State.deliver
  split
  · exact h
  · have hd : ∀ {k : Option JobId} {f : Counters → Counters} {r : Report},
        Tidy s (((t.countJob k f).appendReport true r).setDisc .arm none) := .setDisc (.appendReport h.countJob)
    dsimp only
    split
    · exact hd
    · split
      · exact hd
      · exact hd.checkTarget

theorem Tidy.returnDisc : Tidy s t.returnDisc := by
  unfold State.returnDisc
  split
  · exact h
  · exact .setDisc h.countJob

theorem Tidy.lose {q : Place} {c : LossCause} {b : Bool} : Tidy s (t.lose q c b) := by
  unfold State.lose
  split
  · exact h
  · exact .freePlace (.appendReport h.countJob)

/-! ## The verify engine -/

theorem Tidy.startVerify : Tidy s (t.startVerify p) := by
  unfold State.startVerify
  split
  · exact h
  · split
    · exact h
    · exact .frame h rfl rfl rfl

theorem Tidy.writeGrade {v : Verify} {g : Grade} {f : Option (FaultCause × Option Nat)} :
    Tidy s (t.writeGrade p v g f) := by
  cases f with
  | none => exact .frame h rfl rfl rfl
  | some => exact .goDone (.setVerify (.handFault h.modDisc))

theorem Tidy.decideGrade {v : Verify} {g : Profile} : Tidy s (t.decideGrade p v g) := by
  unfold State.decideGrade
  split <;> exact h.writeGrade

theorem Tidy.completeRead {v : Verify} {n : Nat} : Tidy s (t.completeRead p v n) := by
  unfold State.completeRead
  dsimp only
  (repeat' split)
  · exact h.writeGrade
  · exact h.writeGrade
  · exact .frame h rfl rfl rfl
  · exact h.decideGrade

theorem Tidy.failedAttempt {v : Verify} {l : Option Nat} : Tidy s (t.failedAttempt p v l) := by
  unfold State.failedAttempt
  dsimp only
  split
  · exact .frame h rfl rfl rfl
  · exact h.writeGrade

theorem Tidy.readReported {o : Outcome} : Tidy s (t.readReported p o) := by
  unfold State.readReported
  dsimp only
  (repeat' split)
  · exact h
  · exact h.completeRead
  · exact h.failedAttempt
  · exact h.completeRead
  · exact h.failedAttempt
  · exact h.failedAttempt
  · exact h.failedAttempt
  · exact h.failedAttempt

/-! ## Composition -/

theorem Tidy.blockDigest {b : Nat} {d : Word} : Tidy s (t.blockDigest j b d).1 := by
  unfold State.blockDigest
  dsimp only
  split
  · dsimp only
    split <;> exact .frame h rfl rfl rfl
  · exact h
  · exact h

theorem Tidy.composeSector {data : Sector} : Tidy s (t.composeSector j data).1 := by
  unfold State.composeSector
  split
  · exact h
  · dsimp only
    split
    · refine .blockDigest (h.setMemory.modPass ?_)
      exact fun _ => id
    · exact h.setMemory.modPass fun _ => id

theorem Tidy.composeSectors {ds : List Sector} : Tidy s (t.composeSectors j ds).1 := by
  rw [composeSectors_eq]
  suffices hfold : ∀ r : State × Option Nat, Tidy s r.1 → Tidy s (ds.foldl (composeNext j) r).1 from hfold (t, none) h
  induction ds with
  | nil => exact fun _ hr => hr
  | cons d ds ih => exact fun r hr => ih _ hr.composeSector

theorem Tidy.abortMember {c : FaultCause} : Tidy s (t.abortMember j c p) := by
  unfold State.abortMember
  dsimp only
  (repeat' split)
  · exact h
  · exact .frame (h.leave (p := p) (j := j) (st := .returned)) rfl rfl rfl
  · exact .frame (h.leave (p := p) (j := j) (st := .returned)) rfl rfl rfl
  · exact .goDone (.handFault (.modDisc (.leave h.modPort)))
  all_goals exact h

theorem Tidy.abortPass {c : AbortCause} {l : Option Nat} : Tidy s (t.abortPass j c l) := by
  unfold State.abortPass
  split
  · exact h
  · split
    · exact h
    · refine .raise (.foldl (.modJob (.modPass h.modJob ?_)) fun u _ => (Tidy.refl u).abortMember)
      exact fun _ => id

/-- A composition that is tidy is so with its abort at a mismatch (R43). -/
theorem Tidy.afterCompose {r : State × Option Nat} (hr : Tidy t r.1) : Tidy s (State.afterCompose j r) := by
  unfold State.afterCompose
  split
  · exact h.trans hr
  · exact .abortPass (h.trans hr)

theorem Tidy.imageFrame {b : Byte} {pl : List Byte} : Tidy s (t.imageFrame b pl) := by
  match hf : t.framePass b pl with
  | none =>
    rw [imageFrame_stray hf]
    exact .frame h rfl rfl rfl
  | some (j, p) =>
    match ha : p.accepts (t.job j) pl with
    | true =>
      rw [imageFrame_taken hf ha]
      refine h.afterCompose (.composeSectors (.modPass (.refl t) ?_))
      exact fun _ => id
    | false =>
      rw [imageFrame_faulty hf ha]
      exact h.abortPass

theorem Tidy.fillOne : Tidy s (t.fillOne j) := by
  unfold State.fillOne
  split
  · exact h
  · split
    · exact h.afterCompose (.composeSector (.refl t))
    · exact h

/-! ## The wave -/

theorem Tidy.joinWave : Tidy s (t.joinWave j p) := by
  unfold State.joinWave
  split
  · next d x _ hx =>
    split
    · exact h
    · next hno =>
      refine .gotoPort (.modDisc (.setPass h fun ht y hy => ?_))
      cases hy
      exact Pass.waveOk.insert (ht j x hx) (Option.not_isSome_iff_eq_none.mp hno)
  · exact h

theorem Tidy.enterLoaded : Tidy s (t.enterLoaded p j) := by
  unfold State.enterLoaded
  dsimp only
  split
  · exact .joinWave (.gotoPort h.modDisc)
  · exact .frame h rfl rfl rfl

theorem Tidy.launchMember : Tidy s (t.launchMember j p) := by
  unfold State.launchMember
  split
  · refine .gotoPort (.modDisc (.modPass h fun x hx => ?_))
    exact hx.mapMember p fun _ => rfl
  · exact h

theorem Tidy.launch : Tidy s (t.launch j) := by
  refine .raise (.modPass (.foldl h fun u _ => (Tidy.refl u).launchMember) ?_)
  exact fun _ => id

theorem Tidy.cutMember {m : Member} : Tidy s (t.cutMember j m) :=
  .goDone (.handFault (.modDisc (.leave h.modPort)))

theorem Tidy.examine : Tidy s (t.examine j) := by
  unfold State.examine
  split
  · exact h
  · next x hx =>
    split
    · exact h
    · have hq : Tidy s (t.setPass j (some (x.examine (t.job j)))) := h.setPass fun ht y hy => by
        cases hy
        exact Pass.waveOk.examine (ht j x hx) _
      dsimp only
      split
      · split
        · exact hq
        · exact .modPass (.foldl hq fun u _ => (Tidy.refl u).cutMember) fun y hy => hy.examine _
      · exact hq

theorem Tidy.endPass : Tidy s (t.endPass j) := by
  unfold State.endPass
  (repeat' split)
  · exact h
  · exact h
  · refine .raise (.modPass h ?_)
    exact fun _ => id
  · exact h.abortPass
  · exact h.abortPass
  all_goals exact h

theorem Tidy.issueWrite : Tidy s (t.issueWrite j p) := by
  unfold State.issueWrite
  dsimp only
  (repeat' split)
  · exact h
  · exact h
  · refine .issue (.modPass h fun x hx => ?_)
    exact hx.mapMember p fun _ => rfl
  · exact h

theorem Tidy.settleJob : Tidy s (t.settleJob j) := by
  unfold State.settleJob
  dsimp only
  refine .foldl ?_ fun u _ => (Tidy.refl u).issueWrite
  split
  · exact .examine (.launch (.examine h.endPass))
  · exact .examine h.endPass

theorem Tidy.writeComplete {seg : Nat} : Tidy s (t.writeComplete p seg) := by
  unfold State.writeComplete
  dsimp only
  have hw : ∀ {j : JobId} {n : Nat}, Tidy s (t.modPass j fun x => x.mapMember p fun m =>
      { m with written := m.written + n, inFlight := none }) :=
    h.modPass fun x hx => hx.mapMember p fun _ => rfl
  (repeat' split)
  · exact h
  · exact h
  · exact h
  · exact .issue (.gotoPort (.leave hw))
  · exact hw

end

end Sys2Proof.Machine

namespace Sys2Proof.Machine

/-! ## What the arbiter chooses (R139, R143) -/

/-- What the arbiter chooses is eligible. -/
theorem eligible_of_choice {t : State} {r : Request} (hr : t.choice = some r) : t.eligible r.kind = true := by
  unfold State.choice at hr
  dsimp only at hr
  split at hr
  · cases hr
  · obtain ⟨c, _, hfound⟩ := List.exists_of_findSome?_eq_some hr
    have hopen := List.find?_some hfound
    simp only [Bool.and_eq_true] at hopen
    exact hopen.2.1

/-- A move to an output bin is eligible only while a report has room (R139). -/
theorem reportRoom_of_eligible {t : State} {k : ReqKind} {src : Source} {o : OutBin} {tag : Option Half}
    (hk : t.eligible k = true) (hr : t.resolve k = some (src, .out o, tag)) :
    t.notices.reports.length < Config.reportRoom := by
  obtain ⟨_, havailable, _⟩ := (eligible_resolved hr).mp hk
  exact ((outAvailable_iff t o).mp havailable).2

section
variable {s t : State} (h : Tidy s t) {p : PortId} {j : JobId} {m : Move} {b : Bool} {q : Place}
include h

/-! ## The printer -/

theorem Tidy.commitSerial : Tidy s (t.commitSerial j) := by
  unfold State.commitSerial
  dsimp only
  split
  · exact .raise (.modPrinter (.modJob h.modDisc))
  · exact .frame h rfl rfl rfl

theorem Tidy.commitLabel : Tidy s t.commitLabel := by
  unfold State.commitLabel
  split
  · exact h
  · split
    · exact h
    · refine .modPrinter ?_
      split
      · exact h.commitSerial
      · exact h

theorem Tidy.proceedLabel : Tidy s t.proceedLabel := by
  unfold State.proceedLabel
  split
  · exact .raise h.modPrinter
  · exact h.commitLabel

theorem Tidy.printerFault : Tidy s t.printerFault := .raise h.modPrinter

theorem Tidy.unloadPlatter : Tidy s t.unloadPlatter := by
  unfold State.unloadPlatter
  split
  · exact h
  · exact h.createRequest

theorem Tidy.spoilPrint : Tidy s t.spoilPrint := .unloadPlatter (.printerFault h.modDisc)

theorem Tidy.finishPrint : Tidy s t.finishPrint := .unloadPlatter (.frame h rfl rfl rfl)

theorem Tidy.platterTaken : Tidy s t.platterTaken := by
  unfold State.platterTaken
  refine .modPrinter ?_
  split
  · exact h.modPrinter
  · exact .printerFault h.modDisc
  · exact .printerFault h.modDisc
  · exact .printerFault h.modDisc
  · exact h
  · exact h

theorem Tidy.platterLost : Tidy s t.platterLost := by
  unfold State.platterLost
  refine .modPrinter ?_
  split
  · exact h.modPrinter
  · exact .printerFault h.modDisc
  · exact .printerFault h.modDisc
  · exact .printerFault h.modDisc
  · exact h
  · exact h

/-! ## Moves -/

theorem Tidy.enterPhase {ph : Phase} : Tidy s (t.enterPhase m ph) := h.frame rfl rfl rfl

theorem Tidy.endMove : Tidy s t.endMove := .modTransport h.giveUpReservation

theorem Tidy.armFault {c : TransportCause} {st : Option Station} : Tidy s (t.armFault c st) :=
  .raise (.modTransport h.giveUpReservation)

theorem Tidy.holdPort : Tidy s (t.holdPort m) := by
  unfold State.holdPort
  split
  · exact h.modTransport
  · exact h

theorem Tidy.closeMove {st : Option Station} : Tidy s (t.closeMove m b st) := by
  unfold State.closeMove
  split
  · exact .armFault h.holdPort
  · exact h.endMove

theorem Tidy.createFeed : Tidy s (t.createFeed p) := by
  unfold State.createFeed
  split
  · exact h
  · split
    · exact h.createRequest
    · exact h

theorem Tidy.createRecover : Tidy s (t.createRecover q) := by
  unfold State.createRecover
  split
  · exact h
  · dsimp only
    split
    · exact h
    · exact h.createRequest

theorem Tidy.foundOrphan : Tidy s ((t.createOrphan q).createRecover q) := .createRecover h.createOrphan

theorem Tidy.mark {i : BinId} : Tidy s (t.mark i b) := h.frame rfl rfl rfl

theorem Tidy.gripAtBin {i : BinId} : Tidy s (t.gripAtBin m i p j b) := by
  unfold State.gripAtBin
  split
  · split
    · refine .createRecover ?_
      have hclosed : ∀ {st : Option Station}, Tidy s ((t.pick p j true).closeMove m b st) := .closeMove h.pick
      split
      · exact hclosed.createFeed
      · exact hclosed
    · dsimp only
      split
      · exact .closeMove h.pick
      · exact .enterPhase h.pick
  · exact .modTransport (.closeMove (.raise h.mark))

theorem Tidy.gripAtPlace : Tidy s (t.gripAtPlace m q b) := by
  unfold State.gripAtPlace
  dsimp only
  split
  · have hlifted : Tidy s (match q with
        | .tray n => (t.liftDisc q m.dest).trayServed n
        | .platter => (t.liftDisc q m.dest).platterTaken
        | .arm | .shelf _ => t.liftDisc q m.dest) := by
      cases q with
      | tray n => exact .trayServed h.liftDisc
      | platter => exact .platterTaken h.liftDisc
      | arm => exact h.liftDisc
      | shelf k => exact h.liftDisc
    split
    · exact hlifted.closeMove
    · exact hlifted.enterPhase
  · have hvoided : Tidy s (if q = .platter then t.giveUpReservation.platterLost else t.giveUpReservation) := by
      split
      · exact .platterLost h.giveUpReservation
      · exact h.giveUpReservation
    refine .closeMove ?_
    cases q with
    | tray n => exact .trayServed hvoided.lose
    | platter => exact hvoided.lose
    | arm => exact hvoided.lose
    | shelf k => exact hvoided.lose

theorem Tidy.judgeGrip : Tidy s (t.judgeGrip m b) := by
  unfold State.judgeGrip
  split
  · exact h.gripAtBin
  · exact h.gripAtPlace
  · exact h

theorem Tidy.land : Tidy s (t.land m) := by
  unfold State.land
  split
  · exact h.deliver
  · exact h.returnDisc
  · exact h.arrive
  · exact h.arrive
  · have harrived : Tidy s (t.arrive .platter) := h.arrive
    dsimp only
    split
    · split
      · exact .frame harrived rfl rfl rfl
      · exact harrived
    · exact harrived

theorem Tidy.judgeRelease : Tidy s (t.judgeRelease m b) := by
  unfold State.judgeRelease
  split
  · split
    · exact h.closeMove
    · exact .armFault h.holdPort
  · dsimp only
    split
    · exact .closeMove h.land
    · split
      · exact .trayServed (.endMove h.land)
      · exact .endMove h.land

theorem Tidy.stall : Tidy s (t.stall m) := by
  unfold State.stall
  split
  · exact .modTransport h.armFault
  · exact h.judgeGrip
  · exact h.closeMove
  · exact h.judgeRelease

theorem Tidy.drop : Tidy s (t.drop m) := .armFault (.holdPort h.lose)

theorem Tidy.arrived : Tidy s t.arrived := by
  unfold State.arrived State.onMove
  split
  · exact h
  · dsimp only
    split
    · exact h.enterPhase
    · exact h.enterPhase
    · exact h
    · exact h

theorem Tidy.onMove {f : Move → State → State} (hf : ∀ m, Tidy s (f m t)) : Tidy s (t.onMove f) := by
  unfold State.onMove
  split
  · exact h
  · exact hf _

/-! ## Grants (R139, R143) -/

/-- A granted request leaves the queue; a report is reserved for an output bin, which is eligible only with room for it. -/
theorem Tidy.taken {r : Request} {src : Source} {dest : Station} {tag : Option Half} (hk : t.eligible r.kind = true)
    (hr : t.resolve r.kind = some (src, dest, tag)) : Tidy s (t.taken r dest) := by
  cases dest with
  | out o =>
    rw [taken_out]
    exact .reserve h.modTransport (reportRoom_of_eligible hk hr)
  | _ =>
    rw [taken_notOut t r rfl]
    exact h.modTransport

theorem Tidy.arbitrate : Tidy s t.arbitrate := by
  unfold State.arbitrate
  split
  · exact h
  · next r hchoice =>
    match hr : t.resolve r.kind with
    | none =>
      unfold State.grantRequest
      rw [hr]
      exact h
    | some (src, dest, tag) =>
      rw [grantRequest_eq hr]
      have htaken : Tidy s (t.taken r dest) := h.taken (eligible_of_choice hchoice) hr
      split
      · exact htaken.judgeGrip
      · exact htaken.enterPhase

/-! ## What stands in the queue, and the ports' service -/

theorem Tidy.createUnload : Tidy s (t.createUnload p) := by
  unfold State.createUnload
  (repeat' split)
  · exact h.createRequest
  · exact h
  · exact h

theorem Tidy.feedPort : Tidy s (t.feedPort p) := by
  unfold State.feedPort
  split
  · exact h.createFeed
  · exact h

theorem Tidy.createPrintLoad : Tidy s t.createPrintLoad := by
  unfold State.createPrintLoad
  dsimp only
  split
  · exact h
  · exact h.createRequest

theorem Tidy.servePort : Tidy s (t.servePort p) := by
  unfold State.servePort
  dsimp only
  split
  · exact h
  · split
    · split
      · exact .frame h rfl rfl rfl
      · exact h
    · split
      · exact h.issue
      · exact h
    · split
      · exact .frame h rfl rfl rfl
      · exact h
    · split
      · exact .frame h rfl rfl rfl
      · exact h
    · exact h

theorem Tidy.pruneRequests : Tidy s t.pruneRequests := h.frame rfl rfl rfl

theorem Tidy.settleTransport : Tidy s t.settleTransport := by
  have hcreated := (h.pruneRequests.foldl (l := numbers 16) (f := State.createUnload)
    fun u _ => (Tidy.refl u).createUnload).foldl (l := numbers 16) (f := State.feedPort) fun u _ => (Tidy.refl u).feedPort
  have hserved := hcreated.createPrintLoad.foldl (l := numbers 16) (f := State.servePort) fun u _ => (Tidy.refl u).servePort
  exact hserved.arbitrate

/-! ## Homing, the gripper and the bin sensors -/

theorem Tidy.inventoryPlace : Tidy s (t.inventoryPlace q b) := by
  unfold State.inventoryPlace
  split
  · split
    · exact h.foundOrphan
    · exact h
  · split
    · split
      · exact h.createRecover
      · exact h
    · refine .lose ?_
      split
      · exact h.platterLost
      · exact h

theorem Tidy.readGripper : Tidy s t.readGripper := by
  unfold State.readGripper
  split
  · exact h.foundOrphan
  · exact h
  · exact h.createRecover
  · exact h.lose

theorem Tidy.homed : Tidy s t.homed :=
  .raise (.modTransport (.modTransport (.readGripper
    (.inventoryPlace (.foldl h fun u _ => (Tidy.refl u).inventoryPlace)))))

theorem Tidy.homingFailed : Tidy s t.homingFailed := .armFault h.modTransport

theorem Tidy.gripperIdle : Tidy s (t.gripperIdle b) := by
  have hidle : Tidy s (match t.disc .arm, b with
      | some _, false =>
        let u := t.lose .arm .dropped false
        if t.transport.state = .fault then u else u.armFault .dropped none
      | none, true => (t.createOrphan .arm).createRecover .arm
      | _, _ => t) := by
    split
    · dsimp only
      split
      · exact h.lose
      · exact .armFault h.lose
    · exact h.foundOrphan
    · exact h
  unfold State.gripperIdle
  split
  · exact h
  · exact h
  all_goals exact hidle

theorem Tidy.gripperChanges : Tidy s (t.gripperChanges b) := by
  unfold State.gripperChanges
  split
  · exact h
  · have hlevel : ∀ {f : Sensors → Sensors}, Tidy s (t.modSensors f) := .frame h rfl rfl rfl
    dsimp only
    split
    · exact hlevel.gripperIdle
    · split
      · exact hlevel.drop
      · exact hlevel

theorem Tidy.compareSensor {k : BinSensor} : Tidy s (t.compareSensor k) := by
  unfold State.compareSensor
  dsimp only
  split
  · exact .raise h.modTransport
  · exact h

theorem Tidy.sensorChanges {k : BinSensor} : Tidy s (t.sensorChanges k b) := by
  unfold State.sensorChanges
  split
  · exact h
  · refine .compareSensor ?_
    cases k <;> exact .frame h rfl rfl rfl

theorem Tidy.sensorsAtRelease : Tidy s t.sensorsAtRelease :=
  h.foldl fun t k => by
    split
    · refine .compareSensor ?_
      cases k <;> exact .frame (.refl t) rfl rfl rfl
    · exact .refl t

end

end Sys2Proof.Machine

namespace Sys2Proof.Machine

/-! ## The end of an event, the receiver and the transmitter -/

section
variable {s t : State} (h : Tidy s t) {p : PortId} {j : JobId} {b : Bool}
include h

theorem Tidy.completeJob : Tidy s (t.completeJob j) := by
  unfold State.completeJob
  (repeat' split)
  · exact .raise h.modJob
  · exact .raise h.modJob
  all_goals exact h

theorem Tidy.raiseWaveReady {s0 : State} : Tidy s (State.raiseWaveReady s0 t j) := by
  unfold State.raiseWaveReady
  split
  · exact h.raise
  · exact h

/-- A request of the link adds its entry once, and no answer (R187). -/
theorem Tidy.request {e : OutEntry} (he : e.isAnswer = false) : Tidy s (t.modLink fun l => l.request e) := by
  refine h.trans ⟨id, ?_, fun hnd => ?_, id, id⟩
  · simp only [State.modLink, Link.request, Link.unsent]
    split
    · exact le_refl _
    · simp [he]
  · simp only [State.modLink, Link.request, Link.others] at hnd ⊢
    split
    · exact hnd
    · next hno =>
      rw [List.filter_append, List.filter_singleton, he]
      refine hnd.append (List.nodup_singleton e) (List.disjoint_singleton.mpr fun hm => hno ?_)
      exact List.mem_of_mem_filter hm

theorem Tidy.requestCredit : Tidy s (t.requestCredit j) := h.request rfl

theorem Tidy.outbound {s0 : State} : Tidy s (State.outbound s0 t) := by
  have hcredits : Tidy s ((numbers 4).foldl (fun u j => if creditChanged s0 u j then u.requestCredit j else u) t) :=
    h.foldl fun u j => by
      split
      · exact (Tidy.refl u).requestCredit
      · exact .refl u
  have hnotices := hcredits.foldl (l := causeClasses)
    (f := fun u c => if u.classReady c then u.modLink fun l => l.request (.notice c) else u) fun u c => by
      split
      · exact (Tidy.refl u).request rfl
      · exact .refl u
  unfold State.outbound State.requests
  dsimp only
  split
  · exact h
  · split
    · exact hnotices.request rfl
    · exact hnotices

theorem Tidy.settle {s0 : State} : Tidy s (State.settle s0 t) := by
  have hjobs := h.foldl (l := numbers 4) (f := State.settleJob) fun u _ => (Tidy.refl u).settleJob
  have hdone := hjobs.settleTransport.foldl (l := numbers 4) (f := State.completeJob) fun u _ => (Tidy.refl u).completeJob
  have hraised := hdone.foldl (l := numbers 4) (f := State.raiseWaveReady s0) fun u _ => (Tidy.refl u).raiseWaveReady
  exact hraised.outbound

theorem Tidy.enterSynced : Tidy s t.enterSynced := by
  unfold State.enterSynced
  dsimp only
  have hsynced : Tidy s (t.modLink fun l => { l with receiver := .synced, consecBad := 0, firstSync := false }) :=
    h.frame rfl rfl rfl
  refine .foldl (.clearOutstanding ?_) fun u j => ?_
  · split
    · exact hsynced.raise
    · exact hsynced
  · split
    · exact (Tidy.refl u).requestCredit
    · exact .refl u

theorem Tidy.huntGood : Tidy s t.huntGood := by
  have hcounted : ∀ {g r : Nat}, Tidy s (t.modLink fun l => { l with good := g, run := r }) := .frame h rfl rfl rfl
  unfold State.huntGood
  refine .outbound ?_
  split
  · exact .frame h rfl rfl rfl
  · exact .enterSynced (.frame h rfl rfl rfl)

theorem Tidy.countGood : Tidy s t.countGood := h.frame rfl rfl rfl

theorem Tidy.linkLost : Tidy s t.linkLost := by
  have hlost := h.foldl (l := numbers 4) (f := State.losePass) fun u j => by
    unfold State.losePass
    split
    · exact (Tidy.refl u).abortPass
    · exact .refl u
  exact hlost.modLink List.filter_sublist

theorem Tidy.badFrame : Tidy s t.badFrame := by
  unfold State.badFrame
  split
  · exact .frame h rfl rfl rfl
  · dsimp only
    split
    · exact .frame h rfl rfl rfl
    · exact .linkLost (.frame h rfl rfl rfl)

theorem Tidy.popOut : Tidy s t.popOut := h.lessQueue (List.tail_sublist _) rfl rfl

theorem Tidy.sendAnswer : Tidy s t.sendAnswer := by
  unfold State.sendAnswer
  split
  · next a _ =>
    refine h.popOut.lessQueue ?_ rfl rfl
    simp only [State.modLink, State.sent, State.modLines]
    split
    · exact List.nil_sublist _
    · exact List.Sublist.refl _
  · exact h

theorem Tidy.sendCredit : Tidy s t.sendCredit := by
  unfold State.sendCredit
  split
  · split
    · exact .frame h.popOut rfl rfl rfl
    · exact h.popOut
  · exact h

theorem Tidy.sendNotice : Tidy s t.sendNotice := by
  unfold State.sendNotice
  dsimp only
  split
  · split
    · exact .put (f := NoticeClass.send) h.popOut.modLines id
    · exact h.popOut
  · exact h

theorem Tidy.sendReport : Tidy s t.sendReport := by
  unfold State.sendReport
  split
  · split
    · exact .onReports h.popOut.modLines id fun k => by cases k <;> rfl
    · exact h.popOut
  · exact h

/-! ## Drives -/

theorem Tidy.retry {c : DriveCmd} {r : Nat} {f : State → State} (hf : Tidy s (f t)) : Tidy s (t.retry p c r f) := by
  unfold State.retry
  split
  · exact h.modPort
  · exact hf

theorem Tidy.online : Tidy s (t.online p) := by
  unfold State.online
  split
  · exact .raise h.modPort
  · exact h

theorem Tidy.loseVerify : Tidy s (t.loseVerify p) := .goFaulted h.failBurn

theorem Tidy.identifyResult {c : DriveCmd} {r : Nat} {o : Outcome} {i : IdentifyInfo} :
    Tidy s (State.identifyResult p c r o i t) := by
  unfold State.identifyResult
  dsimp only
  split
  · split
    · unfold State.probed
      dsimp only
      (repeat' split)
      · exact .frame h.online rfl rfl rfl
      · exact .issue h.online
      · exact .goIdle h.online
    · split
      · exact h.goFaulted
      · exact h.retry h.goFaulted
  · split
    · exact .issue (.modPort h.online)
    · split
      · exact h.goFaulted
      · exact h.retry h.goFaulted
  · split
    · exact .readReported h.online
    · split
      · exact h.loseVerify
      · exact h.retry h.loseVerify
  · exact h

theorem Tidy.goChecking : Tidy s (t.goChecking p) := h.frame rfl rfl rfl
theorem Tidy.goClosing : Tidy s (t.goClosing p) := h.frame rfl rfl rfl
theorem Tidy.goProbe : Tidy s (t.goProbe p) := h.frame rfl rfl rfl
theorem Tidy.goRecovery : Tidy s (t.goRecovery p) := h.frame rfl rfl rfl
theorem Tidy.goOpening {e : Errand} : Tidy s (t.goOpening p e) := h.frame rfl rfl rfl

theorem Tidy.endRecovery : Tidy s (t.endRecovery p) := by
  unfold State.endRecovery
  split
  · exact h.goIdle
  · split
    · exact h.goChecking
    · exact h.goDone

theorem Tidy.trayResult {c : DriveCmd} {r : Nat} {o : Outcome} : Tidy s (State.trayResult p c r o t) := by
  have hopened : Tidy s (t.trayOpened p) := by
    unfold State.trayOpened
    split
    · exact h.goClosing
    · exact h.gotoPort
  have hclosed : Tidy s (t.trayClosed p) := by
    unfold State.trayClosed
    split
    · split
      · exact h.goChecking
      · exact h.goIdle
    · exact h.endRecovery
    · exact h.goIdle
    · exact h
  unfold State.trayResult
  (repeat' split)
  · exact hopened
  · exact hclosed
  · exact h.goFaulted
  · exact h.retry h.goFaulted

theorem Tidy.sleepResult {o : Outcome} : Tidy s (State.sleepResult p o t) := by
  unfold State.sleepResult
  (repeat' split)
  · exact h.gotoPort
  · exact h.goFaulted
  · exact h.modPort

theorem Tidy.wakeResult {o : Outcome} : Tidy s (State.wakeResult p o t) := by
  unfold State.wakeResult
  (repeat' split)
  · exact h.goOpening
  · exact h.goIdle
  · exact h.goFaulted
  · exact .frame h rfl rfl rfl

theorem Tidy.blankGood : Tidy s (t.blankGood p) := by
  unfold State.blankGood
  split
  · exact h
  · split
    · exact h.enterLoaded
    · exact .frame h rfl rfl rfl

theorem Tidy.blankScrap {c : FaultCause} : Tidy s (t.blankScrap p c) := h.frame rfl rfl rfl

theorem Tidy.mediaResult {c : DriveCmd} {r : Nat} {o : Outcome} : Tidy s (State.mediaResult p c r o t) := by
  unfold State.mediaResult
  split
  · exact h.blankGood
  · exact h.blankGood
  · exact h.blankScrap
  · exact h.blankScrap
  · exact .goIdle h.lose
  · exact h.goFaulted
  all_goals exact h.retry h.blankScrap

theorem Tidy.writeResult {n : Nat} {o : Outcome} : Tidy s (State.writeResult p n o t) := by
  unfold State.writeResult
  split
  · exact h.writeComplete
  · exact h.writeComplete
  · exact .goDone h.failBurn
  · exact .goDone h.failBurn
  · exact .goDone h.failBurn
  · exact .goDone h.failBurn
  · exact .goDone h.failBurn
  · exact .goDone h.failBurn
  · exact .goFaulted h.failBurn
  · exact .goRecovery h.failBurn

theorem Tidy.finishFails {o : Outcome} : Tidy s (t.finishFails p o) := by
  unfold State.finishFails
  split
  · exact .goDone h.failBurn
  · exact .goFaulted h.failBurn
  · exact .goRecovery h.failBurn
  · exact .goDone h.failBurn

theorem Tidy.syncResult {o : Outcome} : Tidy s (State.syncResult p o t) := by
  unfold State.syncResult
  split
  · exact h.issue
  · exact h.finishFails

theorem Tidy.finaliseResult {o : Outcome} : Tidy s (State.finaliseResult p o t) := by
  unfold State.finaliseResult
  split
  · unfold State.finalised
    dsimp only
    split
    · exact .frame h rfl rfl rfl
    · exact .startVerify (.gotoPort h.modDisc)
  · exact h.finishFails

theorem Tidy.readResult {o : Outcome} : Tidy s (State.readResult p o t) := by
  unfold State.readResult
  split
  · exact h.readReported
  · exact h.readReported
  · exact h.readReported
  · exact h.readReported
  · exact h.readReported
  · exact h.readReported
  · exact h.readReported
  · exact h.readReported
  · exact h.loseVerify
  · exact h.issue

theorem Tidy.result {c : DriveCmd} {r : Nat} {o : Outcome} {i : IdentifyInfo} : Tidy s (State.result p c r o i t) := by
  cases c with
  | identify => exact h.identifyResult
  | openTray => exact h.trayResult
  | closeTray => exact h.trayResult
  | sleep => exact h.sleepResult
  | mediaCheck => exact h.mediaResult
  | writeSegment => exact h.writeResult
  | synchronise => exact h.syncResult
  | finalise => exact h.finaliseResult
  | readBlock => exact h.readResult
  | wake => exact h.wakeResult

theorem Tidy.carried {k : CmdClass} : Tidy s (t.carried p k) := by
  unfold State.carried
  split
  · exact h.modPort
  · exact h

theorem Tidy.answered {c : DriveCmd} {a : Answer} {i : IdentifyInfo} : Tidy s (t.answered p c a i) := by
  unfold State.answered
  dsimp only
  (repeat' split)
  · exact h.modPort
  · exact .frame h rfl rfl rfl
  · exact .result (.modPort h.takeOutcome)

theorem Tidy.timedOut : Tidy s (t.timedOut p) := by
  unfold State.timedOut
  dsimp only
  split
  · exact h
  · exact .result (.modPort h.takeOutcome)

theorem Tidy.linkUp : Tidy s (t.linkUp p) := by
  unfold State.linkUp
  dsimp only
  split
  · exact .goProbe h.modPort
  · exact h.modPort

theorem Tidy.linkDown : Tidy s (t.linkDown p) := by
  unfold State.linkDown
  dsimp only
  split
  · exact h.modPort
  · split
    · exact .modPort h.goOffline
    · refine .modPort (.goFaulted ?_)
      split
      · exact h.failBurn
      · exact h

theorem Tidy.writeSector : Tidy s (t.writeSector p) := by
  unfold State.writeSector
  dsimp only
  split
  · split
    · exact .frame h rfl rfl rfl
    · exact h
  · exact h

theorem Tidy.untilTime {d : Option Nat} : Tidy s (t.until d) := h.frame rfl rfl rfl

theorem Tidy.notReadyReissue : Tidy s (t.notReadyReissue p) := by
  unfold State.notReadyReissue
  dsimp only
  split
  · exact .timedOut h.untilTime
  · exact .frame h rfl rfl rfl

theorem Tidy.sleepPort : Tidy s (t.sleepPort p) := by
  unfold State.sleepPort
  split
  · exact h.issue
  · exact h

end

end Sys2Proof.Machine

namespace Sys2Proof.Machine

/-! ## What a command's own work leaves in room -/

theorem startPass_waveOk (n : Half) : (Pass.start n).waveOk :=
  ⟨List.Pairwise.nil, Nat.zero_le _, Nat.zero_le _, Nat.zero_le _, Nat.zero_le _⟩

section
variable {s t : State} (h : Tidy s t)
include h

theorem Tidy.accept : Tidy s t.accept.1 := h

theorem Tidy.withJob {b : Byte} {f : JobId → State × Result} (hf : ∀ j, Tidy s (f j).1) :
    Tidy s (withJob b t f).1 := by
  unfold Machine.withJob
  split
  · exact h
  · exact hf _

theorem Tidy.withPort {b : Byte} {f : PortId → State × Result} (hf : ∀ p, Tidy s (f p).1) :
    Tidy s (withPort b t f).1 := by
  unfold Machine.withPort
  split
  · exact h
  · exact hf _

theorem Tidy.openJob {b : Byte} {r : Half} : Tidy s (openJob b r t).1 :=
  h.withJob fun j => by
    dsimp only
    (repeat' split)
    · exact h
    · exact h
    · exact h
    · exact .frame h rfl rfl rfl

theorem Tidy.setJob {b : Byte} {x y z : Half} {i g k : Byte} : Tidy s (setJob b x y z i g k t).1 :=
  h.withJob fun j => by
    dsimp only
    (repeat' split)
    · exact h
    · exact h
    · exact h
    · exact h
    · exact h
    · exact h
    · exact .accept h.modJob

theorem Tidy.runJob {b : Byte} : Tidy s (runJob b t).1 :=
  h.withJob fun j => by
    dsimp only
    split
    · exact .accept h.modJob
    · exact h

theorem Tidy.drainJob {b : Byte} : Tidy s (drainJob b t).1 :=
  h.withJob fun j => by
    split
    · exact h.enterDraining
    all_goals exact h

theorem Tidy.haltPort {j : JobId} {p : PortId} : Tidy s (t.haltPort j p) := by
  unfold State.haltPort
  dsimp only
  split
  · exact .goDone (.failBurn h.modPort)
  · exact h

theorem Tidy.enterHalting {j : JobId} : Tidy s (t.enterHalting j) := by
  unfold State.enterHalting
  exact .withdraw (.foldl (.giveUpBlanks (.abortPass h.modJob)) fun u _ => (Tidy.refl u).haltPort)

theorem Tidy.haltJob {b : Byte} : Tidy s (haltJob b t).1 :=
  h.withJob fun j => by
    split
    · exact h.enterHalting
    · exact h.enterHalting
    all_goals exact h

theorem Tidy.closeJob {b : Byte} : Tidy s (closeJob b t).1 :=
  h.withJob fun j => by
    split
    · exact .accept h.modJob
    · exact h

theorem Tidy.loadMap {b : Byte} {es : List ExtentEntry} : Tidy s (loadMap b es t).1 :=
  h.withJob fun j => by
    (repeat' split)
    · exact h
    · exact h
    · exact .accept h.modJob

theorem Tidy.loadProfile {b : Byte} {e : ProfileEntry} : Tidy s (loadProfile b e t).1 := by
  unfold Machine.loadProfile
  (repeat' split)
  · exact h
  · exact h
  · exact h
  · exact .frame h rfl rfl rfl

theorem Tidy.assignPort {b k : Byte} : Tidy s (assignPort b k t).1 := by
  unfold Machine.assignPort
  (repeat' split)
  · exact h
  · exact h
  · exact h
  · exact h
  · exact .frame h rfl rfl rfl

theorem Tidy.loadTiming {e : TimingEntry} : Tidy s (loadTiming e t).1 := by
  have htimed : Tidy s { t with timing := timingOf e } := h.frame rfl rfl rfl
  unfold Machine.loadTiming
  exact .accept (htimed.foldl fun u _ => (Tidy.refl u).sleepPort)

theorem Tidy.setSerial {b : Byte} {w : Word} {st : Half} {k l : Byte} : Tidy s (setSerial b w st k l t).1 :=
  h.withJob fun j => by
    dsimp only
    (repeat' split)
    · exact h
    · exact h
    · exact h
    · exact h
    · exact h
    · exact h
    · exact .accept h.modJob

theorem Tidy.digestReset {b : Byte} : Tidy s (digestReset b t).1 :=
  h.withJob fun j => by
    split
    · exact h
    · exact .accept h.modJob

theorem Tidy.passStart {b : Byte} : Tidy s (passStart b t).1 :=
  h.withJob fun j => by
    (repeat' split)
    · exact h
    · exact h
    · unfold State.startPass State.admitLoaded
      refine .withdraw (.foldl (.setPass h.modJob fun _ x hx => ?_) fun u p => ?_)
      · cases hx
        exact startPass_waveOk _
      · split
        · exact (Tidy.refl u).joinWave
        · exact .refl u

theorem Tidy.passAbort {b : Byte} : Tidy s (passAbort b t).1 :=
  h.withJob fun j => by
    split
    · exact h.abortPass
    · exact h

theorem Tidy.resetPort {p : PortId} : Tidy s (t.resetPort p) := by
  have hburn : Tidy s (if (t.port p).state.burning then t.failBurn p .portReset (t.burnLba p) else t) := by
    split
    · exact h.failBurn
    · exact h
  have hbegun : ∀ {u : State}, Tidy s u →
      Tidy s (if (u.disc (.tray p)).isSome then u.goRecovery p else u.goProbe p) := fun hu => by
    split
    · exact hu.goRecovery
    · exact hu.goProbe
  exact hbegun (.removeRequests hburn.modPort)

theorem Tidy.portReset {b : Byte} : Tidy s (portReset b t).1 :=
  h.withPort fun p => by
    split
    · exact h
    · exact h.resetPort

theorem Tidy.portService {b : Byte} : Tidy s (portService b t).1 :=
  h.withPort fun p => by
    (repeat' split)
    · exact h
    · exact h
    · exact .accept (.modPort h.goOffline)

theorem Tidy.transportHome : Tidy s (transportHome t).1 := by
  unfold Machine.transportHome
  split
  · exact .frame h rfl rfl rfl
  · exact .frame h rfl rfl rfl
  · split
    · exact h
    · exact .frame h rfl rfl rfl
  · exact h
  · exact h

theorem Tidy.transportPause : Tidy s (transportPause t).1 := by
  unfold Machine.transportPause
  split
  · split <;> exact .accept h.modTransport
  all_goals exact h

theorem Tidy.resume : Tidy s t.resume := by
  have hread : ∀ {u : State}, Tidy s u → Tidy s (if u.transport.move.isSome then u else u.readGripper) := fun hu => by
    split
    · exact hu
    · exact hu.readGripper
  exact hread h.modTransport

theorem Tidy.transportResume : Tidy s (transportResume t).1 := by
  unfold Machine.transportResume
  split
  · exact .accept h.modTransport
  · exact h.resume
  · exact h.resume
  · exact h
  · exact h

theorem Tidy.hostMove {x y : Byte} : Tidy s (hostMove x y t).1 := by
  unfold Machine.hostMove
  (repeat' split)
  · exact h
  · exact h
  · exact h
  · exact h
  · exact h
  · exact h
  · exact h.createRequest

theorem Tidy.loadTemplate {b : Byte} {o : Word} {ch : List Byte} : Tidy s (loadTemplate b o ch t).1 := by
  unfold Machine.loadTemplate
  (repeat' split)
  · exact h
  · exact h
  · exact h
  · exact h
  · exact .frame h rfl rfl rfl

theorem Tidy.setTemplate {b : Byte} {i o : Half} {fs : List FieldEntry} : Tidy s (setTemplate b i o fs t).1 := by
  unfold Machine.setTemplate
  dsimp only
  (repeat' split)
  · exact h
  · exact h
  · exact h
  · exact h
  · exact h
  · exact .frame h rfl rfl rfl

theorem Tidy.loadGlyphs {gs : Vector Glyph 16} : Tidy s (loadGlyphs gs t).1 := by
  unfold Machine.loadGlyphs
  split
  · exact h
  · exact .frame h rfl rfl rfl

theorem Tidy.ribbonLoad {n : Half} : Tidy s (ribbonLoad n t).1 := by
  unfold Machine.ribbonLoad
  dsimp only
  split
  · exact .accept (.withdraw (.commitLabel h.modPrinter))
  · exact .accept h.modPrinter

theorem Tidy.printerResume : Tidy s (printerResume t).1 := by
  unfold Machine.printerResume
  (repeat' split)
  · exact h
  · exact h
  · exact .accept h.modPrinter

theorem Tidy.freePass {j : JobId} : Tidy s (t.freePass j) := by
  unfold State.freePass
  split
  · exact h
  · refine .lessQueue (.setPass h.modJob (j := j) (x := none) fun _ x hx => ?_) List.filter_sublist rfl rfl
    cases hx

theorem Tidy.acknowledged {x : Notice} : Tidy s (t.acknowledged x) := by
  unfold State.acknowledged
  split
  · exact h.freePass
  · exact h.freePass
  · exact h.compareSensor
  · exact h.compareSensor
  · exact h.compareSensor
  · exact h.compareSensor
  · exact h

theorem Tidy.ackCause {c : CauseClass} {k : Byte} {o : Half} : Tidy s (ackCause c k o t).1 := by
  unfold Machine.ackCause
  (repeat' split)
  · exact h
  · exact h
  · exact h
  · exact .accept (.acknowledged h.acknowledge)

theorem Tidy.ackReport {k : Byte} {o : Half} : Tidy s (ackReport k o t).1 := by
  unfold Machine.ackReport
  split
  · exact h
  · next r rs hr =>
    (repeat' split)
    · exact h
    · exact h
    · refine .accept (.onReports h (fun ht => ?_) fun k => by cases k <;> rfl)
      show rs.length + (if t.notices.reserved then 1 else 0) ≤ Config.reportRoom
      unfold State.reportsOk at ht
      rw [hr, List.length_cons] at ht
      omega

theorem Tidy.ackNotice {c k : Byte} {o : Half} : Tidy s (ackNotice c k o t).1 := by
  unfold Machine.ackNotice
  split
  · exact h.ackCause
  · exact h.ackCause
  · exact h.ackCause
  · exact h.ackCause
  · exact h.ackCause
  · exact h.ackReport
  · exact h

theorem Tidy.faultClear {b : Byte} : Tidy s (faultClear b t).1 := h.withJob fun _ => .accept h.modJob

theorem Tidy.readObject {hd : CmdHdr} {a : ReadArgs} : Tidy s (readObject hd a t).1 := by
  unfold Machine.readObject
  split
  · exact h
  · split
    · exact h
    · unfold readClear
      (repeat' split)
      · exact h
      · exact .frame h rfl rfl rfl
      · exact .frame h rfl rfl rfl
      · exact h

end

/-! ## Answers (R185): a row keeps every bound -/

/-- What a row keeps: as tidy work does, but that a command's answer may join the queue. -/
structure InRoom (s t : State) : Prop where
  reports : s.reportsOk → t.reportsOk
  queue : s.queueOk → t.queueOk
  notices : s.noticesOk → t.noticesOk
  waves : s.wavesOk → t.wavesOk

theorem Tidy.inRoom {s t : State} (h : Tidy s t) : InRoom s t := ⟨h.reports, h.queueOk, h.notices, h.waves⟩

/-- A row that leaves the notice unit, the outbound queue and the pass records. -/
theorem inRoom_of_eq {s t : State} (hq : t.link.queue = s.link.queue) (hn : t.notices = s.notices)
    (hp : t.passes = s.passes) : InRoom s t :=
  ((Tidy.refl s).frame hq hn hp).inRoom

theorem InRoom.trans {s t u : State} (h : InRoom s t) (g : InRoom t u) : InRoom s u where
  reports hs := g.reports (h.reports hs)
  queue hs := g.queue (h.queue hs)
  notices hs := g.notices (h.notices hs)
  waves hs := g.waves (h.waves hs)

/-- A command's work with its answer, taken while fewer than 8 wait. -/
theorem Tidy.answer {s t : State} (h : Tidy s t) (hroom : s.link.unsent < Config.answerRoom) (a : AnswerEntry) :
    InRoom s (t.answer a) := by
  refine ⟨h.reports, fun hs => ⟨?_, ?_⟩, h.notices, h.waves⟩
  · have hone : (t.answer a).link.unsent = t.link.unsent + 1 := by
      simp only [State.answer, State.modLink, Link.unsent, List.filter_append, List.length_append]
      rfl
    have := h.unsent
    omega
  · have hsame : (t.answer a).link.others = t.link.others := by
      simp only [State.answer, State.modLink, Link.others, List.filter_append]
      exact List.append_nil _
    show (t.answer a).link.others.Nodup
    rw [hsame]
    exact h.others hs.2

section
variable {s : State}

theorem take_inRoom {h : CmdHdr} {n : Nat} {after : After} {perform : State → State × AnswerEntry}
    (hp : ∀ u, Tidy u (perform u).1) : InRoom s (State.take h n after perform s) := by
  unfold State.take
  split
  · exact inRoom_of_eq rfl rfl rfl
  · next hfull =>
    have hroom : s.link.unsent < Config.answerRoom := Nat.lt_of_not_le hfull
    split
    · exact ((Tidy.refl s).answer hroom _).trans (Tidy.outbound (.refl _)).inRoom
    · have hanswered := (hp s).answer hroom (perform s).2
      dsimp only
      split
      · exact hanswered.trans (Tidy.settle (.refl _)).inRoom
      · exact hanswered.trans (Tidy.outbound (.refl _)).inRoom
      · exact hanswered.trans (Tidy.outbound (.refl _)).inRoom

theorem hear_inRoom {f : State → State} (hf : InRoom s (f s.countGood)) : InRoom s (s.hear f) := by
  unfold State.hear
  split
  · exact (Tidy.refl s).inRoom
  · split
    · exact (Tidy.huntGood (.refl s)).inRoom
    · exact hf

theorem heard_inRoom {f : State → State} (hf : ∀ u, InRoom u (f u)) : InRoom s (s.hear f) :=
  hear_inRoom ((Tidy.countGood (.refl s)).inRoom.trans (hf _))

theorem command_inRoom {h : CmdHdr} {n : Nat} {after : After} {perform : State → State × Result}
    (hp : ∀ u, Tidy u (perform u).1) : InRoom s (State.command h n after perform s) :=
  heard_inRoom fun _ => take_inRoom hp

theorem event_inRoom {f : State → State} (hf : Tidy s (f s)) : InRoom s (s.event f) := by
  unfold State.event
  split
  · exact (Tidy.refl s).inRoom
  · exact hf.settle.inRoom

theorem eventIf_inRoom {c : Bool} {f : State → State} (hf : Tidy s (f s)) : InRoom s (s.eventIf c f) := by
  unfold State.eventIf
  split
  · exact event_inRoom hf
  · exact (Tidy.refl s).inRoom

theorem quietIf_inRoom {c : Bool} {f : State → State} (hf : Tidy s (f s)) : InRoom s (s.quietIf c f) := by
  unfold State.quietIf
  split
  · exact (Tidy.refl s).inRoom
  · exact hf.inRoom

theorem driveAnswer_inRoom {p : PortId} {k : CmdClass} {b : Bool} {a : Answer} {i : IdentifyInfo} :
    InRoom s (s.driveAnswer p k b a i) := by
  unfold State.driveAnswer
  dsimp only
  (repeat' split)
  · exact (Tidy.refl s).inRoom
  · exact (Tidy.refl s).inRoom
  · exact event_inRoom (.answered (.carried (.refl s)))

/-- The reset values meet every bound, whatever stood before. -/
theorem resetValues_tidy : Tidy s s.resetValues :=
  ⟨fun _ => reset_reportsOk, Nat.zero_le _, fun _ => List.nodup_nil, fun _ => reset_noticesOk, fun _ => reset_wavesOk⟩

theorem start_tidy {t : State} (h : Tidy s t) : Tidy s t.start := .outbound h.sensorsAtRelease

theorem binSensorRow_inRoom {k : BinSensor} {b : Bool} : InRoom s (s.binSensorRow k b) := by
  unfold State.binSensorRow
  split
  · exact inRoom_of_eq rfl rfl rfl
  · exact event_inRoom (.sensorChanges (.refl s))

end

end Sys2Proof.Machine

namespace Sys2Proof.Machine

/-! ## Every row keeps the queues in room -/

/-- Every row has a next state, which keeps every bound. -/
theorem exec_inRoom (i : Instr) (s : State) : ∃ t, exec i s = .next t ∧ InRoom s t := by
  have hs : Tidy s s := .refl s
  cases i with
  | powerOn =>
    refine ⟨_, rfl, ?_⟩
    split
    · exact resetValues_tidy.inRoom
    · exact (start_tidy resetValues_tidy).inRoom
  | resetPin => exact ⟨_, rfl, (resetValues_tidy (s := s)).inRoom.trans (inRoom_of_eq rfl rfl rfl)⟩
  | resetRelease =>
    refine ⟨_, rfl, ?_⟩
    split
    · have hreleased : Tidy s { s with resetHeld := false } := hs.frame rfl rfl rfl
      exact (start_tidy hreleased).inRoom
    · exact hs.inRoom
  | resetPerformed =>
    refine ⟨_, rfl, ?_⟩
    split
    · exact hs.inRoom
    · have hcleared : Tidy s { s.resetValues with
          link := { Link.reset with receiver := s.link.receiver, firstSync := false } } :=
        resetValues_tidy.frame rfl rfl rfl
      exact (start_tidy hcleared.raise).inRoom
  | jobOpen => exact ⟨_, rfl, command_inRoom fun u => (Tidy.refl u).openJob⟩
  | setJob => exact ⟨_, rfl, command_inRoom fun u => (Tidy.refl u).setJob⟩
  | jobRun => exact ⟨_, rfl, command_inRoom fun u => (Tidy.refl u).runJob⟩
  | jobDrain => exact ⟨_, rfl, command_inRoom fun u => (Tidy.refl u).drainJob⟩
  | jobHalt => exact ⟨_, rfl, command_inRoom fun u => (Tidy.refl u).haltJob⟩
  | jobClose => exact ⟨_, rfl, command_inRoom fun u => (Tidy.refl u).closeJob⟩
  | loadMap => exact ⟨_, rfl, command_inRoom fun u => (Tidy.refl u).loadMap⟩
  | loadProfile => exact ⟨_, rfl, command_inRoom fun u => (Tidy.refl u).loadProfile⟩
  | assignPort => exact ⟨_, rfl, command_inRoom fun u => (Tidy.refl u).assignPort⟩
  | loadTiming => exact ⟨_, rfl, command_inRoom fun u => (Tidy.refl u).loadTiming⟩
  | setSerial => exact ⟨_, rfl, command_inRoom fun u => (Tidy.refl u).setSerial⟩
  | digestReset => exact ⟨_, rfl, command_inRoom fun u => (Tidy.refl u).digestReset⟩
  | passStart => exact ⟨_, rfl, command_inRoom fun u => (Tidy.refl u).passStart⟩
  | passAbort => exact ⟨_, rfl, command_inRoom fun u => (Tidy.refl u).passAbort⟩
  | portReset => exact ⟨_, rfl, command_inRoom fun u => (Tidy.refl u).portReset⟩
  | portService => exact ⟨_, rfl, command_inRoom fun u => (Tidy.refl u).portService⟩
  | transportHome => exact ⟨_, rfl, command_inRoom fun u => (Tidy.refl u).transportHome⟩
  | transportPause => exact ⟨_, rfl, command_inRoom fun u => (Tidy.refl u).transportPause⟩
  | transportResume => exact ⟨_, rfl, command_inRoom fun u => (Tidy.refl u).transportResume⟩
  | hostMove => exact ⟨_, rfl, command_inRoom fun u => (Tidy.refl u).hostMove⟩
  | loadTemplate => exact ⟨_, rfl, command_inRoom fun u => (Tidy.refl u).loadTemplate⟩
  | setTemplate => exact ⟨_, rfl, command_inRoom fun u => (Tidy.refl u).setTemplate⟩
  | loadGlyphs => exact ⟨_, rfl, command_inRoom fun u => (Tidy.refl u).loadGlyphs⟩
  | ribbonLoad => exact ⟨_, rfl, command_inRoom fun u => (Tidy.refl u).ribbonLoad⟩
  | printerResume => exact ⟨_, rfl, command_inRoom fun u => (Tidy.refl u).printerResume⟩
  | ackNotice => exact ⟨_, rfl, command_inRoom fun u => (Tidy.refl u).ackNotice⟩
  | faultClear => exact ⟨_, rfl, command_inRoom fun u => (Tidy.refl u).faultClear⟩
  | read => exact ⟨_, rfl, heard_inRoom fun _ => take_inRoom fun u => (Tidy.refl u).readObject⟩
  | partReset => exact ⟨_, rfl, heard_inRoom fun _ => take_inRoom fun u => (Tidy.refl u).frame rfl rfl rfl⟩
  | unknownCommand => exact ⟨_, rfl, heard_inRoom fun _ => take_inRoom Tidy.refl⟩
  | commandDropped =>
    refine ⟨_, rfl, ?_⟩
    split
    · exact hs.inRoom
    · exact heard_inRoom fun _ => inRoom_of_eq rfl rfl rfl
  | otherKindFrame => exact ⟨_, rfl, heard_inRoom fun u => (Tidy.refl u).inRoom⟩
  | imageFrame => exact ⟨_, rfl, heard_inRoom fun u => (Tidy.refl u).imageFrame.settle.inRoom⟩
  | badFrame => exact ⟨_, rfl, eventIf_inRoom hs.badFrame⟩
  | huntGoodFrame =>
    refine ⟨_, rfl, ?_⟩
    split
    · exact heard_inRoom fun u => (Tidy.refl u).inRoom
    · exact hs.inRoom
  | frameDuringReset => exact ⟨_, rfl, hs.inRoom⟩
  | laneSignalLoss =>
    refine ⟨_, rfl, ?_⟩
    split
    · exact quietIf_inRoom (hs.frame rfl rfl rfl)
    · exact event_inRoom hs.linkLost
  | answerSent => exact ⟨_, rfl, quietIf_inRoom hs.sendAnswer⟩
  | creditSent => exact ⟨_, rfl, quietIf_inRoom hs.sendCredit⟩
  | noticeSent => exact ⟨_, rfl, quietIf_inRoom hs.sendNotice⟩
  | reportSent => exact ⟨_, rfl, quietIf_inRoom hs.sendReport⟩
  | fillSector => exact ⟨_, rfl, eventIf_inRoom hs.fillOne⟩
  | linkUp => exact ⟨_, rfl, eventIf_inRoom hs.linkUp⟩
  | linkDown => exact ⟨_, rfl, event_inRoom hs.linkDown⟩
  | identifyAnswer => exact ⟨_, rfl, driveAnswer_inRoom⟩
  | trayAnswer => exact ⟨_, rfl, driveAnswer_inRoom⟩
  | sleepAnswer => exact ⟨_, rfl, driveAnswer_inRoom⟩
  | wakeAnswer => exact ⟨_, rfl, driveAnswer_inRoom⟩
  | mediaCheckAnswer => exact ⟨_, rfl, driveAnswer_inRoom⟩
  | writeAnswer => exact ⟨_, rfl, driveAnswer_inRoom⟩
  | syncAnswer => exact ⟨_, rfl, driveAnswer_inRoom⟩
  | finaliseAnswer => exact ⟨_, rfl, driveAnswer_inRoom⟩
  | readAnswer => exact ⟨_, rfl, driveAnswer_inRoom⟩
  | endedCommandAnswer => exact ⟨_, rfl, eventIf_inRoom hs.modPort⟩
  | readSector => exact ⟨_, rfl, quietIf_inRoom (hs.frame rfl rfl rfl)⟩
  | writeSectorTransferred => exact ⟨_, rfl, quietIf_inRoom hs.writeSector⟩
  | endingTimeout => exact ⟨_, rfl, eventIf_inRoom (hs.frame rfl rfl rfl)⟩
  | commandTimeout =>
    refine ⟨_, rfl, eventIf_inRoom (.timedOut (.untilTime ?_))⟩
    split
    · exact hs.modPort
    · exact hs
  | notReadyReissue => exact ⟨_, rfl, eventIf_inRoom hs.notReadyReissue⟩
  | dataPhasePause => exact ⟨_, rfl, quietIf_inRoom hs.modPort⟩
  | dataPhaseResume => exact ⟨_, rfl, quietIf_inRoom hs.modPort⟩
  | pauseLimitExpiry => exact ⟨_, rfl, eventIf_inRoom (.timedOut hs.untilTime)⟩
  | standbyIntervalReached => exact ⟨_, rfl, eventIf_inRoom (.sleepPort hs.untilTime)⟩
  | armArrived =>
    refine ⟨_, rfl, eventIf_inRoom ?_⟩
    split
    · exact hs.homed
    · exact hs.arrived
  | armStalled =>
    refine ⟨_, rfl, eventIf_inRoom ?_⟩
    split
    · exact hs.homingFailed
    · exact hs.onMove fun _ => hs.stall
  | travelTimeout => exact ⟨_, rfl, eventIf_inRoom (.onMove hs.untilTime fun _ => .stall hs.untilTime)⟩
  | homingTimeout => exact ⟨_, rfl, eventIf_inRoom (.homingFailed hs.untilTime)⟩
  | gripDone => exact ⟨_, rfl, eventIf_inRoom (hs.onMove fun _ => hs.judgeGrip)⟩
  | gripTimeout => exact ⟨_, rfl, eventIf_inRoom (.onMove hs.untilTime fun _ => .judgeGrip hs.untilTime)⟩
  | releaseDone => exact ⟨_, rfl, eventIf_inRoom (hs.onMove fun _ => hs.judgeRelease)⟩
  | releaseTimeout => exact ⟨_, rfl, eventIf_inRoom (.onMove hs.untilTime fun _ => .judgeRelease hs.untilTime)⟩
  | gripperSensorChange k b =>
    refine ⟨_, rfl, ?_⟩
    cases k with
    | double => exact inRoom_of_eq rfl rfl rfl
    | present =>
      dsimp only
      split
      · exact inRoom_of_eq rfl rfl rfl
      · exact event_inRoom hs.gripperChanges
  | inputBinSensorChange => exact ⟨_, rfl, binSensorRow_inRoom⟩
  | fullSensorChange => exact ⟨_, rfl, binSensorRow_inRoom⟩
  | placeSensorChange =>
    refine ⟨_, rfl, ?_⟩
    split
    · exact inRoom_of_eq rfl rfl rfl
    · exact event_inRoom (hs.frame rfl rfl rfl)
  | printerReady => exact ⟨_, rfl, eventIf_inRoom hs.proceedLabel⟩
  | printRowSent =>
    refine ⟨_, rfl, quietIf_inRoom ?_⟩
    unfold State.sendRow
    split
    · exact hs
    · exact hs.frame rfl rfl rfl
  | printerDone =>
    refine ⟨_, rfl, eventIf_inRoom ?_⟩
    split
    · exact hs.finishPrint
    · exact hs.spoilPrint
  | printerFaultReport => exact ⟨_, rfl, eventIf_inRoom hs.spoilPrint⟩
  | printTimerExpiry => exact ⟨_, rfl, eventIf_inRoom (.spoilPrint hs.untilTime)⟩

/-- A tick of the clock touches no queue; a row keeps every bound. -/
theorem step_inRoom {s t : State} (h : step s = .next t) : InRoom s t := by
  unfold step at h
  split at h
  · cases h
    exact inRoom_of_eq rfl rfl rfl
  · next i rest _ =>
    obtain ⟨u, hexec, hu⟩ := exec_inRoom i { s with pending := rest }
    cases hexec.symm.trans h
    have htaken : InRoom s { s with pending := rest } := inRoom_of_eq rfl rfl rfl
    exact htaken.trans hu

/-- Settles O59: each block's work is tidy, a command is answered only with room for its answer, so every row keeps the
bounds. -/
theorem stepsKeepQueuesInRoom : Obligations.StepsKeepQueuesInRoom := by
  unfold Obligations.StepsKeepQueuesInRoom
  exact ⟨fun s t hr hq h => ⟨(step_inRoom h).reports hr, (step_inRoom h).queue hq⟩,
    fun s t hn h => (step_inRoom h).notices hn, fun s t hw h => (step_inRoom h).waves hw⟩

end Sys2Proof.Machine

namespace Sys2Proof.Machine

/-! ## ACK NOTICE taken (R66, R173, R174, R175) -/

section
variable {s : State} {cls cause : Byte} {obj : Half}

/-- A class byte of a cause class names that class (R173). -/
theorem ackNotice_cause {c : CauseClass} (hc : cls.toNat = c.code) : ackNotice cls cause obj s = ackCause c cause obj s := by
  unfold ackNotice
  rw [hc]
  cases c <;> rfl

/-- The pair removed: no longer pending, no longer outstanding (R174). -/
def State.withoutPair (s : State) (c : CauseClass) (x : Notice) : State :=
  { s with notices := s.notices.put c ⟨(s.notices.get c).set.filter (decide <| · ≠ x), none⟩ }

/-- An acknowledgement that names the outstanding pair removes it and hands it to the block that owns its cause (R174). -/
theorem ackNotice_pair {c : CauseClass} {x : Notice} (hc : cls.toNat = c.code)
    (ho : (s.notices.get c).outstanding = some x) (hcause : cause.toNat = x.cause)
    (hobj : (obj.extractLsb' 0 8).toNat = x.objectCode) :
    ackNotice cls cause obj s = State.accept ((s.withoutPair c x).acknowledged x) := by
  rw [ackNotice_cause hc, ackCause, ho]
  dsimp only
  have hremoved : (s.notices.get c).acknowledge = ⟨(s.notices.get c).set.filter (decide <| · ≠ x), none⟩ := by
    rw [NoticeClass.acknowledge, ho]
  rw [if_neg (not_not.mpr hcause), if_neg (not_not.mpr hobj), State.withoutPair, ← hremoved]
  rfl

/-- A cause that no sensor and no pass record stands behind leaves nothing to do beside its removal. -/
theorem acknowledged_other {x : Notice} (hp : ∀ j, x ≠ .passEnded j ∧ x ≠ .passAborted j)
    (hb : ∀ (k : BinSensor) (v : Bool), x ≠ k.notice v) : s.acknowledged x = s := by
  cases x with
  | passEnded j => exact ((hp j).1 rfl).elim
  | passAborted j => exact ((hp j).2 rfl).elim
  | outputFull o => exact (hb (.full o) true rfl).elim
  | outputCleared o => exact (hb (.full o) false rfl).elim
  | binEmpty i => exact (hb (.input i) true rfl).elim
  | binRefilled i => exact (hb (.input i) false rfl).elim
  | _ => rfl

/-- R66: the job takes the summary, the pass record is freed, the job's waiting CREDIT entry is dropped. -/
theorem freePass_some {j : JobId} {p : Pass} (hp : s.pass j = some p) : s.freePass j = { s with
    jobs := upd s.jobs j { s.job j with
      lastPass := some ⟨p.number, p.cause, p.wave.length, p.finished, p.cut, p.failed⟩ }
    passes := upd s.passes j none
    link := { s.link with queue := s.link.queue.filter fun e => decide (e ≠ .credit j) } } := by
  rw [State.freePass, hp]
  rfl

/-- An acknowledgement that names the outstanding head report removes it (R175). -/
theorem ackNotice_report {r : Report} {rs : List Report} (hc : cls.toNat = 5) (hcause : cause.toNat = 1)
    (hr : s.notices.reports = r :: rs) (ho : s.notices.reportOut = true) (hobj : obj = r.disc.tag) :
    ackNotice cls cause obj s =
      State.accept { s with notices := { s.notices with reports := rs, reportOut := false } } := by
  unfold ackNotice
  rw [hc]
  dsimp only
  rw [ackReport, hr]
  dsimp only
  rw [if_neg (by simp [ho, hcause]), if_neg (not_not.mpr hobj)]
  rfl

end

/-- Settles O15: a pair's removal is followed by its owner's work, which is nothing, or the freeing of the pass record. -/
theorem acknowledgementRemoves : Obligations.AcknowledgementRemoves := by
  intro h cls cause obj s ht hl
  refine ⟨fun c x hc ho hcause hobj hp hb => ?_, fun x j p hc hx ho hcause hobj hp => ?_,
    fun r rs hc hcause hr ho hobj => ?_⟩
  · refine exec_settled ht hl rfl ((ackNotice_pair (s := s.countGood) hc ho hcause hobj).trans ?_)
    rw [acknowledged_other hp hb]
    rfl
  · have hcode : x.objectCode = j.val := by rcases hx with rfl | rfl <;> rfl
    have hfrees : (s.countGood.withoutPair .pass x).acknowledged x = (s.countGood.withoutPair .pass x).freePass j := by
      rcases hx with rfl | rfl <;> rfl
    refine exec_settled ht hl rfl ((ackNotice_pair (s := s.countGood) (c := .pass) hc ho hcause (hobj.trans hcode.symm)).trans ?_)
    rw [hfrees, freePass_some (s := s.countGood.withoutPair .pass x) hp]
    rfl
  · exact exec_settled ht hl rfl (ackNotice_report (s := s.countGood) hc hcause hr ho hobj)

end Sys2Proof.Machine

namespace Sys2Proof.Machine

/-! ## What an abort leaves at an ARMED member's port (R63) -/

section
variable {s : State} {j : JobId} {p : PortId} {m : Member} (c : FaultCause)

/-- A job that drains or halts takes a blank back rather than keeping it LOADED (R6, R8). -/
abbrev Job.givesUp (x : Job) : Prop := x.state = .draining ∨ x.state = .halting

theorem abortMember_bay_givesUp (h : s.memberIn j p = some m) (hm : m.status = .armed) (hs : (s.job j).givesUp) :
    (s.abortMember j c p).bay p = { s.bay p with
      port := (s.port p).retired s.now
      disc := (s.disc (.tray p)).map fun d => { d with pass := none, state := .returning } } := by
  rw [abortMember_armed c h hm]
  dsimp only
  rw [if_pos hs, giveUpBlank_bay_self, bay_modDisc_self, bay_modPass, disc_modDisc_self]
  simp only [Option.map_map]
  rfl

theorem abortMember_bay_loaded (h : s.memberIn j p = some m) (hm : m.status = .armed) (hs : ¬ (s.job j).givesUp) :
    (s.abortMember j c p).bay p = { s.bay p with
      port := (s.port p).goto s.now .loaded
      disc := (s.disc (.tray p)).map fun d => { d with pass := none } } := by
  rw [abortMember_armed c h hm]
  dsimp only
  rw [if_neg hs, State.gotoPort, bay_modPort_self, bay_modDisc_self, bay_modPass]
  rfl

theorem abortMembers_bay_givesUp (h : s.memberIn j p = some m) (hm : m.status = .armed) (hs : (s.job j).givesUp) :
    (s.abortMembers j c).bay p = { s.bay p with
      port := (s.port p).retired s.now
      disc := (s.disc (.tray p)).map fun d => { d with pass := none, state := .returning } } := by
  obtain ⟨t, hw, hb, hmt, hres⟩ := abortMembers_visit s j c p
  have hst : (t.job j).givesUp := by rw [Job.givesUp, hw.state j]; exact hs
  rw [hres, abortMember_bay_givesUp c (hmt.trans h) hm hst, hb, ← bay_port, ← bay_disc, hb, hw.now]
  rfl

theorem abortMembers_bay_loaded (h : s.memberIn j p = some m) (hm : m.status = .armed) (hs : ¬ (s.job j).givesUp) :
    (s.abortMembers j c).bay p = { s.bay p with
      port := (s.port p).goto s.now .loaded
      disc := (s.disc (.tray p)).map fun d => { d with pass := none } } := by
  obtain ⟨t, hw, hb, hmt, hres⟩ := abortMembers_visit s j c p
  have hst : ¬ (t.job j).givesUp := by rw [Job.givesUp, hw.state j]; exact hs
  rw [hres, abortMember_bay_loaded c (hmt.trans h) hm hst, hb, ← bay_port, ← bay_disc, hb, hw.now]
  rfl

end

/-! ## What the abort of a live pass leaves (R62 to R64) -/

section
variable {s : State} {j : JobId} {x : Pass} {n : PortId} {m : Member} (hp : s.pass j = some x) (hl : x.live = true)
  (c : AbortCause) (lba : Option Nat)
include hp

theorem markAborted_memberIn (n : PortId) : (s.markAborted j x.number c lba).memberIn j n = x.member n := by
  rw [markAborted_eq hp, State.memberIn]
  exact (congrArg (Option.bind · (Pass.member · n)) (nth_upd_self _ _ _)).trans (Option.bind_some ..)

theorem markAborted_job : (s.markAborted j x.number c lba).job j = (s.job j).marked x.number c lba := by
  rw [markAborted_eq hp]
  exact nth_upd_self _ _ _

include hl

theorem abortPass_bay (n : PortId) :
    (s.abortPass j c lba).bay n = ((s.markAborted j x.number c lba).abortMembers j c.fault).bay n := by
  rw [abortPass_live hp hl, bay_raise]

theorem abortPass_bay_none (hm : x.member n = none) : (s.abortPass j c lba).bay n = s.bay n := by
  rw [abortPass_bay hp hl, abortMembers_bay_none _ ((markAborted_memberIn hp c lba n).trans hm), markAborted_eq hp]
  rfl

theorem abortPass_bay_loaded (hm : x.member n = some m) (ha : m.status = .armed) (hs : ¬ (s.job j).givesUp) :
    (s.abortPass j c lba).bay n = { s.bay n with
      port := (s.port n).goto s.now .loaded
      disc := (s.disc (.tray n)).map fun d => { d with pass := none } } := by
  have hst : ¬ ((s.markAborted j x.number c lba).job j).givesUp := by rw [markAborted_job hp]; exact hs
  rw [abortPass_bay hp hl, abortMembers_bay_loaded _ ((markAborted_memberIn hp c lba n).trans hm) ha hst, markAborted_eq hp]
  rfl

theorem abortPass_bay_givesUp (hm : x.member n = some m) (ha : m.status = .armed) (hs : (s.job j).givesUp) :
    (s.abortPass j c lba).bay n = { s.bay n with
      port := (s.port n).retired s.now
      disc := (s.disc (.tray n)).map fun d => { d with pass := none, state := .returning } } := by
  have hst : ((s.markAborted j x.number c lba).job j).givesUp := by rw [markAborted_job hp]; exact hs
  rw [abortPass_bay hp hl, abortMembers_bay_givesUp _ ((markAborted_memberIn hp c lba n).trans hm) ha hst, markAborted_eq hp]
  rfl

theorem abortPass_bay_writing (hm : x.member n = some m) (ha : m.status = .writing) :
    (s.abortPass j c lba).bay n = { s.bay n with
      port := (s.port n).stopped s.now s.timing
      disc := (s.disc (.tray n)).map fun d => d.scrap c.fault (some m.written) } := by
  rw [abortPass_bay hp hl, abortMembers_bay_writing _ ((markAborted_memberIn hp c lba n).trans hm) ha, markAborted_eq hp]
  rfl

/-- A digest table that was BUILDING is EMPTY, any other stands (R64). -/
theorem abortPass_digest : ((s.abortPass j c lba).job j).digest =
    if (s.job j).digest = .building then .empty else (s.job j).digest := by
  rw [(abortPass_work hp hl c lba).job j, job_raise, markAborted_job hp]
  rfl

theorem abortPass_notices : (s.abortPass j c lba).notices =
    { s.notices with pass := s.notices.pass.raise (.passAborted j) } := by
  rw [(abortPass_work hp hl c lba).notices, markAborted_eq hp]
  rfl

theorem abortPass_elsewhere {q : Place} (hq : ∀ n, q ≠ .tray n) : (s.abortPass j c lba).disc q = s.disc q := by
  rw [(abortPass_work hp hl c lba).disc q hq, markAborted_eq hp]
  rfl

theorem abortPass_frame : { s.abortPass j c lba with
    jobs := s.jobs, passes := s.passes, ports := s.ports, places := s.places, notices := s.notices } = s := by
  have hverifies : (s.abortPass j c lba).verifies = s.verifies := congrArg Fixed.verifies (abortPass_fixed s j c lba)
  have hframe := (abortPass_work hp hl c lba).frame
  rw [markAborted_eq hp, hverifies] at hframe
  rw [hframe]
  rfl

end

/-! ## PASS ABORT (R62) -/

theorem passAbort_taken {b : Byte} {j : JobId} {s : State} {x : Pass} (hj : b.toNat = j.val) (hp : s.pass j = some x)
    (hl : x.live = true) : passAbort b s = State.accept (s.abortPass j .hostAbort none) := by
  rw [passAbort, withJob_eq hj, hp]
  exact if_pos hl

theorem passAbort_refused {b : Byte} {j : JobId} {s : State} (hj : b.toNat = j.val)
    (h : ∀ x, s.pass j = some x → x.live = false) : passAbort b s = s.refuse .state := by
  rw [passAbort, withJob_eq hj]
  refine if_neg fun hany => ?_
  obtain ⟨x, hp, hl⟩ := (Option.any_eq_true ..).mp hany
  cases (h x hp).symm.trans hl

/-- Settles O31: the abort of the pass, read at each port, in the job, in the notice unit and elsewhere. -/
theorem passAbortTakesWaveDown : Obligations.PassAbortTakesWaveDown := by
  intro h b s j ht hl hj
  refine ⟨fun x hp hlive => ?_, fun hdead => exec_refused ht hl rfl rfl (passAbort_refused (s := s.countGood) hj hdead)⟩
  have hp' : s.countGood.pass j = some x := hp
  obtain ⟨⟨q, hq, hstate, hcause, hnumber, -, hcomp⟩, hothers, -⟩ := abortPass_spec hp' hlive .hostAbort none
  have hdigest := abortPass_digest hp' hlive .hostAbort none
  refine ⟨s.countGood.abortPass j .hostAbort none, q, exec_settled ht hl rfl (passAbort_taken hj hp' hlive), hq, hstate,
    hcause, hnumber, by rw [hcomp], by rw [hcomp], hothers, fun hb => hdigest.trans (if_pos hb),
    fun hb => hdigest.trans (if_neg hb), fun hf => abortPass_fault hp' hlive hf .hostAbort none, ?_, ?_, ?_, ?_,
    fun r hr => abortPass_elsewhere hp' hlive _ _ hr, abortPass_notices hp' hlive _ _, abortPass_frame hp' hlive _ _⟩
  · intro n m hm ha hs
    have hbay := abortPass_bay_loaded hp' hlive .hostAbort none hm ha (by simp [Job.givesUp, hs])
    exact ⟨congrArg Bay.port hbay, congrArg Bay.disc hbay⟩
  · intro n m hm ha hs
    have hbay := abortPass_bay_givesUp hp' hlive .hostAbort none hm ha hs
    exact ⟨congrArg (fun y : Bay => y.port.state) hbay, congrArg Bay.disc hbay⟩
  · intro n m d hm ha hd hc
    have hbay := abortPass_bay_writing hp' hlive .hostAbort none hm ha
    refine ⟨congrArg (fun y : Bay => y.port.state) hbay, ?_, fun k hk hr => ?_⟩
    · refine (congrArg Bay.disc hbay).trans ?_
      rw [disc_countGood, hd, Option.map_some, scrap_fresh hc]
      rfl
    · have hport : (s.countGood.abortPass j .hostAbort none).port n = (s.port n).stopped s.now s.timing :=
        congrArg Bay.port hbay
      rw [hport]
      exact stopped_keeps hk hr s.now s.timing
  · intro n hm
    have hbay := abortPass_bay_none hp' hlive .hostAbort none hm
    exact ⟨congrArg Bay.port hbay, congrArg Bay.disc hbay⟩

end Sys2Proof.Machine

namespace Sys2Proof.Machine

/-! ## An answer taken at a port (R70) -/

/-- The state in which the result of an answer is worked out: the command is no longer in flight. -/
def State.afterAnswer (s : State) (p : PortId) (c : DriveCmd) (a : Answer) : State := s.modPort p fun q => q.took c a

/-- An answer that is owed, other than NOT_READY, is worked out, and every block acts after it. -/
theorem exec_answered {s : State} {p : PortId} {c : DriveCmd} (h : s.owes p c) {a : Answer} (ha : a ≠ .notReady)
    (info : IdentifyInfo) : exec (answerRow p a info c) s = .next (State.settle s (State.result p c (s.port p).retries
      (.answer a) (if c = .identify then info else noInfo) (s.afterAnswer p c a))) :=
  (exec_answerRow s p a info c).trans (congrArg _ (driveAnswer_owed h ha _))

/-- The answer row in a form that is given the result. -/
theorem exec_answered_to {s u : State} {p : PortId} {c : DriveCmd} (h : s.owes p c) {a : Answer} (ha : a ≠ .notReady)
    {info : IdentifyInfo} (hu : State.result p c (s.port p).retries (.answer a) (if c = .identify then info else noInfo)
      (s.afterAnswer p c a) = u) : exec (answerRow p a info c) s = .next (State.settle s u) :=
  (exec_answered h ha info).trans (congrArg (fun t => Host.Outcome.next (State.settle s t)) hu)

/-- The answers that every class but READ takes as GOOD (R70). -/
abbrev fineAnswer (a : Answer) : Prop := a = .good ∨ ∃ k, a = .recovered k

theorem isGood_answer {a : Answer} (h : fineAnswer a) : (Outcome.answer a).isGood = true := by
  rcases h with rfl | ⟨k, rfl⟩ <;> rfl

theorem fine_ready {a : Answer} (h : fineAnswer a) : a ≠ .notReady := by
  rcases h with rfl | ⟨k, rfl⟩ <;> exact (nomatch ·)

/-- Outside IDLE a change of state leaves the idle time held (R77). -/
theorem goto_of_busy {q : Port} (h : q.state ≠ .idle) (now : Nat) (st : PortState) :
    q.goto now st = { q with state := st } := by
  rw [Port.goto, if_neg h]

theorem retired_of_busy {q : Port} (h : q.state ≠ .idle) (now : Nat) :
    q.retired now = { q with state := .done, errand := .none, step := .none } := by
  rw [Port.retired, goto_of_busy h]

section
variable {s : State} {p : PortId} {c : DriveCmd} {a : Answer}

theorem afterAnswer_port : (s.afterAnswer p c a).port p = (s.port p).took c a := port_modPort_self ..

theorem afterAnswer_port_ne {k : PortId} (h : k ≠ p) : (s.afterAnswer p c a).port k = s.port k :=
  congrArg Bay.port (bay_modPort_ne s h _)

theorem modPort_afterAnswer (f : Port → Port) : (s.afterAnswer p c a).modPort p f =
    { s with ports := upd s.ports p (f ((s.port p).took c a)) } := modPort_modPort ..

theorem modPass_some {j : JobId} {x : Pass} (hp : s.pass j = some x) (f : Pass → Pass) :
    s.modPass j f = s.setPass j (some (f x)) := by
  rw [State.modPass, hp]
  rfl

theorem modDisc_some {r : Place} {d : Disc} (hd : s.disc r = some d) (f : Disc → Disc) :
    s.modDisc r f = s.setDisc r (some (f d)) := by
  rw [State.modDisc, hd]
  rfl

/-- The port ends with its disc in a new state: it is DONE, with no errand and no recovery. -/
theorem goDone_afterAnswer {d : Disc} (hd : s.disc (.tray p) = some d) (hq : (s.port p).state ≠ .idle) (f : Disc → Disc) :
    ((s.afterAnswer p c a).modDisc (.tray p) f).goDone p = { s with
      ports := upd s.ports p { (s.port p).took c a with state := .done, errand := .none, step := .none }
      places := upd s.places (Place.tray p).idx (some (f d)) } := by
  have hdisc : (s.afterAnswer p c a).disc (.tray p) = some d := hd
  have hretired := retired_of_busy (q := (s.port p).took c a) hq s.now
  rw [modDisc_some hdisc]
  refine (congrArg (fun t : State => { t with places := upd s.places (Place.tray p).idx (some (f d)) })
    (modPort_afterAnswer (s := s) (c := c) (a := a) (Port.retired s.now))).trans ?_
  rw [hretired]

end

/-! ## A disc that fails at its port (R93) -/

section
variable (s : State) (p : PortId) (c : FaultCause) (l : Option Nat)

theorem failBurn_work : PortWork s (s.failBurn p c l) :=
  (((memberLeaves_work s p .failed).trans (modDisc_work _ p _)).trans (handFault_work _ p c l)).trans
    (setVerify_work _ p none)

theorem failBurn_bay_self : (s.failBurn p c l).bay p =
    { port := s.port p, disc := (s.disc (.tray p)).map fun d => d.scrap c l, verify := none } := by
  rw [State.failBurn, bay_setVerify_self, handFault_bay, bay_modDisc_self, memberLeaves_bay, ← bay_disc, memberLeaves_bay]
  rfl

theorem failBurn_bay_ne {k : PortId} (h : k ≠ p) : (s.failBurn p c l).bay k = s.bay k := by
  rw [State.failBurn, bay_setVerify_ne _ h, handFault_bay, bay_modDisc_ne _ h, memberLeaves_bay]

theorem failBurn_passes : (s.failBurn p c l).passes = (s.memberLeaves p .failed).passes :=
  handFault_passes ..

end

/-! ## Write answers (R54, R55, R56) -/

/-- The pass after one of its members has written `size` sectors of its segment in flight (R55). -/
def Pass.wrote (x : Pass) (p : PortId) (size : Nat) : Pass :=
  x.mapMember p fun m => { m with written := m.written + size, inFlight := none }

/-- The segment that was written is no longer in flight, so leaving the wave as FINISHED need not clear it. -/
theorem leave_wrote (x : Pass) (p : PortId) (size : Nat) : (x.wrote p size).leave p .finished =
    { ((x.wrote p size).mapMember p fun m => { m with status := .finished }) with finished := satInc 16 x.finished } := by
  have hwave : ((x.wrote p size).mapMember p fun m => { m with status := .finished, inFlight := none }).wave =
      ((x.wrote p size).mapMember p fun m => { m with status := .finished }).wave := by
    simp only [Pass.wrote, Pass.mapMember, List.map_map]
    refine List.map_congr_left fun m _ => ?_
    by_cases hm : (decide (m.port = p) && m.live) = true
    · have hlive : (decide (m.port = p) && Member.live { m with written := m.written + size, inFlight := none }) = true :=
        hm
      simp only [Function.comp, if_pos hm, if_pos hlive]
    · simp only [Function.comp, if_neg hm]
  exact congrArg (fun w => { x with wave := w, finished := satInc 16 x.finished }) hwave

section
variable {s : State} {p : PortId} {j : JobId} {x : Pass} {m : Member} {seg : Nat}

/-- A completed write raises the member's W, and the one that reaches L finishes the disc (R55). -/
theorem writeComplete_inFlight (hw : s.waveOf p = some j) (hx : s.pass j = some x) (hm : x.member p = some m)
    (hseg : m.inFlight = some seg) : s.writeComplete p seg =
      if m.written + min 16 ((s.job j).length - 16 * seg) = (s.job j).length then
        ((s.setPass j (some ((x.wrote p (min 16 ((s.job j).length - 16 * seg))).leave p .finished))).gotoPort p
          .finishing).issue p .synchronise
      else s.setPass j (some (x.wrote p (min 16 ((s.job j).length - 16 * seg)))) := by
  have hmember : s.member p = some m := by rw [State.member, hw, Option.bind_some, hx, Option.bind_some, hm]
  rw [State.writeComplete, hw]
  dsimp only
  rw [hmember]
  dsimp only
  rw [if_neg (not_not.mpr hseg), modPass_some hx, modPass_some (pass_setPass_self ..)]
  simp only [State.setPass, upd_upd]
  rfl

/-- The disc of a member that fails leaves the wave as FAILED (R56). -/
theorem memberLeaves_some (hw : s.waveOf p = some j) (hx : s.pass j = some x) (st : MemberStatus) :
    s.memberLeaves p st = s.setPass j (some (x.leave p st)) := by
  rw [State.memberLeaves, hw]
  exact modPass_some hx _

end

end Sys2Proof.Machine

namespace Sys2Proof.Machine

section
variable {s : State} {p : PortId} {a : Answer}

theorem gotoPort_issue_afterAnswer {c : DriveCmd} (hq : (s.port p).state ≠ .idle) (st : PortState) (e : DriveCmd) :
    ((s.afterAnswer p c a).gotoPort p st).issue p e = { s with
      ports := upd s.ports p (Port.issue s.now s.timing e 0 { (s.port p).took c a with state := st }) } := by
  have hgoto := goto_of_busy (q := (s.port p).took c a) hq s.now st
  refine (modPort_modPort ..).trans ((modPort_afterAnswer _).trans ?_)
  exact congrArg (fun q => { s with ports := upd s.ports p (Port.issue s.now s.timing e 0 q) }) hgoto

/-! ## A write that is answered (R55, R56) -/

section
variable {j : JobId} {x : Pass} {m : Member} {seg : Nat}

theorem write_good (ho : s.owes p (.writeSegment seg)) (ha : fineAnswer a) : exec (.writeAnswer p a) s =
    .next (State.settle s ((s.afterAnswer p (.writeSegment seg) a).writeComplete p seg)) := by
  refine exec_answered_to ho (fine_ready ha) (info := noInfo) ?_
  rcases ha with rfl | ⟨k, rfl⟩ <;> rfl

theorem writeComplete_partial (hw : s.waveOf p = some j) (hx : s.pass j = some x) (hm : x.member p = some m)
    (hseg : m.inFlight = some seg) (hlen : m.written + min 16 ((s.job j).length - 16 * seg) ≠ (s.job j).length) :
    (s.afterAnswer p (.writeSegment seg) a).writeComplete p seg = { s with
      ports := upd s.ports p ((s.port p).took (.writeSegment seg) a)
      passes := upd s.passes j (some (x.wrote p (min 16 ((s.job j).length - 16 * seg)))) } :=
  (writeComplete_inFlight (s := s.afterAnswer p (.writeSegment seg) a) hw hx hm hseg).trans (if_neg hlen)

theorem writeComplete_last (hq : (s.port p).state ≠ .idle) (hw : s.waveOf p = some j) (hx : s.pass j = some x)
    (hm : x.member p = some m) (hseg : m.inFlight = some seg)
    (hlen : m.written + min 16 ((s.job j).length - 16 * seg) = (s.job j).length) :
    (s.afterAnswer p (.writeSegment seg) a).writeComplete p seg = { s with
      ports := upd s.ports p (Port.issue s.now s.timing .synchronise 0
        { (s.port p).took (.writeSegment seg) a with state := .finishing })
      passes := upd s.passes j (some ((x.wrote p (min 16 ((s.job j).length - 16 * seg))).leave p .finished)) } :=
  (writeComplete_inFlight (s := s.afterAnswer p (.writeSegment seg) a) hw hx hm hseg).trans ((if_pos hlen).trans
    (congrArg (fun t : State => { t with passes := upd s.passes j (some
      ((x.wrote p (min 16 ((s.job j).length - 16 * seg))).leave p .finished)) })
      (gotoPort_issue_afterAnswer hq .finishing .synchronise)))

end

/-! ## A burn that ends with its disc in SCRAP (R56, R87, R93) -/

/-- The disc fails and its port is DONE. -/
theorem failBurn_goDone_bay {c : DriveCmd} (hq : (s.port p).state ≠ .idle) {d : Disc} (hd : s.disc (.tray p) = some d)
    (hc : d.cause = none) (f : FaultCause) (l : Option Nat) :
    (((s.afterAnswer p c a).failBurn p f l).goDone p).bay p = {
      port := { (s.port p).took c a with state := .done, errand := .none, step := .none }
      disc := some { d with state := .scrap, cause := some f, lba := l }
      verify := none } := by
  have hport : ((s.afterAnswer p c a).failBurn p f l).port p = (s.port p).took c a :=
    (congrArg Bay.port (failBurn_bay_self _ p f l)).trans afterAnswer_port
  have hdisc : (s.afterAnswer p c a).disc (.tray p) = some d := hd
  rw [State.goDone, bay_modPort_self, failBurn_bay_self, hport, hdisc, Option.map_some, scrap_fresh hc]
  have hnow := (failBurn_work (s.afterAnswer p c a) p f l).now
  exact congrArg (Bay.mk · _ _) (retired_of_busy (q := (s.port p).took c a) hq _)

theorem failBurn_pass (f : FaultCause) (l : Option Nat) (k : JobId) :
    (s.failBurn p f l).pass k = (s.memberLeaves p .failed).pass k :=
  congrArg (nth · k) (failBurn_passes s p f l)

theorem write_mediaError {seg : Nat} {l : Option Nat} (ho : s.owes p (.writeSegment seg)) :
    exec (.writeAnswer p (.mediaError l)) s = .next (State.settle s
      (((s.afterAnswer p (.writeSegment seg) (.mediaError l)).failBurn p .writeError
        (some (l.getD (16 * seg)))).goDone p)) :=
  exec_answered_to (a := .mediaError l) ho nofun (info := noInfo) rfl

/-- The member of a failed burn has left its wave and is counted as FAILED (R56). -/
theorem failBurn_left {c : DriveCmd} {j : JobId} {x : Pass} (hw : s.waveOf p = some j) (hx : s.pass j = some x)
    (f : FaultCause) (l : Option Nat) : ((s.afterAnswer p c a).failBurn p f l).pass j = some (x.leave p .failed) := by
  have hleft : (s.afterAnswer p c a).memberLeaves p .failed = (s.afterAnswer p c a).setPass j (some (x.leave p .failed)) :=
    memberLeaves_some (s := s.afterAnswer p c a) hw hx .failed
  rw [failBurn_pass, hleft, pass_setPass_self]

/-! ## Synchronise and finalise (R87, R96) -/

theorem sync_finalises (ho : s.owes p .synchronise) (ha : fineAnswer a) : exec (.syncAnswer p a) s =
    .next (State.settle s { s with
      ports := upd s.ports p (Port.issue s.now s.timing .finalise 0 ((s.port p).took .synchronise a)) }) := by
  refine exec_answered_to ho (fine_ready ha) (info := noInfo) ?_
  exact (if_pos (isGood_answer ha)).trans (modPort_afterAnswer _)

/-- What the profile's mode makes of a finalised disc is decided by the job of its record (R96). -/
theorem finalised_job {d : Disc} {j : JobId} (hd : s.disc (.tray p) = some d) (hj : d.job = some j) : s.finalised p =
    if (s.profile (s.job j).profile).mode = .none then
      (s.modDisc (.tray p) fun d => { d with state := .graded, grade := some .unverified }).goDone p
    else ((s.modDisc (.tray p) fun d => { d with state := .verifying }).gotoPort p .verifying).startVerify p := by
  simp only [State.finalised, hd, hj, Option.bind_some, Option.map_some, Option.getD_some]

section
variable {d : Disc} {j : JobId}

theorem finalise_taken (ho : s.owes p .finalise) (hd : s.disc (.tray p) = some d) (hj : d.job = some j)
    (ha : fineAnswer a) : exec (.finaliseAnswer p a) s = .next (State.settle s
      (if (s.profile (s.job j).profile).mode = .none then
        ((s.afterAnswer p .finalise a).modDisc (.tray p) fun d =>
          { d with state := .graded, grade := some .unverified }).goDone p
      else (((s.afterAnswer p .finalise a).modDisc (.tray p) fun d =>
        { d with state := .verifying }).gotoPort p .verifying).startVerify p)) := by
  refine exec_answered_to ho (fine_ready ha) (info := noInfo) ?_
  exact (if_pos (isGood_answer ha)).trans (finalised_job (s := s.afterAnswer p .finalise a) hd hj)

/-- The context of a verify that has asked for block 0 (R96, R98). -/
def State.firstContext (s : State) (j : JobId) (tag : Half) : Verify :=
  let g := s.profile (s.job j).profile
  { job := j, tag := tag, sampled := decide (g.mode = .sampled), stride := g.stride
    planned := plannedCount (decide (g.mode = .sampled)) g.stride (blockCount (s.job j).length), position := 0
    block := 0, blockLen := blockLength (s.job j).length 0, reissues := 0, crc := 0xFFFFFFFF, received := 0
    lastFailure := none, peak := 0, sum := 0, sectors := 0, blocks := 0 }

theorem startVerify_job (hd : s.disc (.tray p) = some d) (hj : d.job = some j) : s.startVerify p =
    (s.setVerify p (some (s.firstContext j d.tag))).issue p (.readBlock 0 (blockLength (s.job j).length 0)) := by
  simp only [State.startVerify, hd, hj]
  rfl

/-- The verify engine takes the disc over and asks for block 0 (R96, R98). -/
theorem verifying_afterAnswer (hq : (s.port p).state ≠ .idle) (hd : s.disc (.tray p) = some d) (hj : d.job = some j) :
    (((s.afterAnswer p .finalise a).modDisc (.tray p) fun d => { d with state := .verifying }).gotoPort p
      .verifying).startVerify p = { s with
        ports := upd s.ports p (Port.issue s.now s.timing (.readBlock 0 (blockLength (s.job j).length 0)) 0
          { (s.port p).took .finalise a with state := .verifying })
        places := upd s.places (Place.tray p).idx (some { d with state := .verifying })
        verifies := upd s.verifies p (some (s.firstContext j d.tag)) } := by
  have hdisc : (s.afterAnswer p .finalise a).disc (.tray p) = some d := hd
  have hverify : (((s.afterAnswer p .finalise a).setDisc (.tray p) (some { d with state := .verifying })).gotoPort p
    .verifying).disc (.tray p) = some { d with state := .verifying } := disc_setDisc_self ..
  rw [modDisc_some hdisc, startVerify_job hverify hj]
  exact congrArg (fun t : State => { t with
    places := upd s.places (Place.tray p).idx (some { d with state := .verifying })
    verifies := upd s.verifies p (some (s.firstContext j d.tag)) }) (gotoPort_issue_afterAnswer hq .verifying _)

end

/-- A MEDIA_ERROR of synchronise or finalise is a FINISH_ERROR with the LBA of the report (R87). -/
theorem finish_mediaError {c : DriveCmd} (hc : c = .synchronise ∨ c = .finalise) (ho : s.owes p c) (l : Option Nat) :
    exec (answerRow p (.mediaError l) noInfo c) s = .next (State.settle s
      (((s.afterAnswer p c (.mediaError l)).failBurn p .finishError l).goDone p)) := by
  refine (exec_answered ho (by simp) noInfo).trans ?_
  rcases hc with rfl | rfl <;> rfl

end

/-- Settles O40: each answer is taken by the rule of its class. A GOOD write is `writeComplete`; a MEDIA_ERROR is a failed
burn whose port is DONE; the disc of a GOOD finalise is graded or handed to the verify engine. -/
theorem writeAndFinishAnswers : Obligations.WriteAndFinishAnswers := by
  intro s p a
  refine ⟨?write, fun ho ha => sync_finalises ho ha, ?finalise, ?fails⟩
  case write =>
    intro seg j x m ho hq hw hx hm hseg
    have hbusy : (s.port p).state ≠ .idle := by rw [hq]; exact (nomatch ·)
    refine ⟨fun ha hlen => ?_, fun ha hlen => ?_, ?_⟩
    · rw [write_good ho ha, writeComplete_partial hw hx hm hseg hlen]
      rfl
    · rw [write_good ho ha, writeComplete_last hbusy hw hx hm hseg hlen, leave_wrote]
      rfl
    · rintro l d rfl hd hc
      have hbay := failBurn_goDone_bay (a := .mediaError l) (c := .writeSegment seg) hbusy hd hc .writeError
        (some (l.getD (16 * seg)))
      exact ⟨_, x.leave p .failed, write_mediaError ho, congrArg Bay.port hbay, congrArg Bay.disc hbay,
        failBurn_left hw hx .writeError _, member_leave_self x p ⟨nofun, nofun⟩, rfl, rfl⟩
  case finalise =>
    intro d j ho hq hd hj ha
    have hbusy : (s.port p).state ≠ .idle := by rw [hq]; exact (nomatch ·)
    refine ⟨fun hmode => ?_, fun hmode => ?_⟩
    · rw [finalise_taken ho hd hj ha, if_pos hmode, goDone_afterAnswer hd hbusy]
    · rw [finalise_taken ho hd hj ha, if_neg hmode, verifying_afterAnswer hbusy hd hj]
      rfl
  case fails =>
    rintro c d l hcmd ho hq hw hd hc rfl
    have hbusy : (s.port p).state ≠ .idle := by rw [hq]; exact (nomatch ·)
    have hbay := failBurn_goDone_bay (a := .mediaError l) (c := c) hbusy hd hc .finishError l
    have hpasses := failBurn_passes (s.afterAnswer p c (.mediaError l)) p .finishError l
    rw [memberLeaves_none (s := s.afterAnswer p c (.mediaError l)) hw] at hpasses
    exact ⟨_, finish_mediaError hcmd ho l, congrArg Bay.port hbay, congrArg Bay.disc hbay, hpasses⟩

end Sys2Proof.Machine

namespace Sys2Proof.Machine

/-! ## A disc that is lost at its place (R124) -/

/-- A report enters the report queue while it has room (R127). -/
theorem appendReport_room {s : State}
    (h : s.notices.reports.length + (if s.notices.reserved then 1 else 0) < Config.reportRoom) (r : Report) :
    s.appendReport false r = s.modNotices fun n => { n with reports := n.reports ++ [r] } := by
  rw [State.appendReport, if_neg (nomatch ·), if_pos h]

/-- A report changes the report queue, the count of those not reported, and nothing else. -/
theorem appendReport_frame (s : State) (b : Bool) (r : Report) : s.appendReport b r = { s with
    notices := (s.appendReport b r).notices, unreported := (s.appendReport b r).unreported } := by
  by_cases hres : (b && s.notices.reserved) = true
  · rw [State.appendReport, if_pos hres]
    rfl
  · by_cases hroom : s.notices.reports.length + (if s.notices.reserved then 1 else 0) < Config.reportRoom
    · rw [State.appendReport, if_neg hres, if_pos hroom]
      rfl
    · rw [State.appendReport, if_neg hres, if_neg hroom]

/-- The loss of a record: counted in its job, reported, its place free (R124). -/
theorem lose_tray {s : State} {p : PortId} {d : Disc} (hd : s.disc (.tray p) = some d) (c : LossCause) (b : Bool) :
    s.lose (.tray p) c b =
      (((s.countJob d.job fun x => { x with lost := satInc max32 x.lost }).appendReport b
        ⟨{ d with dest := none }, none, some c, some (.tray p)⟩).setDisc (.tray p) none) := by
  rw [State.lose, hd]
  rfl

/-- The job counts a lost disc (R12, R124). -/
def State.countLost (s : State) (j : JobId) : State :=
  s.modJob j fun x => { x with counters := { x.counters with lost := satInc max32 x.counters.lost } }

theorem countLost_counters (s : State) (j : JobId) : ((s.countLost j).job j).counters =
    { (s.job j).counters with lost := satInc max32 (s.job j).counters.lost } := by
  rw [State.countLost, job_modJob_self]

/-- A loss at a port's tray: the job counts it, the report queue takes it, and only that place changes. -/
theorem lose_tray_job {s : State} {p : PortId} {d : Disc} {j : JobId} (hd : s.disc (.tray p) = some d)
    (hj : d.job = some j) (c : LossCause) : ∃ n u, s.lose (.tray p) c false = { s.countLost j with
      places := upd s.places (Place.tray p).idx none, notices := n, unreported := u } ∧
      (s.notices.reports.length + (if s.notices.reserved then 1 else 0) < Config.reportRoom →
        n = { s.notices with
          reports := s.notices.reports ++ [⟨{ d with dest := none }, none, some c, some (.tray p)⟩] } ∧
        u = s.unreported) := by
  have hlose : s.lose (.tray p) c false = ((s.countLost j).appendReport false
      ⟨{ d with dest := none }, none, some c, some (.tray p)⟩).setDisc (.tray p) none := by
    rw [lose_tray hd, hj]
    rfl
  rw [appendReport_frame] at hlose
  refine ⟨_, _, hlose, fun hroom => ?_⟩
  rw [appendReport_room (s := s.countLost j) hroom]
  exact ⟨rfl, rfl⟩

/-! ## A blank is checked (R11, R83) -/

/-- A member entry that has left its wave, in the words of R48. -/
theorem not_live : (fun m : Member => !m.live) = fun m => decide (m.status ≠ .armed ∧ m.status ≠ .writing) := by
  funext m
  simp only [Member.live, ← decide_not, not_or]

section
variable {s : State} {p : PortId} {a : Answer} {n : Nat} {d : Disc} {j : JobId}

/-- The port's disc takes a new state and the port another one; the port's errand stays. -/
theorem gotoPort_afterAnswer {c : DriveCmd} (hd : s.disc (.tray p) = some d) (hq : (s.port p).state ≠ .idle)
    (f : Disc → Disc) (st : PortState) : ((s.afterAnswer p c a).modDisc (.tray p) f).gotoPort p st = { s with
      ports := upd s.ports p { (s.port p).took c a with state := st }
      places := upd s.places (Place.tray p).idx (some (f d)) } := by
  have hdisc : (s.afterAnswer p c a).disc (.tray p) = some d := hd
  have hgoto := goto_of_busy (q := (s.port p).took c a) hq s.now st
  rw [modDisc_some hdisc]
  refine (congrArg (fun t : State => { t with places := upd s.places (Place.tray p).idx (some (f d)) })
    (modPort_afterAnswer (s := s) (c := c) (a := a) (Port.goto s.now st))).trans ?_
  rw [hgoto]

theorem blankGood_job (hd : s.disc (.tray p) = some d) (hj : d.job = some j) :
    s.blankGood p = if (s.job j).state = .running then s.enterLoaded p j else s.giveUpBlank p := by
  rw [State.blankGood, hd, Option.bind_some, hj]

theorem mediaCheck_good (ho : s.owes p (.mediaCheck n)) (ha : fineAnswer a) (hd : s.disc (.tray p) = some d)
    (hj : d.job = some j) : exec (.mediaCheckAnswer p a) s = .next (State.settle s
      (if (s.job j).state = .running then (s.afterAnswer p (.mediaCheck n) a).enterLoaded p j
      else (s.afterAnswer p (.mediaCheck n) a).giveUpBlank p)) := by
  refine exec_answered_to ho (fine_ready ha) (info := noInfo) ?_
  have hgood : State.mediaResult p (.mediaCheck n) (s.port p).retries (.answer a) (s.afterAnswer p (.mediaCheck n) a) =
      (s.afterAnswer p (.mediaCheck n) a).blankGood p := by
    rcases ha with rfl | ⟨k, rfl⟩ <;> rfl
  exact hgood.trans (blankGood_job (s := s.afterAnswer p (.mediaCheck n) a) hd hj)

/-- The state in which a blank that has checked GOOD may join a wave: disc and port are LOADED. -/
def State.loadedAfter (s : State) (p : PortId) (c : DriveCmd) (a : Answer) (d : Disc) : State := { s with
  ports := upd s.ports p { (s.port p).took c a with state := .loaded }
  places := upd s.places (Place.tray p).idx (some { d with state := .loaded }) }

theorem enterLoaded_afterAnswer {c : DriveCmd} (hd : s.disc (.tray p) = some d) (hq : (s.port p).state ≠ .idle) :
    (s.afterAnswer p c a).enterLoaded p j =
      if (s.pass j).any fun x => decide (x.state = .forming) then (s.loadedAfter p c a d).joinWave j p
      else s.loadedAfter p c a d := by
  have hloaded := gotoPort_afterAnswer (a := a) (c := c) hd hq (fun d => { d with state := .loaded }) .loaded
  rw [State.enterLoaded, hloaded]
  rfl

theorem loadedAfter_disc {c : DriveCmd} : (s.loadedAfter p c a d).disc (.tray p) = some { d with state := .loaded } :=
  disc_setDisc_self s (.tray p) _

theorem loadedAfter_port {c : DriveCmd} :
    (s.loadedAfter p c a d).port p = { (s.port p).took c a with state := .loaded } :=
  port_modPort_self s p fun q => { q.took c a with state := .loaded }

theorem loadedAfter_armed {c : DriveCmd} : (s.loadedAfter p c a d).gotoPort p .armed = { s.loadedAfter p c a d with
    ports := upd s.ports p { (s.port p).took c a with state := .armed } } := by
  have hgoto := goto_of_busy (q := { (s.port p).took c a with state := .loaded }) nofun s.now .armed
  rw [State.gotoPort, State.modPort, loadedAfter_port]
  simp only [State.loadedAfter, upd_upd]
  rw [hgoto]

/-- A port of a FORMING pass that is not in the wave joins it as ARMED (R49, R50). -/
theorem joinWave_new {c : DriveCmd} {x : Pass} (hx : s.pass j = some x) (hm : x.member p = none) :
    (s.loadedAfter p c a d).joinWave j p = { s with
      ports := upd s.ports p { (s.port p).took c a with state := .armed }
      places := upd s.places (Place.tray p).idx (some { d with state := .loaded, pass := some x.number })
      passes := upd s.passes j (some { x with wave := insertMember ⟨p, d.tag, 0, none, .armed⟩ x.wave }) } := by
  have hpass : (s.loadedAfter p c a d).pass j = some x := hx
  have hnew : ¬ (x.member p).isSome := by simp [hm]
  have hdisc : ((s.loadedAfter p c a d).setPass j (some { x with
      wave := insertMember ⟨p, d.tag, 0, none, .armed⟩ x.wave })).disc (.tray p) = some { d with state := .loaded } :=
    loadedAfter_disc (c := c) (a := a)
  rw [State.joinWave, loadedAfter_disc, hpass]
  dsimp only
  rw [if_neg hnew, modDisc_some hdisc]
  change (((s.loadedAfter p c a d).gotoPort p .armed).setDisc (.tray p) (some _)).setPass j (some _) = _
  rw [loadedAfter_armed]
  simp only [State.setPass, State.setDisc, State.loadedAfter, upd_upd]

/-- A port that is in the wave is not admitted to it a second time (R48). -/
theorem joinWave_member {c : DriveCmd} {x : Pass} (hx : s.pass j = some x) (hm : x.member p ≠ none) :
    (s.loadedAfter p c a d).joinWave j p = s.loadedAfter p c a d := by
  have hpass : (s.loadedAfter p c a d).pass j = some x := hx
  rw [State.joinWave, loadedAfter_disc, hpass]
  exact if_pos (Option.isSome_iff_ne_none.mpr hm)

/-- The first failure of a record that has neither cause nor LBA leaves the LBA absent (R116, R121). -/
theorem scrap_no_lba (hc : d.cause = none) (hl : d.lba = none) (f : FaultCause) :
    d.scrap f none = { d with state := .scrap, cause := some f } := by
  rw [scrap_fresh hc, ← hl]

theorem blankScrap_afterAnswer {c : DriveCmd} (hd : s.disc (.tray p) = some d) (hc : d.cause = none)
    (hl : d.lba = none) (hq : (s.port p).state ≠ .idle) (f : FaultCause) : (s.afterAnswer p c a).blankScrap p f = { s with
      ports := upd s.ports p { (s.port p).took c a with state := .done, errand := .none, step := .none }
      places := upd s.places (Place.tray p).idx (some { d with state := .scrap, cause := some f }) } := by
  rw [State.blankScrap, goDone_afterAnswer hd hq, scrap_no_lba hc hl]

end

end Sys2Proof.Machine

namespace Sys2Proof.Machine

/-! ## A port that goes to FAULTED at an answer (R90) -/

/-- The state in which a port's answer has been taken; of the rest only the port's own tray, the port's context of a verify
and the work of its job may have changed. -/
structure Answered (s : State) (p : PortId) (c : DriveCmd) (a : Answer) (t : State) : Prop where
  port : t.port p = (s.port p).took c a
  now : t.now = s.now
  notices : t.notices = s.notices
  others : ∀ k, k ≠ p → t.port k = s.port k
  discs : ∀ q, q ≠ .tray p → t.disc q = s.disc q

section
variable {s : State} {p : PortId} {c : DriveCmd} {a : Answer}

theorem afterAnswer_state : ((s.afterAnswer p c a).port p).state = (s.port p).state := by
  rw [afterAnswer_port]
  rfl

theorem answered_afterAnswer : Answered s p c a (s.afterAnswer p c a) where
  port := afterAnswer_port
  now := rfl
  notices := rfl
  others _ hk := afterAnswer_port_ne hk
  discs _ _ := rfl

theorem answered_failBurn (f : FaultCause) (l : Option Nat) : Answered s p c a ((s.afterAnswer p c a).failBurn p f l) where
  port := (congrArg Bay.port (failBurn_bay_self _ p f l)).trans afterAnswer_port
  now := (failBurn_work _ p f l).now
  notices := (failBurn_work _ p f l).notices
  others _ hk := (congrArg Bay.port (failBurn_bay_ne _ p f l hk)).trans (afterAnswer_port_ne hk)
  discs q hq := by
    by_cases h : ∃ k, q = .tray k
    · obtain ⟨k, rfl⟩ := h
      exact congrArg Bay.disc (failBurn_bay_ne (s.afterAnswer p c a) p f l fun hk => hq (congrArg Place.tray hk))
    · exact (failBurn_work (s.afterAnswer p c a) p f l).disc q fun k hk => h ⟨k, hk⟩

/-- What entry to FAULTED at an answer makes of the port, the notices and the other ports and places. -/
def FaultedAt (s : State) (p : PortId) (c : DriveCmd) (a : Answer) (u : State) : Prop :=
  u.port p = { ((s.port p).took c a).goto s.now .faulted with errand := .none, step := .none, announce := true } ∧
  u.notices = { s.notices with port := s.notices.port.raise (.portFaulted p) } ∧
  (∀ k, k ≠ p → u.port k = s.port k) ∧ ∀ q, q ≠ .tray p → u.disc q = s.disc q

/-- FAULTED with no command, errand or recovery, as `State.goFaulted` leaves a port (R90). -/
def Port.enterFaulted (now : Nat) (q : Port) : Port :=
  { q.clearCmd.goto now .faulted with errand := .none, step := .none, announce := true }

/-- Entry to FAULTED from another state (R90). -/
theorem goFaulted_entered {t : State} (h : (t.port p).state ≠ .faulted) : t.goFaulted p =
    ((t.modPort p (Port.enterFaulted t.now)).removeRequests (ReqKind.ofPort p)).raise (.portFaulted p) :=
  if_neg h

theorem faultedAt_goFaulted {t : State} (h : Answered s p c a t) (hq : (s.port p).state ≠ .faulted) :
    FaultedAt s p c a (t.goFaulted p) := by
  have hstate : (t.port p).state ≠ .faulted := by rw [h.port]; exact hq
  have hself : (t.modPort p (Port.enterFaulted t.now)).port p = Port.enterFaulted s.now ((s.port p).took c a) := by
    rw [port_modPort_self, h.port, h.now]
  have hothers (k : PortId) (hk : k ≠ p) : (t.modPort p (Port.enterFaulted t.now)).port k = s.port k :=
    (congrArg Bay.port (bay_modPort_ne t hk _)).trans (h.others k hk)
  rw [goFaulted_entered hstate]
  refine ⟨hself, ?_, hothers, h.discs⟩
  rw [← h.notices]
  rfl

/-- Entry to FAULTED leaves the tray and the port's verify context. -/
theorem goFaulted_disc {t : State} (q : Place) : (t.goFaulted p).disc q = t.disc q := by
  unfold State.goFaulted
  split <;> rfl

theorem goFaulted_verify {t : State} (k : PortId) : (t.goFaulted p).verify k = t.verify k := by
  unfold State.goFaulted
  split <;> rfl

theorem goFaulted_places {t : State} : (t.goFaulted p).places = t.places := by
  unfold State.goFaulted
  split <;> rfl

/-! ## Retries (R71, R75, R82, R83) -/

/-- A failing outcome of a class that the port retries, with the words of R75, R82 and R83. -/
def ErrorAnswer (a : Answer) : Prop := (∃ l, a = .mediaError l) ∨ a = .notBlank ∨ a = .tooSmall ∨ a = .aborted

/-- PROBE, CHECKING or VERIFYING: the states in which a port asks its drive to identify itself. -/
abbrev Port.identifies (q : Port) : Prop := q.state = .probe ∨ q.state = .checking ∨ q.state = .verifying

/-- The device answers the identify as something other than an optical drive (R75). -/
def OtherDevice (info : IdentifyInfo) (a : Answer) : Prop := fineAnswer a ∧ info.optical = false

def IdentifyFails (q : Port) (info : IdentifyInfo) (a : Answer) : Prop :=
  q.identifies ∧ (ErrorAnswer a ∨ a = .noDisc ∨ (OtherDevice info a ∧ q.state ≠ .checking))

/-- The answer fails a command that the port issues again below the retry limit. -/
def Fails (q : Port) (c : DriveCmd) (info : IdentifyInfo) (a : Answer) : Prop :=
  (c = .identify ∧ IdentifyFails q info a) ∨ ((c = .openTray ∨ c = .closeTray) ∧ ErrorAnswer a) ∨
    ((∃ n, c = .mediaCheck n) ∧ ((∃ l, a = .mediaError l) ∨ a = .aborted))

/-- What the retry limit decides (R75, R82, R83, R88). -/
def State.giveUpCommand (s : State) (p : PortId) : DriveCmd → State
  | .identify => if (s.port p).state = .verifying then s.loseVerify p else s.goFaulted p
  | .mediaCheck _ => s.blankScrap p .checkError
  | _ => s.goFaulted p

theorem errorAnswer_outcome {a : Answer} (h : ErrorAnswer a) : a ≠ .notReady ∧ (Outcome.answer a).isGood = false ∧
    (Outcome.answer a).isTrayGood = false ∧ (Outcome.answer a).isHardware = false := by
  rcases h with ⟨l, rfl⟩ | rfl | rfl | rfl <;> exact ⟨nofun, rfl, rfl, rfl⟩

theorem otherDevice_outcome {info : IdentifyInfo} (h : OtherDevice info a) :
    a ≠ .notReady ∧ ((Outcome.answer a).isGood && info.optical) = false ∧ (Outcome.answer a).isHardware = false := by
  obtain ⟨hfine, hoptical⟩ := h
  refine ⟨fine_ready hfine, by rw [hoptical, Bool.and_false], ?_⟩
  rcases hfine with rfl | ⟨k, rfl⟩ <;> rfl

theorem identifyFails_outcome {q : Port} {info : IdentifyInfo} (h : IdentifyFails q info a) : a ≠ .notReady ∧
    ((Outcome.answer a).isGood && info.optical) = false ∧ (Outcome.answer a).isHardware = false ∧
    (q.state = .checking → (Outcome.answer a).isGood = false) := by
  obtain ⟨-, herr | rfl | ⟨hother, hstate⟩⟩ := h
  · obtain ⟨hready, hgood, -, hhard⟩ := errorAnswer_outcome herr
    exact ⟨hready, by rw [hgood, Bool.false_and], hhard, fun _ => hgood⟩
  · exact ⟨nofun, rfl, rfl, fun _ => rfl⟩
  · obtain ⟨hready, hgood, hhard⟩ := otherDevice_outcome hother
    exact ⟨hready, hgood, hhard, fun hchecking => absurd hchecking hstate⟩

theorem fails_ready {q : Port} {info : IdentifyInfo} (h : Fails q c info a) : a ≠ .notReady := by
  rcases h with ⟨-, h⟩ | ⟨-, h⟩ | ⟨-, ⟨l, rfl⟩ | rfl⟩
  · exact (identifyFails_outcome h).1
  · exact (errorAnswer_outcome h).1
  · exact nofun
  · exact nofun

/-- The same command is issued again with the next retry count while that is within the limit (R71). -/
def State.retryOr (s : State) (p : PortId) (c : DriveCmd) (r : Nat) : State :=
  if r < s.timing.retry then s.modPort p (Port.issue s.now s.timing c (r + 1)) else s.giveUpCommand p c

theorem identifyResult_fails {info : IdentifyInfo} {r : Nat} (h : IdentifyFails (s.port p) info a) :
    s.identifyResult p .identify r (.answer a) info = s.retryOr p .identify r := by
  obtain ⟨-, hgood, hhard, hchecking⟩ := identifyFails_outcome h
  obtain ⟨hstate | hstate | hstate, -⟩ := h
  all_goals
    simp only [State.identifyResult, State.retryOr, State.giveUpCommand, State.retry, hstate, hgood, hhard]
    simp [hchecking, hstate]

theorem result_fails {info : IdentifyInfo} {r : Nat} (h : Fails (s.port p) c info a) :
    State.result p c r (.answer a) (if c = .identify then info else noInfo) s = s.retryOr p c r := by
  rcases h with ⟨rfl, h⟩ | ⟨hc, h⟩ | ⟨⟨n, rfl⟩, ⟨l, rfl⟩ | rfl⟩
  · exact identifyResult_fails h
  · obtain ⟨-, -, htray, hhard⟩ := errorAnswer_outcome h
    rcases hc with rfl | rfl <;>
      exact (if_neg (ne_true_of_eq_false htray)).trans (if_neg (ne_true_of_eq_false hhard))
  · rfl
  · rfl

end

end Sys2Proof.Machine

namespace Sys2Proof.Machine

/-! ## HARDWARE (R75, R82, R83, R85, R87, R88, R90) -/

section
variable {s : State} {p : PortId} {c : DriveCmd} {a : Answer} {info : IdentifyInfo}

/-- HARDWARE takes the port to FAULTED, a burn that it ends having failed first (R90, R93). -/
theorem result_hardware {r : Nat} (h : c = .identify → (s.port p).identifies) (i : IdentifyInfo) :
    ∃ t, Answered s p c .hardware t ∧
      State.result p c r (.answer .hardware) i (s.afterAnswer p c .hardware) = t.goFaulted p := by
  cases c with
  | identify =>
    have hport : ((s.afterAnswer p .identify .hardware).port p).state = (s.port p).state := afterAnswer_state
    rcases h rfl with hstate | hstate | hstate
    · exact ⟨_, answered_afterAnswer, by simp only [State.result, State.identifyResult, hport, hstate]; rfl⟩
    · exact ⟨_, answered_afterAnswer, by simp only [State.result, State.identifyResult, hport, hstate]; rfl⟩
    · exact ⟨_, answered_failBurn .driveFault none, by
        simp only [State.result, State.identifyResult, hport, hstate]; rfl⟩
  | openTray | closeTray | sleep | wake | mediaCheck n => exact ⟨_, answered_afterAnswer, rfl⟩
  | writeSegment seg => exact ⟨_, answered_failBurn .driveFault (some (16 * seg)), rfl⟩
  | synchronise | finalise | readBlock l n => exact ⟨_, answered_failBurn .driveFault none, rfl⟩

/-- A verify that its drive takes out of the engine's hands: the disc is SCRAP, the port FAULTED (R88, R110). -/
theorem loseVerify_afterAnswer {d : Disc} (hd : s.disc (.tray p) = some d) (hc : d.cause = none)
    (hq : (s.port p).state ≠ .faulted) : FaultedAt s p c a ((s.afterAnswer p c a).loseVerify p) ∧
      ((s.afterAnswer p c a).loseVerify p).verify p = none ∧
      ((s.afterAnswer p c a).loseVerify p).disc (.tray p) = some { d with
        state := .scrap, cause := some .driveFault, lba := none } := by
  have hbay := failBurn_bay_self (s.afterAnswer p c a) p .driveFault none
  have hdisc : (s.afterAnswer p c a).disc (.tray p) = some d := hd
  rw [hdisc, Option.map_some, scrap_fresh hc] at hbay
  exact ⟨faultedAt_goFaulted (answered_failBurn ..) hq, (goFaulted_verify p).trans (congrArg Bay.verify hbay),
    (goFaulted_disc _).trans (congrArg Bay.disc hbay)⟩

/-- The wait before a NOT_READY reissue (R71). -/
theorem notReadyWait_eq (k : CmdClass) : k.notReadyWait = if k = .write then 100 else 500 := by
  cases k <;> rfl

theorem exec_notReady (ho : s.owes p c) : exec (answerRow p .notReady info c) s = .next (State.settle s { s with
    ports := upd s.ports p { s.port p with
      lastOutcome := some (c.cls, .answer .notReady), reissueAt := some (s.now + if c.cls = .write then 100 else 500)
      answerDue := none, transferred := 0, paused := false, pauseDue := none, answerHeld := none } }) := by
  rw [exec_answerRow, driveAnswer_notReady ho, ← notReadyWait_eq]
  rfl

theorem exec_fails (ho : s.owes p c) (h : Fails (s.port p) c info a) : exec (answerRow p a info c) s =
    .next (State.settle s ((s.afterAnswer p c a).retryOr p c (s.port p).retries)) := by
  have hport : (s.afterAnswer p c a).port p = (s.port p).took c a := afterAnswer_port
  have hfails : Fails ((s.afterAnswer p c a).port p) c info a := by rw [hport]; exact h
  exact exec_answered_to ho (fails_ready h) (result_fails hfails)

theorem exec_reissues (ho : s.owes p c) (h : Fails (s.port p) c info a) (hr : (s.port p).retries < s.timing.retry) :
    exec (answerRow p a info c) s = .next (State.settle s { s with
      ports := upd s.ports p (Port.issue s.now s.timing c ((s.port p).retries + 1) ((s.port p).took c a)) }) := by
  have hretry : (s.afterAnswer p c a).retryOr p c (s.port p).retries = (s.afterAnswer p c a).modPort p
      (Port.issue s.now s.timing c ((s.port p).retries + 1)) := if_pos hr
  rw [exec_fails ho h, hretry, modPort_afterAnswer]

theorem exec_spent (ho : s.owes p c) (h : Fails (s.port p) c info a) (hr : s.timing.retry ≤ (s.port p).retries) :
    exec (answerRow p a info c) s = .next (State.settle s ((s.afterAnswer p c a).giveUpCommand p c)) := by
  have hspent : (s.afterAnswer p c a).retryOr p c (s.port p).retries = (s.afterAnswer p c a).giveUpCommand p c :=
    if_neg (Nat.not_lt.mpr hr)
  rw [exec_fails ho h, hspent]

/-- At the retry limit an identify outside VERIFYING and a tray command take the port to FAULTED. -/
theorem giveUpCommand_faults {t : State} (h : (c = .identify ∧ (t.port p).state ≠ .verifying) ∨ c = .openTray ∨
    c = .closeTray) : t.giveUpCommand p c = t.goFaulted p := by
  rcases h with ⟨rfl, hq⟩ | rfl | rfl
  · exact if_neg hq
  · rfl
  · rfl

/-- In CHECKING another kind of device is not asked again (R89). -/
theorem exec_otherDevice (ho : s.owes p .identify) (hq : (s.port p).state = .checking) (h : OtherDevice info a) :
    exec (answerRow p a info .identify) s = .next (State.settle s ((s.afterAnswer p .identify a).goFaulted p)) := by
  obtain ⟨hready, -⟩ := otherDevice_outcome h
  have hport : ((s.afterAnswer p .identify a).port p).state = .checking := afterAnswer_state.trans hq
  refine exec_answered_to ho hready ?_
  simp [State.result, State.identifyResult, hport, h.2, isGood_answer h.1]

theorem exec_verifyLost (ho : s.owes p .identify) (hq : (s.port p).state = .verifying)
    (h : a = .hardware ∨ (Fails (s.port p) .identify info a ∧ s.timing.retry ≤ (s.port p).retries)) :
    exec (answerRow p a info .identify) s = .next (State.settle s ((s.afterAnswer p .identify a).loseVerify p)) := by
  have hport : ((s.afterAnswer p .identify a).port p).state = .verifying := afterAnswer_state.trans hq
  rcases h with rfl | ⟨hfails, hr⟩
  · refine exec_answered_to (a := .hardware) ho nofun ?_
    simp only [State.result, State.identifyResult, hport]
    rfl
  · rw [exec_spent ho hfails hr, State.giveUpCommand, if_pos hport]

end

/-! ## The media check's answers -/

section
variable {s : State} {p : PortId} {n : Nat} {d : Disc}

theorem mediaCheck_scraps (ho : s.owes p (.mediaCheck n)) (hd : s.disc (.tray p) = some d) (hc : d.cause = none)
    (hl : d.lba = none) (hq : (s.port p).state ≠ .idle) {a : Answer} {f : FaultCause}
    (h : (a = .notBlank ∧ f = .notBlank) ∨ (a = .tooSmall ∧ f = .tooSmall)) :
    exec (.mediaCheckAnswer p a) s = .next (State.settle s { s with
      ports := upd s.ports p { (s.port p).took (.mediaCheck n) a with state := .done, errand := .none, step := .none }
      places := upd s.places (Place.tray p).idx (some { d with state := .scrap, cause := some f }) }) := by
  rw [← blankScrap_afterAnswer hd hc hl hq]
  rcases h with ⟨rfl, rfl⟩ | ⟨rfl, rfl⟩
  · exact exec_answered_to (a := .notBlank) ho nofun (info := noInfo) rfl
  · exact exec_answered_to (a := .tooSmall) ho nofun (info := noInfo) rfl

theorem mediaCheck_noDisc (ho : s.owes p (.mediaCheck n)) : exec (.mediaCheckAnswer p .noDisc) s =
    .next (State.settle s (((s.afterAnswer p (.mediaCheck n) .noDisc).lose (.tray p) .noDisc false).goIdle p)) :=
  exec_answered_to (a := .noDisc) ho nofun (info := noInfo) rfl

end

/-- Settles O39: the media check's answers by the branches of `mediaResult`; for the other answers, below the retry limit
the command is issued again, and what the limit or HARDWARE decides is entry to FAULTED from the state after the answer. -/
theorem mediaChecksAndRetries : Obligations.MediaChecksAndRetries := by
  refine ⟨?check, ?answers⟩
  case check =>
    intro s p n a d j ho hq hd hj hc hl
    have hbusy : (s.port p).state ≠ .idle := by rw [hq]; exact nofun
    refine ⟨fun ha => ⟨fun hrun hforming => ?_, fun x hrun hx hforming => ⟨fun hm => ?_, fun hm => ?_⟩,
      fun hrun => ?_⟩, fun ha => ?_, fun ha => ?_, ?noDisc⟩
    · have hnone : ¬ (s.pass j).any (fun x => decide (x.state = .forming)) := by
        cases hx : s.pass j with
        | none => exact nofun
        | some x => simpa using hforming x hx
      rw [mediaCheck_good ho ha hd hj, if_pos hrun, enterLoaded_afterAnswer hd hbusy, if_neg hnone]
      rfl
    · have hany : (s.pass j).any (fun x => decide (x.state = .forming)) := by simp [hx, hforming]
      rw [mediaCheck_good ho ha hd hj, if_pos hrun, enterLoaded_afterAnswer hd hbusy, if_pos hany, joinWave_new hx hm,
        insertMember, makeRoom, not_live]
      rfl
    · have hany : (s.pass j).any (fun x => decide (x.state = .forming)) := by simp [hx, hforming]
      rw [mediaCheck_good ho ha hd hj, if_pos hrun, enterLoaded_afterAnswer hd hbusy, if_pos hany, joinWave_member hx hm]
      rfl
    · rw [mediaCheck_good ho ha hd hj, if_neg hrun, State.giveUpBlank, goDone_afterAnswer hd hbusy]
    · exact mediaCheck_scraps ho hd hc hl hbusy (.inl ⟨ha, rfl⟩)
    · exact mediaCheck_scraps ho hd hc hl hbusy (.inr ⟨ha, rfl⟩)
    case noDisc =>
      rintro rfl
      obtain ⟨notices, unreported, hlose, hroom⟩ :=
        lose_tray_job (s := s.afterAnswer p (.mediaCheck n) .noDisc) hd hj .noDisc
      refine ⟨_, mediaCheck_noDisc ho, ?_, ?_, fun r hr => ?_, ?_, fun h => ?_⟩ <;> rw [hlose]
      · exact (port_modPort_self _ p _).trans (congrArg (Port.goIdle s.now) afterAnswer_port)
      · exact disc_setDisc_self s (.tray p) none
      · exact (disc_setDisc s (.tray p) r none).trans (if_neg hr)
      · exact countLost_counters s j
      · exact hroom h
  case answers =>
    intro s p c info ho
    refine ⟨exec_notReady ho, fun a h hr => exec_reissues ho h hr, fun a h hq => ?faults, ?verify, ?checkError,
      fun h hq => ?hardware⟩
    case faults =>
      refine ⟨(s.afterAnswer p c a).goFaulted p, ⟨?_, faultedAt_goFaulted answered_afterAnswer hq⟩, goFaulted_places⟩
      rcases h with ⟨hfails, hr, hcmd⟩ | ⟨rfl, hstate, hother⟩
      · have hport : ((s.afterAnswer p c a).port p).state = (s.port p).state := afterAnswer_state
        rw [exec_spent ho hfails hr, giveUpCommand_faults (by rwa [hport])]
      · exact exec_otherDevice ho hstate hother
    case verify =>
      rintro a d rfl hq hd hc h
      have hstate : (s.port p).state ≠ .faulted := by rw [hq]; exact nofun
      obtain ⟨hfaulted, hverify, hdisc⟩ := loseVerify_afterAnswer (c := .identify) (a := a) hd hc hstate
      exact ⟨_, ⟨exec_verifyLost ho hq h, hfaulted⟩, hverify, hdisc⟩
    case checkError =>
      rintro a n d rfl hfails hr hd hc hl hq
      have hbusy : (s.port p).state ≠ .idle := by rw [hq]; exact nofun
      rw [exec_spent ho hfails hr, State.giveUpCommand, blankScrap_afterAnswer hd hc hl hbusy]
    case hardware =>
      obtain ⟨t, ht, hresult⟩ := result_hardware (r := (s.port p).retries) h (if c = .identify then info else noInfo)
      obtain ⟨hport, hfaulted⟩ := faultedAt_goFaulted ht hq
      refine ⟨_, exec_answered_to (a := .hardware) ho nofun hresult, ?_, ?_, ?_, hfaulted⟩ <;> rw [hport] <;> rfl

end Sys2Proof.Machine

namespace Sys2Proof.Machine

/-! ## Changes of a port's context under the queue and the notices -/

section
variable (s : State) (p : PortId)

theorem modPort_raise (x : Notice) (f : Port → Port) : (s.raise x).modPort p f = (s.modPort p f).raise x := rfl

theorem modPort_removeRequests (g : ReqKind → Bool) (f : Port → Port) :
    (s.removeRequests g).modPort p f = (s.modPort p f).removeRequests g := rfl

theorem modPort_issue (f : Port → Port) (c : DriveCmd) :
    (s.modPort p f).issue p c = s.modPort p fun q => Port.issue s.now s.timing c 0 (f q) := modPort_modPort ..

theorem setVerify_issue (x : Option Verify) (c : DriveCmd) :
    (s.setVerify p x).issue p c = { s.issue p c with verifies := upd s.verifies p x } := rfl

theorem port_modPort_ne {k : PortId} (h : k ≠ p) (f : Port → Port) : (s.modPort p f).port k = s.port k :=
  congrArg Bay.port (bay_modPort_ne s h f)

end

/-- No granted FEED move has the port. -/
theorem not_granted_feedFor {s : State} {p : PortId} (h : ∀ m j, s.transport.move = some m → m.req.kind ≠ .feed p j) :
    s.granted (ReqKind.isFeedFor p) = false := by
  rw [← Bool.not_eq_true, granted_isFeedFor]
  rintro ⟨m, hm, j, hk⟩
  exact h m j hm hk

/-! ## Entry to a state, whatever the port was doing (R74, R75, R89, R92) -/

/-- OFFLINE with no command, errand or recovery, its ONLINE due, as `State.goOffline` leaves a port (R74, R92). -/
def Port.enterOffline (now : Nat) (q : Port) : Port :=
  { q.clearCmd with
    state := .offline, errand := .none, step := .none, announce := true, idleHeld := q.idleTime now }

section
variable (s : State) (p : PortId)

theorem goOffline_eq : s.goOffline p =
    if (s.port p).state = .offline then (s.modPort p (Port.enterOffline s.now)).removeRequests (ReqKind.isFeedFor p)
    else ((s.modPort p (Port.enterOffline s.now)).removeRequests (ReqKind.isFeedFor p)).raise (.portOffline p) := rfl

theorem goProbe_eq : s.goProbe p = s.modPort p fun q => Port.issue s.now s.timing .identify 0
    { q with state := .probe, errand := .none, step := .none, idleHeld := q.idleTime s.now } :=
  modPort_issue ..

theorem goRecovery_eq : s.goRecovery p = s.modPort p fun q => Port.issue s.now s.timing .identify 0
    { q with state := .checking, errand := .none, step := .identify, idleHeld := q.idleTime s.now } :=
  modPort_issue ..

end

/-- While the link is being reset a command waits for it (log 5). -/
theorem issue_resetting {q : Port} (h : q.resetting = true) (now : Nat) (t : Timing) (c : DriveCmd) (r : Nat) :
    q.issue now t c r = { q.clearCmd with afterReset := some c, retries := r } := if_pos h

theorem issue_up {q : Port} (h : q.resetting = false) (now : Nat) (t : Timing) (c : DriveCmd) (r : Nat) :
    q.issue now t c r = { q.clearCmd with
      cmd := some c, retries := r, firstIssue := some now, answerDue := some (now + t.timeout c.cls) } :=
  if_neg (by simp [h])

/-- A port enters FAULTED with the context `f` gives it: its requests go and PORT FAULTED is raised (R90). -/
def State.faulting (s : State) (p : PortId) (f : Port → Port) : State :=
  ((s.modPort p f).removeRequests (ReqKind.ofPort p)).raise (.portFaulted p)

section
variable {s : State} {p : PortId} {f : Port → Port}

theorem faulting_port : (s.faulting p f).port p = f (s.port p) := port_modPort_self s p f

theorem faulting_port_ne {k : PortId} (h : k ≠ p) : (s.faulting p f).port k = s.port k := port_modPort_ne s p h f

theorem faulting_disc (q : Place) : (s.faulting p f).disc q = s.disc q := rfl

theorem faulting_verify (k : PortId) : (s.faulting p f).verify k = s.verify k := rfl

theorem faulting_notices : (s.faulting p f).notices =
    { s.notices with port := s.notices.port.raise (.portFaulted p) } := rfl

theorem faulting_transport : (s.faulting p f).transport =
    { s.transport with queue := s.transport.queue.filter fun r => !r.kind.ofPort p } := rfl

theorem faulting_frame : { s.faulting p f with
    ports := s.ports, transport := s.transport, notices := s.notices } = s := rfl

theorem modPort_faulting (g : Port → Port) : (s.faulting p f).modPort p g = s.faulting p fun q => g (f q) := by
  rw [State.faulting, modPort_raise, modPort_removeRequests, modPort_modPort]
  rfl

end

/-! ## A burn that its port ends (R93) -/

/-- The disc of a burning port fails for the port's own reason; another port's disc stands (R74, R91, R93). -/
def State.burnFails (s : State) (p : PortId) (c : FaultCause) : State :=
  if (s.port p).state.burning then s.failBurn p c (s.burnLba p) else s

section
variable {s : State} {p : PortId} {c : FaultCause}

theorem burnFails_calm (h : (s.port p).state.burning = false) : s.burnFails p c = s := if_neg (by simp [h])

theorem burnFails_burning (h : (s.port p).state.burning = true) : s.burnFails p c = s.failBurn p c (s.burnLba p) :=
  if_pos h

theorem burnFails_work : PortWork s (s.burnFails p c) := by
  unfold State.burnFails
  split
  · exact failBurn_work s p c _
  · exact PortWork.refl s

theorem burnFails_transport : (s.burnFails p c).transport = s.transport := by rw [burnFails_work.frame]

theorem burnFails_port (k : PortId) : (s.burnFails p c).port k = s.port k := by
  unfold State.burnFails
  split
  · by_cases hk : k = p
    · subst hk
      exact congrArg Bay.port (failBurn_bay_self ..)
    · exact congrArg Bay.port (failBurn_bay_ne s p c _ hk)
  · rfl

theorem burnFails_isSome : ((s.burnFails p c).disc (.tray p)).isSome = (s.disc (.tray p)).isSome := by
  unfold State.burnFails
  split
  · exact (congrArg (fun b : Bay => b.disc.isSome) (failBurn_bay_self ..)).trans Option.isSome_map
  · rfl

theorem burnFails_verify (h : (s.port p).state.burning = true) : (s.burnFails p c).verify p = none := by
  rw [burnFails_burning h]
  exact congrArg Bay.verify (failBurn_bay_self ..)

theorem burnFails_disc (h : (s.port p).state.burning = true) {d : Disc} (hd : s.disc (.tray p) = some d)
    (hc : d.cause = none) : (s.burnFails p c).disc (.tray p) = some { d with
      state := .scrap, cause := some c, lba := (s.member p).map Member.written } := by
  rw [burnFails_burning h]
  refine (congrArg Bay.disc (failBurn_bay_self ..)).trans ?_
  rw [hd, Option.map_some, scrap_fresh hc]
  rfl

/-- The member of a burn that fails has left its wave and is counted as FAILED (R56, R93). -/
theorem burnFails_pass (h : (s.port p).state.burning = true) {j : JobId} {x : Pass} (hw : s.waveOf p = some j)
    (hx : s.pass j = some x) : (s.burnFails p c).pass j = some (x.leave p .failed) := by
  rw [burnFails_burning h, failBurn_pass, memberLeaves_some hw hx, pass_setPass_self]

end

/-! ## The link comes up or goes down (R74) -/

theorem linkBack_none {q : Port} (h : q.afterReset = none) (now : Nat) (t : Timing) :
    q.linkBack now t = { q with link := true, resetting := false } := by
  simp only [Port.linkBack, h]

theorem linkBack_some {q : Port} {c : DriveCmd} (h : q.afterReset = some c) (now : Nat) (t : Timing) :
    q.linkBack now t = { q.clearCmd with
      link := true, resetting := false, cmd := some c, firstIssue := some now
      answerDue := some (now + t.timeout c.cls) } := by
  simp only [Port.linkBack, h]
  rfl

/-- The identify of PROBE replaces whatever a link that comes up in OFFLINE has carried on with. -/
theorem linkBack_probe {q : Port} (h : q.state = .offline) (now : Nat) (t : Timing) :
    Port.issue now t .identify 0 { q.linkBack now t with
      state := .probe, errand := .none, step := .none, idleHeld := (q.linkBack now t).idleTime now } =
    { q.clearCmd with
      link := true, resetting := false, state := .probe, errand := .none, step := .none, cmd := some .identify
      retries := 0, firstIssue := some now, answerDue := some (now + 100 * t.probe) } := by
  cases hc : q.afterReset with
  | none =>
    rw [linkBack_none hc, issue_up rfl]
    simp [Port.idleTime, h, Port.clearCmd, Timing.timeout, tenths, DriveCmd.cls]
  | some c =>
    rw [linkBack_some hc, issue_up rfl]
    simp [Port.idleTime, h, Port.clearCmd, Timing.timeout, tenths, DriveCmd.cls]

/-- A link that goes down takes its port to OFFLINE or FAULTED with the link neither up nor being reset. -/
def Port.down (q : Port) : Port := { q with link := false, resetting := false }

section
variable {s : State} {p : PortId}

theorem linkUp_offline (h : (s.port p).state = .offline) :
    s.linkUp p = s.modPort p fun q => Port.issue s.now s.timing .identify 0 { q.linkBack s.now s.timing with
      state := .probe, errand := .none, step := .none, idleHeld := (q.linkBack s.now s.timing).idleTime s.now } :=
  (if_pos h).trans ((goProbe_eq ..).trans (modPort_modPort ..))

theorem linkUp_other (h : (s.port p).state ≠ .offline) :
    s.linkUp p = s.modPort p (Port.linkBack s.now s.timing) := if_neg h

theorem linkDown_stands (h : (s.port p).state = .offline ∨ (s.port p).state = .faulted) :
    s.linkDown p = s.modPort p fun q => { q with link := false } := if_pos h

theorem linkDown_offline (h : ¬ ((s.port p).state = .offline ∨ (s.port p).state = .faulted))
    (hd : s.downToOffline p = true) : s.linkDown p =
      ((s.modPort p fun q => (q.enterOffline s.now).down).removeRequests (ReqKind.isFeedFor p)).raise
        (.portOffline p) := by
  have hoff : ¬ (s.port p).state = .offline := fun e => h (.inl e)
  refine (if_neg h).trans ((if_pos hd).trans ?_)
  rw [goOffline_eq, if_neg hoff, modPort_raise, modPort_removeRequests, modPort_modPort]
  rfl

theorem linkDown_faulted (h : ¬ ((s.port p).state = .offline ∨ (s.port p).state = .faulted))
    (hd : ¬ s.downToOffline p = true) : s.linkDown p =
      (s.burnFails p .driveFault).faulting p fun q => (q.enterFaulted s.now).down := by
  have hstate : ((s.burnFails p .driveFault).port p).state ≠ .faulted := by
    rw [burnFails_port]; exact fun e => h (.inr e)
  refine (if_neg h).trans ((if_neg hd).trans ?_)
  change ((s.burnFails p .driveFault).goFaulted p).modPort p Port.down = _
  rw [goFaulted_entered hstate, burnFails_work.now]
  exact modPort_faulting _

theorem downToOffline_iff : s.downToOffline p = true ↔ (s.port p).state = .probe ∨ (s.port p).state = .idle ∨
    (s.port p).state = .standby ∨ (((s.port p).state = .opening ∨ (s.port p).state = .trayOpen ∨
      (s.port p).state = .closing) ∧ s.disc (.tray p) = none ∧ s.granted (ReqKind.isFeedFor p) = false) := by
  unfold State.downToOffline
  cases h : (s.port p).state <;> simp

end

/-- Settles O36: a link that comes up carries on with what waited, in OFFLINE with the identify of PROBE; the states from
which a link goes down to OFFLINE are those of `downToOffline`, and from the rest the port's burn fails before it faults. -/
theorem linkUpAndDown : Obligations.LinkUpAndDown := by
  intro s p hr
  have up (hhold : (s.port p).state = .offline → (s.port p).hold = false) :
      exec (.linkUp p) s = .next (State.settle s (s.linkUp p)) :=
    congrArg Host.Outcome.next (eventIf_run hr (by simpa [or_iff_not_imp_left] using hhold) _)
  have down : exec (.linkDown p) s = .next (State.settle s (s.linkDown p)) :=
    congrArg Host.Outcome.next (event_run hr _)
  refine ⟨fun hq hhold => ?_, fun hq hhold => ?_, fun hq hc => ?_, fun c hq hc => ?_, fun hq => ?_, fun hq => ?_,
    fun hq htray => ?_⟩
  · rw [up fun _ => hhold, linkUp_offline hq, State.modPort, linkBack_probe hq]
  · exact congrArg Host.Outcome.next (if_neg (by simp [hq, hhold]))
  · rw [up fun h => absurd h hq, linkUp_other hq, State.modPort, linkBack_none hc]
  · rw [up fun h => absurd h hq, linkUp_other hq, State.modPort, linkBack_some hc]
  · rw [down, linkDown_stands hq]
    rfl
  · have hoffline : s.downToOffline p = true := downToOffline_iff.mpr
      (hq.imp id (Or.imp id (Or.imp id fun ⟨hst, hd, hm⟩ => ⟨hst, hd, not_granted_feedFor hm⟩)))
    have hnot : ¬ ((s.port p).state = .offline ∨ (s.port p).state = .faulted) := by
      rintro (h | h) <;> simp [h] at hq
    rw [down, linkDown_offline hnot hoffline]
    rfl
  · simp only [List.mem_cons, List.not_mem_nil, or_false, not_or] at hq
    obtain ⟨hoffline, hprobe, hidle, hstandby, hfaulted⟩ := hq
    have hnot : ¬ ((s.port p).state = .offline ∨ (s.port p).state = .faulted) := not_or.mpr ⟨hoffline, hfaulted⟩
    have hfaults : ¬ s.downToOffline p = true := by
      rw [downToOffline_iff]
      rintro (h | h | h | ⟨hst, hd, hm⟩)
      · exact hprobe h
      · exact hidle h
      · exact hstandby h
      · rcases htray with h | h | ⟨m, j, hmove, hk⟩
        · exact h (by simpa using hst)
        · exact absurd h (by simp [hd])
        · exact absurd (granted_feedFor hmove hk) (by simp [hm])
    refine ⟨s.linkDown p, down, ?_⟩
    rw [linkDown_faulted hnot hfaults]
    refine ⟨?_, fun k hk => (faulting_port_ne hk).trans (burnFails_port k), ?_, ?_, fun hb => ?_,
      fun hb => ⟨(faulting_verify p).trans (burnFails_verify hb),
        fun d hd hc => (faulting_disc _).trans (burnFails_disc hb hd hc)⟩⟩
    · rw [faulting_port, burnFails_port, Port.enterFaulted, goto_of_busy (q := (s.port p).clearCmd) hidle]
      rfl
    · rw [faulting_notices, burnFails_work.notices]
    · rw [faulting_transport, burnFails_transport]
    · rw [burnFails_calm hb, faulting_frame]

end Sys2Proof.Machine

namespace Sys2Proof.Machine

/-! ## PORT RESET (R91) -/

/-- A port's context at a link reset that a PORT RESET begins. -/
def Port.resetLink (q : Port) : Port := { q.linkReset with hold := false, retries := 0, errand := .none }

/-- The identify with which a port starts again over a record (`true`: CHECKING at IDENTIFY) or an empty tray (PROBE). -/
def Port.restarted (now : Nat) (record : Bool) (q : Port) : Port :=
  { q.resetLink with
    afterReset := some .identify, state := if record then .checking else .probe
    step := if record then .identify else .none, idleHeld := q.idleTime now }

/-- The state that PORT RESET leaves: the burn failed, the requests gone, the identify waiting for the link. -/
def State.restartPort (s : State) (p : PortId) : State :=
  ((s.burnFails p .portReset).modPort p
    (Port.restarted (s.burnFails p .portReset).now (s.disc (.tray p)).isSome)).removeRequests (ReqKind.ofPort p)

section
variable {s : State} {p : PortId}

theorem resetPort_eq : s.resetPort p = s.restartPort p := by
  have hreset : s.resetPort p =
      if ((s.burnFails p .portReset).disc (.tray p)).isSome then
        (((s.burnFails p .portReset).modPort p Port.resetLink).removeRequests (ReqKind.ofPort p)).goRecovery p
      else (((s.burnFails p .portReset).modPort p Port.resetLink).removeRequests (ReqKind.ofPort p)).goProbe p := rfl
  rw [hreset, burnFails_isSome, State.restartPort]
  cases (s.disc (.tray p)).isSome with
  | true =>
    rw [if_pos rfl, goRecovery_eq, modPort_removeRequests, modPort_modPort]
    rfl
  | false =>
    rw [if_neg nofun, goProbe_eq, modPort_removeRequests, modPort_modPort]
    rfl

theorem restartPort_port : (s.restartPort p).port p = (s.port p).restarted s.now (s.disc (.tray p)).isSome := by
  refine (port_modPort_self ..).trans ?_
  rw [burnFails_port, burnFails_work.now]

theorem restartPort_port_ne {k : PortId} (h : k ≠ p) : (s.restartPort p).port k = s.port k :=
  (port_modPort_ne _ p h _).trans (burnFails_port k)

theorem restartPort_transport : (s.restartPort p).transport =
    { s.transport with queue := s.transport.queue.filter fun r => !r.kind.ofPort p } := by
  rw [← burnFails_transport (s := s) (p := p) (c := .portReset)]
  rfl

theorem restartPort_calm (h : (s.port p).state.burning = false) :
    { s.restartPort p with ports := s.ports, transport := s.transport } = s := by
  rw [State.restartPort, burnFails_calm h]
  rfl

/-- Records, verify contexts and passes are as the failure of the burn leaves them. -/
theorem restartPort_places : (s.restartPort p).places = (s.burnFails p .portReset).places := rfl

theorem restartPort_verifies : (s.restartPort p).verifies = (s.burnFails p .portReset).verifies := rfl

theorem restartPort_passes : (s.restartPort p).passes = (s.burnFails p .portReset).passes := rfl

section
variable (h : (s.port p).state.burning = true)
include h

theorem restartPort_verify : (s.restartPort p).verify p = none := by
  rw [State.verify, restartPort_verifies]
  exact burnFails_verify h

theorem restartPort_disc {d : Disc} (hd : s.disc (.tray p) = some d) (hc : d.cause = none) :
    (s.restartPort p).disc (.tray p) = some { d with
      state := .scrap, cause := some .portReset, lba := (s.member p).map Member.written } := by
  rw [State.disc, restartPort_places]
  exact burnFails_disc h hd hc

theorem restartPort_pass {j : JobId} {x : Pass} (hw : s.waveOf p = some j) (hx : s.pass j = some x) :
    (s.restartPort p).pass j = some (x.leave p .failed) := by
  rw [State.pass, restartPort_passes]
  exact burnFails_pass h hw hx

end

/-- No granted move has the port's tray ahead of it, or its disc still in the tray. -/
theorem not_armAtTray (h : ∀ m, s.transport.move = some m → m.dest ≠ .tray p ∧
    (m.source = .place (.tray p) → m.phase ≠ .toSource ∧ m.phase ≠ .grip)) : s.armAtTray p = false := by
  rw [← Bool.not_eq_true]
  intro harm
  obtain ⟨m, hm, hat⟩ := (Option.any_eq_true _ _).mp harm
  obtain ⟨hdest, hsource⟩ := h m hm
  simp only [Move.beforeGrip, Bool.or_eq_true, Bool.and_eq_true, decide_eq_true_eq] at hat
  rcases hat with hat | ⟨hplace, hphase⟩
  · exact hdest hat
  · exact hphase.elim (hsource hplace).1 (hsource hplace).2

theorem portReset_taken {b : Byte} (hb : b.toNat = p.val) (h : s.armAtTray p = false) :
    portReset b s = (s.restartPort p).accept := by
  rw [portReset, withPort_eq hb, ← resetPort_eq]
  exact if_neg (by simp [h])

/-! ## PORT SERVICE (R92) -/

theorem serviceable_iff : s.serviceable p = true ↔ ((s.port p).state = .offline ∨ (s.port p).state = .probe ∨
    (s.port p).state = .idle ∨ (s.port p).state = .standby) ∨
      ((s.port p).state = .faulted ∧ s.disc (.tray p) = none) := by
  unfold State.serviceable
  cases h : (s.port p).state <;> simp

/-- The context of a port held down by PORT SERVICE. -/
def Port.held (now : Nat) (q : Port) : Port :=
  { q.enterOffline now with hold := true, link := false, resetting := false }

/-- The state that PORT SERVICE leaves, its notice apart. -/
def State.holdDown (s : State) (p : PortId) : State :=
  (s.modPort p (Port.held s.now)).removeRequests (ReqKind.isFeedFor p)

theorem portService_taken {b : Byte} (hb : b.toNat = p.val) (hs : s.serviceable p = true)
    (hg : s.granted (ReqKind.isFeedFor p) = false) : portService b s = State.accept
      (if (s.port p).state = .offline then s.holdDown p else (s.holdDown p).raise (.portOffline p)) := by
  rw [portService, withPort_eq hb, if_neg (by simp [hs]), if_neg (by simp [hg]), goOffline_eq]
  refine congrArg State.accept ?_
  split
  · rw [modPort_removeRequests, modPort_modPort]
    rfl
  · rw [modPort_raise, modPort_removeRequests, modPort_modPort]
    rfl

theorem portService_refused {b : Byte} (hb : b.toNat = p.val) (hs : ¬ s.serviceable p = true) :
    portService b s = s.refuse .state := by
  rw [portService, withPort_eq hb]
  exact if_pos (by simpa using hs)

end

/-- Settles O35: PORT RESET leaves `restartPort`, whose burn has failed where one was under way; PORT SERVICE leaves
`holdDown`, or is refused outside the states of `serviceable`. -/
theorem portResetAndService : Obligations.PortResetAndService := by
  intro h b s p ht hl hb
  refine ⟨fun hmove => ?_, fun hq hmove => ?_, fun hq => ?_⟩
  · have htaken := portReset_taken (s := s.countGood) hb (not_armAtTray (s := s.countGood) hmove)
    refine ⟨s.countGood.restartPort p, exec_settled (c := .portReset h b) ht hl rfl htaken,
      restartPort_port (s := s.countGood), fun k hk => restartPort_port_ne (s := s.countGood) hk,
      restartPort_transport (s := s.countGood), restartPort_calm (s := s.countGood), fun hburn =>
      ⟨restartPort_verify (s := s.countGood) hburn, fun d hd hc => restartPort_disc (s := s.countGood) hburn hd hc,
        fun j x m hw hx hm => ⟨x.leave p .failed, restartPort_pass (s := s.countGood) hburn hw hx,
          member_leave_self x p ⟨nofun, nofun⟩, rfl, rfl⟩⟩⟩
  · have hg := not_granted_feedFor (s := s.countGood) (p := p) hmove
    exact exec_settled (c := .portService h b) ht hl rfl
      (portService_taken (s := s.countGood) hb (serviceable_iff.mpr hq) hg)
  · have hrefused : ¬ s.serviceable p = true := by
      rw [serviceable_iff]
      rintro (hserved | ⟨hfaulted, hnone⟩) <;> rcases hq with hq | ⟨hq, hsome⟩
      · exact hq (by rcases hserved with e | e | e | e <;> simp [e])
      · simp [hq] at hserved
      · exact hq (by simp [hfaulted])
      · simp [hnone] at hsome
    exact exec_refused (c := .portService h b) ht hl rfl rfl (portService_refused (s := s.countGood) hb hrefused)

end Sys2Proof.Machine

namespace Sys2Proof.Machine

/-! ## A busy port's next state after an answer (R77 to R82, R89) -/

section
variable {s : State} {p : PortId} {c : DriveCmd} {a : Answer}

/-- A port outside IDLE changes its state and then its context by `g`: its idle time is not touched. -/
theorem enter_afterAnswer (hq : (s.port p).state ≠ .idle) (st : PortState) (g : Port → Port) :
    (s.afterAnswer p c a).modPort p (fun q => g (q.goto s.now st)) = { s with
      ports := upd s.ports p (g { (s.port p).took c a with state := st }) } := by
  rw [modPort_afterAnswer, goto_of_busy (q := (s.port p).took c a) hq]

theorem gotoPort_after (hq : (s.port p).state ≠ .idle) (st : PortState) : (s.afterAnswer p c a).gotoPort p st = { s with
    ports := upd s.ports p { (s.port p).took c a with state := st } } :=
  enter_afterAnswer hq st id

theorem goIdle_after : (s.afterAnswer p c a).goIdle p = { s with
    ports := upd s.ports p { (s.port p).took c a with
      state := .idle, errand := .none, step := .none, idleSince := s.now, idleHeld := 0 } } :=
  modPort_afterAnswer (Port.goIdle s.now)

theorem goDone_after (hq : (s.port p).state ≠ .idle) : (s.afterAnswer p c a).goDone p = { s with
    ports := upd s.ports p { (s.port p).took c a with state := .done, errand := .none, step := .none } } :=
  enter_afterAnswer hq .done fun q => { q with errand := .none, step := .none }

theorem goClosing_after (hq : (s.port p).state ≠ .idle) : (s.afterAnswer p c a).goClosing p = { s with
    ports := upd s.ports p (Port.issue s.now s.timing .closeTray 0 { (s.port p).took c a with state := .closing }) } :=
  gotoPort_issue_afterAnswer hq .closing .closeTray

theorem goOpening_after (hq : (s.port p).state ≠ .idle) (e : Errand) : (s.afterAnswer p c a).goOpening p e = { s with
    ports := upd s.ports p (Port.issue s.now s.timing .openTray 0
      { (s.port p).took c a with state := .opening, errand := e }) } :=
  (modPort_modPort ..).trans (enter_afterAnswer hq .opening fun q =>
    Port.issue s.now s.timing .openTray 0 { q with errand := e })

theorem goChecking_after (hq : (s.port p).state ≠ .idle) {d : Disc} (hd : s.disc (.tray p) = some d) :
    (s.afterAnswer p c a).goChecking p = { s with
      ports := upd s.ports p (Port.issue s.now s.timing
        (.mediaCheck ((d.job.map fun j => (s.job j).length).getD 0)) 0
        { (s.port p).took c a with state := .checking, errand := .none, step := .none }) } := by
  have hlen : ((s.afterAnswer p c a).disc (.tray p)).bind Disc.job = d.job := congrArg (Option.bind · Disc.job) hd
  rw [State.goChecking, hlen]
  exact (modPort_modPort ..).trans (enter_afterAnswer hq .checking fun q => Port.issue s.now s.timing
    (.mediaCheck ((d.job.map fun j => (s.job j).length).getD 0)) 0 { q with errand := .none, step := .none })

theorem goProbe_after (hq : (s.port p).state ≠ .idle) : (s.afterAnswer p c a).goProbe p = { s with
    ports := upd s.ports p (Port.issue s.now s.timing .identify 0
      { (s.port p).took c a with state := .probe, errand := .none, step := .none }) } :=
  (modPort_modPort ..).trans (enter_afterAnswer hq .probe fun q =>
    Port.issue s.now s.timing .identify 0 { q with errand := .none, step := .none })

end

/-! ## Tray answers (R79 to R82, R89) -/

/-- The answers that a tray command takes as GOOD (R82). -/
abbrev trayFine (a : Answer) : Prop := a = .good ∨ a = .noDisc ∨ ∃ n, a = .recovered n

theorem isTrayGood_answer {a : Answer} (h : trayFine a) : (Outcome.answer a).isTrayGood = true := by
  rcases h with rfl | rfl | ⟨n, rfl⟩ <;> rfl

theorem trayFine_ready {a : Answer} (h : trayFine a) : a ≠ .notReady := by
  rcases h with rfl | rfl | ⟨n, rfl⟩ <;> exact nofun

section
variable {s : State} {p : PortId} {a : Answer}

theorem exec_trayOpened (ho : s.owes p .openTray) (ha : trayFine a) : exec (.trayAnswer p a) s = .next (State.settle s
    (if (s.port p).errand = .feed ∧ !s.queued (ReqKind.isFeedFor p) then (s.afterAnswer p .openTray a).goClosing p
    else (s.afterAnswer p .openTray a).gotoPort p .trayOpen)) := by
  refine exec_answered_to ho (trayFine_ready ha) (info := noInfo) ((if_pos (isTrayGood_answer ha)).trans ?_)
  refine (if_pos rfl).trans ?_
  rw [State.trayOpened, afterAnswer_port]
  rfl

theorem exec_trayClosed (ho : s.owes p .closeTray) (ha : trayFine a) : exec (.trayAnswer p a) s =
    .next (State.settle s ((s.afterAnswer p .closeTray a).trayClosed p)) :=
  exec_answered_to ho (trayFine_ready ha) (info := noInfo) (if_pos (isTrayGood_answer ha))

/-- What a closed tray makes of a port over an empty tray (R75, R79 to R81, R89). -/
theorem trayClosed_empty (h : (s.port p).state = .probe ∨ (((s.port p).state = .closing ∨
    (s.port p).state = .checking) ∧ s.disc (.tray p) = none)) : s.trayClosed p = s.goIdle p := by
  unfold State.trayClosed State.endRecovery
  rcases h with hq | ⟨hq | hq, hd⟩
  · rw [hq]
  · rw [hq, hd]
    rfl
  · rw [hq, hd]

/-- A blank, or a record that a FEED has placed, is checked (R80, R89). -/
theorem trayClosed_blank {d : Disc} (hd : s.disc (.tray p) = some d) (h : (s.port p).state = .closing ∨
    ((s.port p).state = .checking ∧ (d.state = .feeding ∨ d.state = .loaded))) :
    s.trayClosed p = s.goChecking p := by
  unfold State.trayClosed State.endRecovery
  rcases h with hq | ⟨hq, hblank⟩
  · rw [hq, hd]
    rfl
  · rw [hq, hd]
    exact if_pos hblank

theorem trayClosed_disc {d : Disc} (hd : s.disc (.tray p) = some d) (hq : (s.port p).state = .checking)
    (hf : d.state ≠ .feeding) (hl : d.state ≠ .loaded) : s.trayClosed p = s.goDone p := by
  unfold State.trayClosed State.endRecovery
  rw [hq, hd]
  exact if_neg (not_or.mpr ⟨hf, hl⟩)

/-! ## Sleep and wake answers (R77, R78) -/

/-- The answers with which a sleep or a wake fails, HARDWARE apart. -/
abbrev sleepFails (a : Answer) : Prop :=
  (∃ l, a = .mediaError l) ∨ a = .noDisc ∨ a = .notBlank ∨ a = .tooSmall ∨ a = .aborted

theorem sleepFails_outcome (h : sleepFails a) : a ≠ .notReady ∧ ¬ (Outcome.answer a).isGood = true ∧
    ¬ (Outcome.answer a).isHardware = true := by
  rcases h with ⟨l, rfl⟩ | rfl | rfl | rfl | rfl <;> exact ⟨nofun, nofun, nofun⟩

theorem exec_slept (ho : s.owes p .sleep) (ha : fineAnswer a) : exec (.sleepAnswer p a) s =
    .next (State.settle s { s with ports := upd s.ports p { (s.port p).took .sleep a with
      state := .standby, idleHeld := (s.port p).idleTime s.now } }) :=
  exec_answered_to ho (fine_ready ha) (info := noInfo)
    ((if_pos (isGood_answer ha)).trans (modPort_afterAnswer (Port.goto s.now .standby)))

theorem exec_sleepFailed (ho : s.owes p .sleep) (ha : sleepFails a) : exec (.sleepAnswer p a) s =
    .next (State.settle s { s with ports := upd s.ports p { (s.port p).took .sleep a with idleSince := s.now } }) := by
  obtain ⟨hready, hgood, hhard⟩ := sleepFails_outcome ha
  exact exec_answered_to ho hready (info := noInfo) ((if_neg hgood).trans ((if_neg hhard).trans (modPort_afterAnswer _)))

theorem exec_woke (ho : s.owes p .wake) (ha : fineAnswer a) : exec (.wakeAnswer p a) s = .next (State.settle s
    (if s.queued (ReqKind.isFeedFor p) then (s.afterAnswer p .wake a).goOpening p .feed
    else (s.afterAnswer p .wake a).goIdle p)) :=
  exec_answered_to ho (fine_ready ha) (info := noInfo) (if_pos (isGood_answer ha))

theorem exec_wakeFailed (ho : s.owes p .wake) (ha : sleepFails a) : exec (.wakeAnswer p a) s =
    .next (State.settle s (((s.afterAnswer p .wake a).goProbe p).removeRequests (ReqKind.isFeedFor p))) := by
  obtain ⟨hready, hgood, hhard⟩ := sleepFails_outcome ha
  exact exec_answered_to ho hready (info := noInfo) ((if_neg hgood).trans (if_neg hhard))

end

/-- Settles O38: a tray answer is taken by the port's errand and state and by the record at its tray, a sleep or wake by its
outcome and by the FEED requests that wait. -/
theorem traySleepAndWakeAnswers : Obligations.TraySleepAndWakeAnswers := by
  intro s p a q idle noFeed fails len
  have hfeed : noFeed ↔ s.queued (ReqKind.isFeedFor p) = false := by
    simp only [noFeed, ← Bool.not_eq_true, queued_feedFor, not_exists, not_and]
  refine ⟨fun ho ha hq => ?opened, fun ho ha => ?closed, fun ho => ⟨exec_slept ho, exec_sleepFailed ho⟩,
    fun ho hq => ?woke⟩
  case opened =>
    have hbusy : (s.port p).state ≠ .idle := by rw [hq]; exact nofun
    rw [exec_trayOpened ho ha]
    refine ⟨fun h => ?_, fun he hn => ?_⟩
    · rw [if_neg (fun hc => h.elim (· hc.1) fun hn => hn (hfeed.mpr (by simpa using hc.2))), gotoPort_after hbusy]
    · rw [if_pos ⟨he, by simp [hfeed.mp hn]⟩, goClosing_after hbusy]
  case closed =>
    have hstate : ((s.afterAnswer p .closeTray a).port p).state = (s.port p).state := afterAnswer_state
    refine ⟨fun h => ?_, fun d hd h => ?_, fun d hd hq hf hl => ?_⟩
    · rw [exec_trayClosed ho ha, trayClosed_empty (by rw [hstate]; exact h), goIdle_after]
    · have hbusy : (s.port p).state ≠ .idle := by rcases h with hq | ⟨hq, -⟩ <;> rw [hq] <;> exact nofun
      rw [exec_trayClosed ho ha, trayClosed_blank (s := s.afterAnswer p .closeTray a) hd (by rw [hstate]; exact h),
        goChecking_after hbusy hd]
    · have hbusy : (s.port p).state ≠ .idle := by rw [hq]; exact nofun
      rw [exec_trayClosed ho ha, trayClosed_disc (s := s.afterAnswer p .closeTray a) hd (hstate.trans hq) hf hl,
        goDone_after hbusy]
  case woke =>
    have hbusy : (s.port p).state ≠ .idle := by rw [hq]; exact nofun
    refine ⟨fun ha hn => ?_, fun ha hn => ?_, fun ha => ?_⟩
    · rw [exec_woke ho ha, if_neg (by rw [hfeed.mp hn]; exact nofun), goIdle_after]
    · rw [exec_woke ho ha, if_pos (by simpa [hfeed] using hn), goOpening_after hbusy]
    · rw [exec_wakeFailed ho ha, goProbe_after hbusy]
      rfl

end Sys2Proof.Machine

namespace Sys2Proof.Machine

/-! ## The port after an identify that succeeds (R75, R76) -/

/-- ONLINE is raised where it is due (R76, log 20). -/
def State.greeted (s : State) (p : PortId) : State := if (s.port p).announce then s.raise (.portOnline p) else s

/-- The port has taken its identify, and its ONLINE is no longer due. -/
def State.identified (s : State) (p : PortId) (a : Answer) : State :=
  (s.greeted p).modPort p fun q => { q.took .identify a with announce := false }

section
variable {s : State} {p : PortId} {a : Answer}

theorem greeted_frame : s.greeted p = { s with notices := (s.greeted p).notices } := by
  unfold State.greeted
  split <;> rfl

theorem online_afterAnswer : (s.afterAnswer p .identify a).online p = s.identified p a := by
  have hport : (s.afterAnswer p .identify a).port p = (s.port p).took .identify a := afterAnswer_port
  rw [State.identified, State.greeted, State.online, hport]
  by_cases h : (s.port p).announce = true
  · rw [if_pos h]
    exact (if_pos h).trans (congrArg (State.raise · (.portOnline p)) (modPort_modPort ..))
  · rw [if_neg h]
    refine (if_neg h).trans (congrArg (fun q => { s with ports := upd s.ports p q }) ?_)
    rw [← Bool.eq_false_iff.mpr h]
    rfl

theorem identified_modPort (f : Port → Port) : (s.identified p a).modPort p f = { s.greeted p with
    ports := upd s.ports p (f { (s.port p).took .identify a with announce := false }) } := by
  rw [State.identified, modPort_modPort, greeted_frame]
  rfl

theorem identified_port : (s.identified p a).port p = { (s.port p).took .identify a with announce := false } := by
  rw [State.identified, port_modPort_self, greeted_frame]
  rfl

theorem identified_frame : s.identified p a = { s with
    ports := (s.identified p a).ports, notices := (s.greeted p).notices } := by
  rw [State.identified, greeted_frame]
  rfl

theorem identified_now : (s.identified p a).now = s.now := by rw [identified_frame]
theorem identified_timing : (s.identified p a).timing = s.timing := by rw [identified_frame]
theorem identified_verifies : (s.identified p a).verifies = s.verifies := by rw [identified_frame]
theorem identified_disc (q : Place) : (s.identified p a).disc q = s.disc q := by rw [identified_frame]; rfl
theorem identified_freshTag : (s.identified p a).freshTag = s.freshTag := by rw [identified_frame]; rfl

theorem identified_verify : (s.identified p a).verify p = s.verify p := congrArg (nth · p) identified_verifies

theorem identified_issue (c : DriveCmd) : (s.identified p a).issue p c = { s.greeted p with
    ports := upd s.ports p (Port.issue s.now s.timing c 0 { (s.port p).took .identify a with announce := false }) } := by
  rw [State.issue, identified_modPort, identified_now, identified_timing]

theorem identified_goIdle : (s.identified p a).goIdle p = { s.greeted p with
    ports := upd s.ports p { (s.port p).took .identify a with
      announce := false, state := .idle, errand := .none, step := .none, idleSince := s.now, idleHeld := 0 } } := by
  rw [State.goIdle, identified_modPort, identified_now]
  rfl

theorem createOrphan_goDone : (s.createOrphan (.tray p)).goDone p = { s.modPort p (Port.retired s.now) with
    places := upd s.places (Place.tray p).idx (some { Disc.new s.freshTag none .orphan with port := some p })
    tagCounter := s.freshTag + 1 } := rfl

/-- The disc found in a tray becomes an ORPHAN with the next tag, and its port is DONE (R75, R115, R118). -/
theorem identified_orphan (hq : (s.port p).state ≠ .idle) : ((s.identified p a).createOrphan (.tray p)).goDone p =
    { s.greeted p with
      ports := upd s.ports p { (s.port p).took .identify a with
        announce := false, state := .done, errand := .none, step := .none }
      places := upd s.places (Place.tray p).idx (some { Disc.new s.freshTag none .orphan with port := some p })
      tagCounter := s.freshTag + 1 } := by
  have hplaces : (s.identified p a).places = s.places := by rw [identified_frame]
  rw [createOrphan_goDone, identified_modPort, identified_freshTag, hplaces,
    retired_of_busy (q := { (s.port p).took .identify a with announce := false }) hq]

end

/-! ## A TIMEOUT that the verify engine is told of (R88, R99 to R101) -/

section
variable {s : State} {p : PortId} {x : Verify}

/-- Below the retry limit the block is read again. -/
theorem readReported_again (hx : s.verify p = some x) (hr : x.reissues < s.timing.retry) :
    s.readReported p .timeout = (s.setVerify p (some { x with
      crc := 0xFFFFFFFF, received := 0, reissues := x.reissues + 1, lastFailure := none })).issue p
        (.readBlock (256 * x.block) x.blockLen) := by
  simp only [State.readReported, hx]
  exact if_pos hr

/-- At the retry limit the disc fails UNREADABLE at the block's first LBA. -/
theorem readReported_spent (hx : s.verify p = some x) (hr : s.timing.retry ≤ x.reissues) :
    s.readReported p .timeout =
      s.writeGrade p { x with lastFailure := none } .fail (some (.unreadable, some (256 * x.block))) := by
  simp only [State.readReported, hx]
  exact if_neg (Nat.not_lt.mpr hr)

/-- The record of a disc that fails its verify is graded with the failure, and its job is told (R108). -/
def State.failGrade (s : State) (p : PortId) (x : Verify) (g : Grade) (c : FaultCause) (l : Option Nat) : State :=
  ((s.modDisc (.tray p) fun d => { d with
    state := .graded, grade := some g, metrics := some ⟨x.peak, meanLoad x.sum x.sectors, x.blocks, x.sectors⟩
    cause := some c, lba := l }).handFault p c l).setVerify p none

variable (g : Grade) (c : FaultCause) (l : Option Nat)

theorem writeGrade_failed : s.writeGrade p x g (some (c, l)) = (s.failGrade p x g c l).goDone p := rfl

theorem failGrade_work : PortWork s (s.failGrade p x g c l) :=
  ((modDisc_work s p _).trans (handFault_work _ p c l)).trans (setVerify_work _ p none)

theorem failGrade_bay : (s.failGrade p x g c l).bay p = {
    port := s.port p
    disc := (s.disc (.tray p)).map fun d => { d with
      state := .graded, grade := some g, metrics := some ⟨x.peak, meanLoad x.sum x.sectors, x.blocks, x.sectors⟩
      cause := some c, lba := l }
    verify := none } := by
  rw [State.failGrade, bay_setVerify_self, handFault_bay, bay_modDisc_self]
  rfl

theorem writeGrade_failed_work : PortWork s (s.writeGrade p x g (some (c, l))) :=
  (failGrade_work g c l).trans (goDone_work _ p)

theorem writeGrade_failed_passes : (s.writeGrade p x g (some (c, l))).passes = s.passes := handFault_passes ..

theorem writeGrade_failed_bay (hq : (s.port p).state ≠ .idle) : (s.writeGrade p x g (some (c, l))).bay p =
    { (s.failGrade p x g c l).bay p with
      port := { s.port p with state := .done, errand := .none, step := .none } } := by
  have hport : (s.failGrade p x g c l).port p = s.port p := congrArg Bay.port (failGrade_bay g c l)
  rw [writeGrade_failed, bay_goDone_self, hport, retired_of_busy hq]

end

/-! ## Identify answers (R75, R88, R89) -/

section
variable {s : State} {p : PortId} {a : Answer} {info : IdentifyInfo}

theorem exec_identified {u : State} (ho : s.owes p .identify) (ha : fineAnswer a)
    (hu : State.identifyResult p .identify (s.port p).retries (.answer a) info (s.afterAnswer p .identify a) = u) :
    exec (.identifyAnswer p a info) s = .next (State.settle s u) :=
  exec_answered_to ho (fine_ready ha) hu

variable (hgood : ((Outcome.answer a).isGood && info.optical) = true)
include hgood

theorem identify_probe (hq : (s.port p).state = .probe) (r : Nat) :
    State.identifyResult p .identify r (.answer a) info (s.afterAnswer p .identify a) =
      if info.disc then ((s.identified p a).createOrphan (.tray p)).goDone p
      else if info.trayOpen then (s.identified p a).issue p .closeTray else (s.identified p a).goIdle p := by
  have hstate : ((s.afterAnswer p .identify a).port p).state = .probe := afterAnswer_state.trans hq
  simp only [State.identifyResult, hstate, hgood, if_true]
  rw [State.probed, online_afterAnswer]

theorem identify_recovery (hq : (s.port p).state = .checking) (r : Nat) :
    State.identifyResult p .identify r (.answer a) info (s.afterAnswer p .identify a) =
      ((s.identified p a).modPort p fun q => { q with step := .trayClose }).issue p .closeTray := by
  have hstate : ((s.afterAnswer p .identify a).port p).state = .checking := afterAnswer_state.trans hq
  simp only [State.identifyResult, hstate, hgood, if_true]
  rw [online_afterAnswer]

theorem identify_verifying (hq : (s.port p).state = .verifying) (r : Nat) :
    State.identifyResult p .identify r (.answer a) info (s.afterAnswer p .identify a) =
      (s.identified p a).readReported p .timeout := by
  have hstate : ((s.afterAnswer p .identify a).port p).state = .verifying := afterAnswer_state.trans hq
  simp only [State.identifyResult, hstate, hgood, if_true]
  rw [online_afterAnswer]

end

/-- Settles O37: the state of the port decides what an identify that succeeds leads to; in VERIFYING it is the TIMEOUT before
it that the verify engine takes as a failed attempt. -/
theorem identifyDecides : Obligations.IdentifyDecides := by
  intro s p a info ho ha hoptical v q
  have hgood : ((Outcome.answer a).isGood && info.optical) = true := by rw [isGood_answer ha, hoptical]; rfl
  refine ⟨fun hq hd ht => ?_, fun hq hd ht => ?_, fun hq hd => ?_, fun hq => ?_, fun x d hq hx hdisc =>
    ⟨fun hr => ?_, fun hr => ?_⟩⟩
  · refine exec_identified ho ha ?_
    rw [identify_probe hgood hq, if_neg (by simp [hd]), if_neg (by simp [ht]), identified_goIdle]
    rfl
  · refine exec_identified ho ha ?_
    rw [identify_probe hgood hq, if_neg (by simp [hd]), if_pos ht, identified_issue]
    rfl
  · refine ⟨s.freshTag, freshTag_next s, exec_identified ho ha ?_⟩
    rw [identify_probe hgood hq, if_pos hd, identified_orphan (by rw [hq]; exact nofun)]
    rfl
  · refine exec_identified ho ha ?_
    rw [identify_recovery hgood hq, modPort_issue, identified_modPort, identified_now, identified_timing]
    rfl
  · refine exec_identified ho ha ?_
    rw [identify_verifying hgood hq, readReported_again (identified_verify.trans hx) (by rwa [identified_timing]),
      setVerify_issue, identified_issue, identified_verifies]
    rfl
  · have hbusy : ((s.identified p a).port p).state ≠ .idle := by
      rw [identified_port]
      exact ne_of_eq_of_ne hq nofun
    let z := { x with lastFailure := none }
    have hbay := writeGrade_failed_bay (x := z) .fail .unreadable (some (256 * x.block)) hbusy
    have hwork := writeGrade_failed_work (s := s.identified p a) (p := p) (x := z) .fail .unreadable (some (256 * x.block))
    refine ⟨_, exec_identified ho ha ((identify_verifying hgood hq _).trans
      (readReported_spent (identified_verify.trans hx) (by rwa [identified_timing]))), ?_, ?_, ?_, ?_, ?_, ?_⟩
    · exact (congrArg Bay.port hbay).trans (by rw [identified_port])
    · exact (congrArg Bay.verify hbay).trans (congrArg Bay.verify (failGrade_bay ..))
    · refine (congrArg Bay.disc hbay).trans ((congrArg Bay.disc (failGrade_bay ..)).trans ?_)
      rw [identified_disc, hdisc]
      rfl
    · rw [hwork.notices, identified_frame]
      rfl
    · rw [writeGrade_failed_passes, identified_frame]
    · rw [hwork.frame, identified_frame]

end Sys2Proof.Machine

namespace Sys2Proof.Machine

/-! ## The link reset of a timeout (R70, R71) -/

/-- The state in which a timeout's result is worked out: the link is being reset, the command is no longer in flight. -/
def State.afterTimeout (s : State) (p : PortId) (c : DriveCmd) : State :=
  s.modPort p fun q => { q.linkReset with lastOutcome := some (c.cls, .timeout) }

/-- What a timeout of the port's command `c` leaves. -/
def State.timeoutEnd (s : State) (p : PortId) (c : DriveCmd) : State :=
  State.result p c (s.port p).retries .timeout noInfo (s.afterTimeout p c)

theorem timedOut_eq {s : State} {p : PortId} {c : DriveCmd} (h : (s.port p).cmd = some c) :
    s.timedOut p = s.timeoutEnd p c := by
  simp only [State.timedOut, h]
  exact congrArg (State.result p c (s.port p).retries .timeout noInfo) (modPort_modPort ..)

/-- The link is being reset, no command is in flight, and the last outcome is the TIMEOUT of `c`. -/
def Port.timedOut (q : Port) (c : DriveCmd) : Prop :=
  q.link = false ∧ q.resetting = true ∧ q.cmd = none ∧ q.lastOutcome = some (c.cls, .timeout)

/-- The port's command `c` has timed out; of the rest the clock, the other ports and trays, and image memory stand. -/
structure TimedOut (s : State) (p : PortId) (c : DriveCmd) (t : State) : Prop where
  now : t.now = s.now
  port : (t.port p).timedOut c
  others : ∀ k, k ≠ p → t.port k = s.port k
  discs : ∀ q, q ≠ .tray p → t.disc q = s.disc q
  memory : t.memory = s.memory

/-- A command that is issued now waits for the link. -/
theorem timedOut_issue {q : Port} {c : DriveCmd} (h : q.timedOut c) (now : Nat) (t : Timing) (e : DriveCmd) (r : Nat) :
    (q.issue now t e r).timedOut c := by
  obtain ⟨hlink, hreset, hcmd, hout⟩ := h
  rw [issue_resetting hreset]
  exact ⟨hlink, hreset, rfl, hout⟩

section
variable {s t : State} {p : PortId} {c : DriveCmd}

theorem timedOut_afterTimeout : TimedOut s p c (s.afterTimeout p c) where
  now := rfl
  port := by rw [State.afterTimeout, port_modPort_self]; exact ⟨rfl, rfl, rfl, rfl⟩
  others _ hk := port_modPort_ne s p hk _
  discs _ _ := rfl
  memory := rfl

section
variable (h : TimedOut s p c t)
include h

theorem TimedOut.modPort {f : Port → Port} (hf : ∀ q : Port, q.timedOut c → (f q).timedOut c) :
    TimedOut s p c (t.modPort p f) where
  now := h.now
  port := by rw [port_modPort_self]; exact hf _ h.port
  others k hk := (port_modPort_ne t p hk f).trans (h.others k hk)
  discs := h.discs
  memory := h.memory

theorem TimedOut.removeRequests (g : ReqKind → Bool) : TimedOut s p c (t.removeRequests g) :=
  ⟨h.now, h.port, h.others, h.discs, h.memory⟩

theorem TimedOut.modDisc (f : Disc → Disc) : TimedOut s p c (t.modDisc (.tray p) f) :=
  ⟨h.now, h.port, h.others, fun q hq => ((disc_modDisc ..).trans (if_neg hq)).trans (h.discs q hq), h.memory⟩

theorem TimedOut.failBurn (f : FaultCause) (l : Option Nat) : TimedOut s p c (t.failBurn p f l) where
  now := (failBurn_work t p f l).now.trans h.now
  port := by
    have hport : (t.failBurn p f l).port p = t.port p := congrArg Bay.port (failBurn_bay_self t p f l)
    rw [hport]
    exact h.port
  others k hk := (congrArg Bay.port (failBurn_bay_ne t p f l hk)).trans (h.others k hk)
  discs q hq := by
    by_cases htray : ∃ k, q = .tray k
    · obtain ⟨k, rfl⟩ := htray
      exact (congrArg Bay.disc (failBurn_bay_ne t p f l fun hk => hq (congrArg Place.tray hk))).trans (h.discs _ hq)
    · exact ((failBurn_work t p f l).disc q fun k hk => htray ⟨k, hk⟩).trans (h.discs q hq)
  memory := by rw [(failBurn_work t p f l).frame]; exact h.memory

theorem TimedOut.issue (e : DriveCmd) : TimedOut s p c (t.issue p e) := h.modPort fun _ hq => timedOut_issue hq ..

theorem TimedOut.goProbe : TimedOut s p c (t.goProbe p) :=
  .issue (h.modPort (f := fun q => { q.goto t.now .probe with errand := .none, step := .none }) fun _ hq => hq) _

theorem TimedOut.goRecovery : TimedOut s p c (t.goRecovery p) :=
  .issue (h.modPort (f := fun q => { q.goto t.now .checking with errand := .none, step := .identify }) fun _ hq => hq) _

theorem TimedOut.goDone : TimedOut s p c (t.goDone p) := h.modPort (f := Port.retired t.now) fun _ hq => hq

theorem TimedOut.goFaulted : TimedOut s p c (t.goFaulted p) := by
  unfold State.goFaulted
  split
  · exact h
  · have hfaulted := (h.modPort (f := Port.enterFaulted t.now) fun q ⟨hlink, hreset, _, hout⟩ =>
      ⟨hlink, hreset, rfl, hout⟩).removeRequests (ReqKind.ofPort p)
    exact ⟨hfaulted.now, hfaulted.port, hfaulted.others, hfaulted.discs, hfaulted.memory⟩

theorem TimedOut.giveUpCommand (e : DriveCmd) : TimedOut s p c (t.giveUpCommand p e) := by
  unfold State.giveUpCommand
  split
  · split
    · exact (h.failBurn .driveFault none).goFaulted
    · exact h.goFaulted
  · exact (h.modDisc _).goDone
  · exact h.goFaulted

theorem TimedOut.retryOr (e : DriveCmd) (r : Nat) : TimedOut s p c (t.retryOr p e r) := by
  unfold State.retryOr
  split
  · exact h.modPort fun _ hq => timedOut_issue hq ..
  · exact h.giveUpCommand e

end

/-! ## What a timeout leaves, by the class of the command (R71) -/

/-- The commands that the port issues again after a timeout, below the retry limit (R75, R82, R83, R88, R89). -/
def Retried (q : Port) (c : DriveCmd) : Prop :=
  c = .openTray ∨ c = .closeTray ∨ (∃ n, c = .mediaCheck n) ∨ (c = .identify ∧ q.identifies)

theorem timeoutEnd_retried (h : Retried (s.port p) c) :
    s.timeoutEnd p c = (s.afterTimeout p c).retryOr p c (s.port p).retries := by
  rcases h with rfl | rfl | ⟨n, rfl⟩ | ⟨rfl, hq⟩
  · rfl
  · rfl
  · rfl
  · have hstate : ((s.afterTimeout p .identify).port p).state = (s.port p).state := by
      rw [State.afterTimeout, port_modPort_self]
      rfl
    rw [State.timeoutEnd, State.result, State.identifyResult, State.retryOr, State.giveUpCommand, hstate]
    rcases hq with hq | hq | hq <;> rw [hq] <;> rfl

/-- In the other states no identify is in flight; its timeout has only reset the link (log 3). -/
theorem timeoutEnd_identify (h : ¬ (s.port p).identifies) : s.timeoutEnd p .identify = s.afterTimeout p .identify := by
  have hstate : ((s.afterTimeout p .identify).port p).state = (s.port p).state := by
    rw [State.afterTimeout, port_modPort_self]
    rfl
  simp only [not_or] at h
  obtain ⟨hprobe, hchecking, hverifying⟩ := h
  rw [State.timeoutEnd, State.result, State.identifyResult, hstate]
  cases hq : (s.port p).state with
  | probe => exact absurd hq hprobe
  | checking => exact absurd hq hchecking
  | verifying => exact absurd hq hverifying
  | _ => rfl

theorem timeoutEnd_sleep : s.timeoutEnd p .sleep =
    (s.afterTimeout p .sleep).modPort p fun q => { q with idleSince := s.now } := rfl

theorem timeoutEnd_wake : s.timeoutEnd p .wake =
    ((s.afterTimeout p .wake).removeRequests (ReqKind.isFeedFor p)).goProbe p := rfl

theorem timeoutEnd_write {seg : Nat} : s.timeoutEnd p (.writeSegment seg) =
    ((s.afterTimeout p (.writeSegment seg)).failBurn p .writeTimeout (s.burnLba p)).goRecovery p := rfl

theorem timeoutEnd_finish (h : c = .synchronise ∨ c = .finalise) : s.timeoutEnd p c =
    ((s.afterTimeout p c).failBurn p .finishError none).goRecovery p := by
  rcases h with rfl | rfl <;> rfl

theorem timeoutEnd_read {l n : Nat} : s.timeoutEnd p (.readBlock l n) =
    (s.afterTimeout p (.readBlock l n)).issue p .identify := rfl

/-- Whatever the class, a timeout leaves its port with its link being reset. -/
theorem timeoutEnd_frame : TimedOut s p c (s.timeoutEnd p c) := by
  have h : TimedOut s p c (s.afterTimeout p c) := timedOut_afterTimeout
  have retried (hc : Retried (s.port p) c) : TimedOut s p c (s.timeoutEnd p c) := by
    rw [timeoutEnd_retried hc]
    exact h.retryOr c _
  cases c with
  | identify =>
    by_cases hq : (s.port p).identifies
    · exact retried (.inr (.inr (.inr ⟨rfl, hq⟩)))
    · rw [timeoutEnd_identify hq]
      exact h
  | openTray => exact retried (.inl rfl)
  | closeTray => exact retried (.inr (.inl rfl))
  | mediaCheck n => exact retried (.inr (.inr (.inl ⟨n, rfl⟩)))
  | sleep =>
    rw [timeoutEnd_sleep]
    exact h.modPort fun _ hq => hq
  | wake =>
    rw [timeoutEnd_wake]
    exact (h.removeRequests _).goProbe
  | writeSegment seg =>
    rw [timeoutEnd_write]
    exact (h.failBurn ..).goRecovery
  | synchronise =>
    rw [timeoutEnd_finish (.inl rfl)]
    exact (h.failBurn ..).goRecovery
  | finalise =>
    rw [timeoutEnd_finish (.inr rfl)]
    exact (h.failBurn ..).goRecovery
  | readBlock l n =>
    rw [timeoutEnd_read]
    exact h.issue .identify

end
end Sys2Proof.Machine

namespace Sys2Proof.Machine

/-! ## A port, its disc and its notices after a timeout -/

/-- The port is FAULTED with nothing outstanding, its requests gone and its notice raised (R90). -/
def FaultedNow (s : State) (p : PortId) (u : State) : Prop :=
  (u.port p).state = .faulted ∧ (u.port p).errand = .none ∧ (u.port p).step = .none ∧ (u.port p).afterReset = none ∧
  u.notices = { s.notices with port := s.notices.port.raise (.portFaulted p) } ∧
  u.transport = { s.transport with queue := s.transport.queue.filter fun r => !r.kind.ofPort p }

section
variable {s t : State} {p : PortId} {c : DriveCmd}

theorem afterTimeout_port :
    (s.afterTimeout p c).port p = { (s.port p).linkReset with lastOutcome := some (c.cls, .timeout) } :=
  port_modPort_self ..

theorem faultedNow_goFaulted (hport : t.port p = (s.afterTimeout p c).port p) (hwork : PortWork (s.afterTimeout p c) t)
    (hq : (s.port p).state ≠ .faulted) : FaultedNow s p (t.goFaulted p) := by
  rw [afterTimeout_port] at hport
  have hstate : (t.port p).state ≠ .faulted := by rw [hport]; exact hq
  have hfaulting : t.goFaulted p = t.faulting p (Port.enterFaulted t.now) := goFaulted_entered hstate
  have htransport : t.transport = s.transport := by rw [hwork.frame]; rfl
  rw [hfaulting]
  refine ⟨?_, ?_, ?_, ?_, ?_, ?_⟩
  · rw [faulting_port]; rfl
  · rw [faulting_port]; rfl
  · rw [faulting_port]; rfl
  · rw [faulting_port]; rfl
  · rw [faulting_notices, hwork.notices]; rfl
  · rw [faulting_transport, htransport]

/-- A burn whose command times out: the disc is SCRAP and the port recovers, its identify waiting for the link (R85, R87). -/
theorem burn_timedOut (f : FaultCause) (l : Option Nat) {d : Disc} (hd : s.disc (.tray p) = some d)
    (hc : d.cause = none) {u : State} (hu : u = ((s.afterTimeout p c).failBurn p f l).goRecovery p) :
    (u.port p).state = .checking ∧ (u.port p).step = .identify ∧ (u.port p).afterReset = some .identify ∧
      u.disc (.tray p) = some { d with state := .scrap, cause := some f, lba := l } := by
  have hbay := failBurn_bay_self (s.afterTimeout p c) p f l
  have hport : ((s.afterTimeout p c).failBurn p f l).port p = _ := (congrArg Bay.port hbay).trans afterTimeout_port
  have hdisc : ((s.afterTimeout p c).failBurn p f l).disc (.tray p) =
      some { d with state := .scrap, cause := some f, lba := l } := by
    refine (congrArg Bay.disc hbay).trans ?_
    rw [show (s.afterTimeout p c).disc (.tray p) = some d from hd, Option.map_some, scrap_fresh hc]
  rw [hu, goRecovery_eq, port_modPort_self, hport, issue_resetting rfl]
  exact ⟨rfl, rfl, rfl, hdisc⟩

theorem goRecovery_passes : (s.goRecovery p).passes = s.passes := rfl

/-- Outside a wave the failure of synchronise or finalise is no member's (R87). -/
theorem timeoutEnd_finish_passes (h : c = .synchronise ∨ c = .finalise) (hw : s.waveOf p = none) :
    (s.timeoutEnd p c).passes = s.passes := by
  have hwave : (s.afterTimeout p c).waveOf p = none := hw
  rw [timeoutEnd_finish h, goRecovery_passes, failBurn_passes, memberLeaves_none hwave]
  rfl

/-- Below the retry limit the same command waits for the link, counted once more. -/
theorem timeoutEnd_again (h : Retried (s.port p) c) (hr : (s.port p).retries < s.timing.retry) : s.timeoutEnd p c =
    (s.afterTimeout p c).modPort p (Port.issue s.now s.timing c ((s.port p).retries + 1)) :=
  (timeoutEnd_retried h).trans (if_pos hr)

theorem timeoutEnd_spent (h : Retried (s.port p) c) (hr : s.timing.retry ≤ (s.port p).retries) :
    s.timeoutEnd p c = (s.afterTimeout p c).giveUpCommand p c :=
  (timeoutEnd_retried h).trans (if_neg (Nat.not_lt.mpr hr))

theorem again_port (r : Nat) (now : Nat) (k : Timing) :
    ((s.afterTimeout p c).modPort p (Port.issue now k c r)).port p = { (s.port p).linkReset with
      lastOutcome := some (c.cls, .timeout), afterReset := some c, retries := r } := by
  rw [port_modPort_self, afterTimeout_port, issue_resetting rfl]
  rfl

/-- The commands whose retry limit takes the port to FAULTED (R75, R82, R88, R89). -/
def FaultsAtLimit (q : Port) (c : DriveCmd) : Prop :=
  c = .openTray ∨ c = .closeTray ∨ (c = .identify ∧ q.identifies)

theorem FaultsAtLimit.retried {q : Port} (h : FaultsAtLimit q c) : Retried q c :=
  h.imp id (Or.imp id .inr)

theorem afterTimeout_state : ((s.afterTimeout p c).port p).state = (s.port p).state := by
  rw [afterTimeout_port]
  rfl

/-- At the limit outside VERIFYING only the port and what asks for it change. -/
theorem giveUp_faults (h : FaultsAtLimit (s.port p) c) (hv : ¬ (c = .identify ∧ (s.port p).state = .verifying)) :
    (s.afterTimeout p c).giveUpCommand p c = (s.afterTimeout p c).goFaulted p := by
  refine giveUpCommand_faults ?_
  rcases h with h | h | ⟨h, -⟩
  · exact .inr (.inl h)
  · exact .inr (.inr h)
  · exact .inl ⟨h, by rw [afterTimeout_state]; exact fun hq => hv ⟨h, hq⟩⟩

theorem giveUp_verify (hq : (s.port p).state = .verifying) : (s.afterTimeout p .identify).giveUpCommand p .identify =
    ((s.afterTimeout p .identify).failBurn p .driveFault none).goFaulted p :=
  if_pos (afterTimeout_state.trans hq)

theorem timeoutEnd_faulted (h : FaultsAtLimit (s.port p) c) (hr : s.timing.retry ≤ (s.port p).retries)
    (hq : (s.port p).state ≠ .faulted) : FaultedNow s p (s.timeoutEnd p c) := by
  rw [timeoutEnd_spent h.retried hr]
  by_cases hv : c = .identify ∧ (s.port p).state = .verifying
  · obtain ⟨rfl, hverifying⟩ := hv
    rw [giveUp_verify hverifying]
    exact faultedNow_goFaulted (congrArg Bay.port (failBurn_bay_self ..)) (failBurn_work ..) hq
  · rw [giveUp_faults h hv]
    exact faultedNow_goFaulted rfl (PortWork.refl _) hq

theorem timeoutEnd_places (h : FaultsAtLimit (s.port p) c) (hr : s.timing.retry ≤ (s.port p).retries)
    (hv : ¬ (c = .identify ∧ (s.port p).state = .verifying)) : (s.timeoutEnd p c).places = s.places := by
  rw [timeoutEnd_spent h.retried hr, giveUp_faults h hv, goFaulted_places]
  rfl

/-- A disc in VERIFYING whose identify is spent is lost to its drive (R88, R110). -/
theorem timeoutEnd_verify (hq : (s.port p).state = .verifying) (hr : s.timing.retry ≤ (s.port p).retries) {d : Disc}
    (hd : s.disc (.tray p) = some d) (hc : d.cause = none) : (s.timeoutEnd p .identify).verify p = none ∧
      (s.timeoutEnd p .identify).disc (.tray p) = some { d with
        state := .scrap, cause := some .driveFault, lba := none } := by
  have hbay := failBurn_bay_self (s.afterTimeout p .identify) p .driveFault none
  rw [show (s.afterTimeout p .identify).disc (.tray p) = some d from hd, Option.map_some, scrap_fresh hc] at hbay
  rw [timeoutEnd_spent (.inr (.inr (.inr ⟨rfl, .inr (.inr hq)⟩))) hr, giveUp_verify hq]
  exact ⟨(goFaulted_verify p).trans (congrArg Bay.verify hbay), (goFaulted_disc _).trans (congrArg Bay.disc hbay)⟩

theorem blankScrap_bay (f : FaultCause) : (s.blankScrap p f).bay p = { s.bay p with
    port := (s.port p).retired s.now, disc := (s.disc (.tray p)).map fun d => d.scrap f none } := by
  rw [State.blankScrap, bay_goDone_self, bay_modDisc_self]
  rfl

/-- A blank whose media check is spent is SCRAP, no fault of its job (R83, R93). -/
theorem timeoutEnd_check {n : Nat} (hr : s.timing.retry ≤ (s.port p).retries) {d : Disc}
    (hd : s.disc (.tray p) = some d) (hc : d.cause = none) :
    ((s.timeoutEnd p (.mediaCheck n)).port p).state = .done ∧
      ((s.timeoutEnd p (.mediaCheck n)).port p).afterReset = none ∧
      (s.timeoutEnd p (.mediaCheck n)).disc (.tray p) = some { d with
        state := .scrap, cause := some .checkError, lba := none } ∧
      (s.timeoutEnd p (.mediaCheck n)).jobs = s.jobs := by
  have hend : s.timeoutEnd p (.mediaCheck n) = (s.afterTimeout p (.mediaCheck n)).blankScrap p .checkError :=
    timeoutEnd_spent (.inr (.inr (.inl ⟨n, rfl⟩))) hr
  have hbay := blankScrap_bay (s := s.afterTimeout p (.mediaCheck n)) (p := p) .checkError
  rw [afterTimeout_port, show (s.afterTimeout p (.mediaCheck n)).disc (.tray p) = some d from hd, Option.map_some,
    scrap_fresh hc, ← hend] at hbay
  exact ⟨congrArg (fun b : Bay => b.port.state) hbay, congrArg (fun b : Bay => b.port.afterReset) hbay,
    congrArg Bay.disc hbay, by rw [hend]; rfl⟩

theorem sleep_port : (s.timeoutEnd p .sleep).port p = { (s.port p).linkReset with
    lastOutcome := some (.tray, .timeout), idleSince := s.now } := by
  rw [timeoutEnd_sleep, port_modPort_self, afterTimeout_port]
  rfl

theorem wake_port : (s.timeoutEnd p .wake).port p = { (s.port p).linkReset with
    lastOutcome := some (.wake, .timeout), state := .probe, errand := .none, step := .none
    idleHeld := (s.port p).idleTime s.now, afterReset := some .identify, retries := 0 } := by
  have hport : ((s.afterTimeout p .wake).removeRequests (ReqKind.isFeedFor p)).port p = _ := afterTimeout_port
  rw [timeoutEnd_wake, goProbe_eq, port_modPort_self, hport, issue_resetting rfl]
  rfl

theorem read_port {l n : Nat} : (s.timeoutEnd p (.readBlock l n)).port p = { (s.port p).linkReset with
    lastOutcome := some (.read, .timeout), afterReset := some .identify, retries := 0 } := by
  rw [timeoutEnd_read, State.issue, port_modPort_self, afterTimeout_port, issue_resetting rfl]
  rfl

end
end Sys2Proof.Machine

namespace Sys2Proof.Machine

/-! ## The rows of a port's timers (R70 to R73) -/

/-- An expiry brings the clock up to its time (log 1). -/
def State.at (s : State) (time : Nat) : State := { s with now := max s.now time }

/-- PROBE, CHECKING and VERIFYING in the words of R71. -/
theorem identifies_iff {q : Port} : q.state ∈ [PortState.probe, .checking, .verifying] ↔ q.identifies := by
  simp [Port.identifies]

theorem reissue_of_cmd {q : Port} {c : DriveCmd} (h : q.cmd = some c) (now : Nat) (t : Timing) : q.reissue now t =
    { q with reissueAt := none, transferred := 0, answerDue := some (now + t.timeout c.cls) } := by
  rw [Port.reissue, h]
  rfl

section
variable {s : State} {p : PortId} {c : DriveCmd}

theorem timedOut_at (hc : (s.port p).cmd = some c) (time : Nat) :
    (s.at time).timedOut p = (s.at time).timeoutEnd p c := timedOut_eq hc

theorem exec_commandTimeout (hr : s.resetHeld = false) (hc : (s.port p).cmd = some c) (he : (s.port p).ending = false)
    (hp : (s.port p).paused = false) (hw : (s.port p).reissueAt = none) (ha : (s.port p).afterReset = none) :
    exec (.commandTimeout p) s =
      .next (State.settle s ((s.at ((s.port p).answerDue.getD 0)).timeoutEnd p c)) := by
  have hcond : ((s.port p).running && !(s.port p).paused && (s.port p).reissueAt.isNone) = true := by
    simp [Port.running, hc, he, hp, hw]
  have hrow : exec (.commandTimeout p) s = execCommandTimeout p s := rfl
  rw [← timedOut_at hc, hrow, execCommandTimeout, ha]
  exact congrArg Host.Outcome.next (eventIf_run hr hcond _)

theorem exec_pauseLimit (hr : s.resetHeld = false) (hc : (s.port p).cmd = some c) (hp : (s.port p).paused = true) :
    exec (.pauseLimitExpiry p) s = .next (State.settle s ((s.at ((s.port p).pauseDue.getD 0)).timeoutEnd p c)) := by
  rw [← timedOut_at hc]
  exact congrArg Host.Outcome.next (eventIf_run hr hp _)

section
variable {t f : Nat} (hr : s.resetHeld = false) (hc : (s.port p).cmd = some c)
  (hw : (s.port p).reissueAt = some t) (hf : (s.port p).firstIssue = some f)
include hr hc hw hf

/-- At the end of a NOT_READY wait the time since the first issue decides (R71). -/
theorem exec_notReadyReissue : exec (.notReadyReissue p) s = .next (State.settle s
    (if s.timing.timeout c.cls ≤ max s.now t - f then (s.at t).timeoutEnd p c
    else { s with
      now := max s.now t
      ports := upd s.ports p { s.port p with
        reissueAt := none, transferred := 0, answerDue := some (max s.now t + s.timing.timeout c.cls) } })) := by
  have hspent : (s.at t).notReadySpent p = decide (s.timing.timeout c.cls ≤ max s.now t - f) := by
    have hcmd : ((s.at t).port p).cmd = some c := hc
    have hfirst : ((s.at t).port p).firstIssue = some f := hf
    simp only [State.notReadySpent, hcmd, hfirst]
    rfl
  have hrow : exec (.notReadyReissue p) s = .next (State.settle s (s.notReadyReissue p)) :=
    congrArg Host.Outcome.next (eventIf_run hr (by rw [hw]; rfl) _)
  have hat : s.until (s.port p).reissueAt = s.at t := by rw [hw]; rfl
  rw [hrow, State.notReadyReissue, hat, hspent, timedOut_at hc, ← reissue_of_cmd hc]
  simp only [decide_eq_true_eq]
  rfl

end

theorem exec_endedAnswer (hr : s.resetHeld = false) (he : (s.port p).ending = true) (a : Answer) :
    exec (.endedCommandAnswer p a) s = .next (State.settle s { s with ports := upd s.ports p (s.port p).clearCmd }) :=
  congrArg Host.Outcome.next (eventIf_run hr he _)

theorem exec_endingTimeout (hr : s.resetHeld = false) (he : (s.port p).ending = true) :
    exec (.endingTimeout p) s = .next (State.settle s { s with
      now := max s.now ((s.port p).endingDue.getD 0)
      ports := upd s.ports p { (s.port p).clearCmd with link := false, resetting := true } }) :=
  congrArg Host.Outcome.next (eventIf_run hr he _)

end

/-- Settles O43: the three expiries come to one `timeoutEnd` at their time, and the class of the command, the retry limit and
the state of the port say what that leaves. -/
theorem driveTimeouts : Obligations.DriveTimeouts := by
  intro s p c hr hc timedOut
  have ends (e : Instr) (time : Nat) (he : exec e s = .next (State.settle s ((s.at time).timeoutEnd p c))) :
      timedOut e time := by
    have hframe : TimedOut (s.at time) p c ((s.at time).timeoutEnd p c) := timeoutEnd_frame
    obtain ⟨hlink, hreset, hcmd, hout⟩ := hframe.port
    refine ⟨(s.at time).timeoutEnd p c, he, hframe.now, hlink, hreset, hcmd, hout, hframe.others, hframe.discs,
      hframe.memory, ?write, ?finish, ?again, fun hspent hq => ⟨fun hf => ?faulted, fun hf => ?places, ?verify, ?check⟩,
      ?sleep, ?wake, ?read⟩
    case write =>
      rintro seg d rfl hd hcause
      exact burn_timedOut (s := s.at time) .writeTimeout _ hd hcause rfl
    case finish =>
      intro d hfin hd hcause
      obtain ⟨hstate, hstep, hafter, hdisc⟩ :=
        burn_timedOut (s := s.at time) .finishError none hd hcause (timeoutEnd_finish hfin)
      exact ⟨hstate, hstep, hafter, hdisc, timeoutEnd_finish_passes (s := s.at time) hfin⟩
    case again =>
      intro hretry hlimit
      have hretried : Retried (s.port p) c := by simpa only [Retried, identifies_iff] using hretry
      rw [timeoutEnd_again (s := s.at time) hretried hlimit, again_port]
      exact ⟨rfl, rfl, rfl, rfl, rfl, rfl⟩
    case faulted =>
      have hfaults : FaultsAtLimit (s.port p) c := by simpa only [FaultsAtLimit, identifies_iff] using hf
      exact timeoutEnd_faulted (s := s.at time) hfaults hspent hq
    case places =>
      have hcalm : ¬ (c = .identify ∧ (s.port p).state = .verifying) := by
        rintro ⟨rfl, hst⟩
        simp [hst] at hf
      refine timeoutEnd_places (s := s.at time) (hf.imp id (Or.imp id (And.imp id fun hst => ?_))) hspent hcalm
      rcases List.mem_pair.mp hst with hst | hst
      · exact .inl hst
      · exact .inr (.inl hst)
    case verify =>
      rintro d rfl hverifying hd hcause
      exact timeoutEnd_verify (s := s.at time) hverifying hspent hd hcause
    case check =>
      rintro n d rfl hd hcause
      exact timeoutEnd_check (s := s.at time) hspent hd hcause
    case sleep =>
      rintro rfl
      rw [sleep_port]
      exact ⟨rfl, rfl, fun hidle => (if_pos hidle).trans (Nat.sub_self _), rfl, rfl⟩
    case wake =>
      rintro rfl
      rw [wake_port]
      exact ⟨rfl, rfl, rfl, rfl⟩
    case read =>
      rintro l n rfl
      rw [read_port]
      exact ⟨rfl, rfl, rfl, rfl⟩
  refine ⟨fun he hp hw ha => ends _ _ (exec_commandTimeout hr hc he hp hw ha),
    fun hp => ends _ _ (exec_pauseLimit hr hc hp), fun t f hw hf => ⟨fun hleft => ?_, fun hspent => ends _ _ ?_⟩,
    fun he => ⟨exec_endedAnswer hr he, exec_endingTimeout hr he⟩⟩
  · rw [exec_notReadyReissue hr hc hw hf, if_neg (Nat.not_le.mpr hleft)]
  · rw [exec_notReadyReissue hr hc hw hf, if_pos hspent]

end Sys2Proof.Machine

namespace Sys2Proof.Machine

/-! ## A disc that has its grade (R108) -/

/-- What the grade of a verified disc leaves: `e` is the record `d` of the port's disc with its grade, cause and LBA. A FAIL
is handed to the fault record of the disc's job (R178). -/
def GradedWith (s : State) (p : PortId) (c : DriveCmd) (a : Answer) (m : Metrics) (d e : Disc) (u : State) : Prop :=
  u.port p = { (s.port p).took c a with state := .done, errand := .none, step := .none } ∧
  u.verify p = none ∧ u.disc (.tray p) = some { e with state := .graded, metrics := some m } ∧
  u.passes = s.passes ∧ u.memory = s.memory ∧
  ∀ j, u.job j = if e.grade = some .fail ∧ d.job = some j
    then { s.job j with
      fault := FaultRecord.take (s.job j).fault ⟨e.cause.getD .mismatch, d.pass, some p, e.lba, some d.tag, 0⟩ }
    else s.job j

/-- The metrics that a context writes into its record (R104, R106). -/
def Verify.metrics (v : Verify) : Metrics := ⟨v.peak, meanLoad v.sum v.sectors, v.blocks, v.sectors⟩

/-- A disc's failure is handed to its own job and to no other (R93). -/
theorem handFault_job {s : State} {p : PortId} {d : Disc} (hd : s.disc (.tray p) = some d) (f : FaultCause)
    (l : Option Nat) (j : JobId) : (s.handFault p f l).job j =
      if d.job = some j then { s.job j with
        fault := FaultRecord.take (s.job j).fault ⟨f, d.pass, some p, l, some d.tag, 0⟩ }
      else s.job j := by
  rw [State.handFault, hd]
  dsimp only
  split
  case h_1 hnone => rw [hnone, if_neg nofun]
  case h_2 i hi =>
    rw [State.faultOf, job_modJob, hi]
    by_cases hj : j = i
    · subst hj
      rw [if_pos rfl, if_pos rfl]
    · rw [if_neg hj, if_neg fun h => hj (Option.some.inj h).symm]

section
variable {s : State} {p : PortId} {c : DriveCmd} {a : Answer} {d : Disc}

theorem gradedWith_fail (hd : s.disc (.tray p) = some d) (hq : (s.port p).state ≠ .idle) (v : Verify) (f : FaultCause)
    (l : Option Nat) : GradedWith s p c a v.metrics d { d with grade := some .fail, cause := some f, lba := l }
      ((s.afterAnswer p c a).writeGrade p v .fail (some (f, l))) := by
  have hbusy : ((s.afterAnswer p c a).port p).state ≠ .idle := ne_of_eq_of_ne afterAnswer_state hq
  have hdisc : (s.afterAnswer p c a).disc (.tray p) = some d := hd
  have hbay := writeGrade_failed_bay (x := v) .fail f l hbusy
  rw [failGrade_bay, hdisc, afterAnswer_port] at hbay
  refine ⟨congrArg Bay.port hbay, congrArg Bay.verify hbay, congrArg Bay.disc hbay, writeGrade_failed_passes ..,
    writeGrade_memory .., fun j => ?_⟩
  have hgraded : ((s.afterAnswer p c a).modDisc (.tray p) fun d => { d with
      state := .graded, grade := some .fail, metrics := some v.metrics, cause := some f, lba := l }).disc (.tray p) =
      some { d with state := .graded, grade := some .fail, metrics := some v.metrics, cause := some f, lba := l } := by
    rw [disc_modDisc_self, hdisc]
    rfl
  refine (handFault_job hgraded f l j).trans ?_
  simp only [true_and]
  rfl

theorem gradedWith_clean (hd : s.disc (.tray p) = some d) (hq : (s.port p).state ≠ .idle) (v : Verify) {g : Grade}
    (hg : g ≠ .fail) : GradedWith s p c a v.metrics d { d with grade := some g }
      ((s.afterAnswer p c a).writeGrade p v g none) := by
  have hdone : (s.afterAnswer p c a).writeGrade p v g none = { s with
      ports := upd s.ports p { (s.port p).took c a with state := .done, errand := .none, step := .none }
      places := upd s.places (Place.tray p).idx (some { d with
        state := .graded, grade := some g, metrics := some v.metrics })
      verifies := upd s.verifies p none } :=
    congrArg (State.setVerify · p none) (goDone_afterAnswer hd hq fun d => { d with
      state := .graded, grade := some g, metrics := some v.metrics })
  rw [hdone]
  exact ⟨nth_upd_self .., nth_upd_self .., nth_upd_self .., rfl, rfl,
    fun j => (if_neg fun h => hg (Option.some.inj h.1)).symm⟩

/-- The next read of a block, asked for when the last one has been answered (R98). -/
theorem readBlock_afterAnswer (w : Verify) : (s.afterAnswer p c a).readBlock p w = { s with
    ports := upd s.ports p (Port.issue s.now s.timing (.readBlock (256 * w.block) w.blockLen) 0 ((s.port p).took c a))
    verifies := upd s.verifies p (some w.restart) } := by
  rw [State.readBlock, setVerify_issue, State.issue, modPort_afterAnswer]
  rfl

end

/-! ## A complete read (R102 to R107) -/

/-- The context with a complete read counted, whose corrected count is `k` (R103, R104). -/
def State.counted (s : State) (v : Verify) (k : Nat) : Verify :=
  v.count (blockLoad k (s.profile (s.job v.job).profile).weight v.reissues)

section
variable {s : State} {p : PortId} {v : Verify} {k : Nat}

theorem completeRead_mismatch (hcrc : crcValue v.crc ≠ s.memory.digest v.job v.block) :
    s.completeRead p v k = s.writeGrade p (s.counted v k) .fail (some (.mismatch, some (256 * v.block))) :=
  if_pos (by rw [decide_eq_false hcrc]; rfl)

section
variable (hcrc : crcValue v.crc = s.memory.digest v.job v.block)
include hcrc

theorem completeRead_matched : s.completeRead p v k =
    if (s.counted v k).peak > (s.profile (s.job v.job).profile).peakFail then
      s.writeGrade p (s.counted v k) .fail (some (.peak, some (256 * v.block)))
    else if v.position + 1 < v.planned then s.readBlock p ((s.counted v k).next (s.job v.job).length)
    else s.decideGrade p (s.counted v k) (s.profile (s.job v.job).profile) :=
  if_neg (by rw [decide_eq_true hcrc]; exact Bool.false_ne_true)

theorem completeRead_peak (hpeak : (s.profile (s.job v.job).profile).peakFail < (s.counted v k).peak) :
    s.completeRead p v k = s.writeGrade p (s.counted v k) .fail (some (.peak, some (256 * v.block))) :=
  (completeRead_matched hcrc).trans (if_pos hpeak)

variable (hpeak : (s.counted v k).peak ≤ (s.profile (s.job v.job).profile).peakFail)
include hpeak

theorem completeRead_next (hmore : v.position + 1 < v.planned) :
    s.completeRead p v k = s.readBlock p ((s.counted v k).next (s.job v.job).length) :=
  (completeRead_matched hcrc).trans ((if_neg (Nat.not_lt.mpr hpeak)).trans (if_pos hmore))

theorem completeRead_end (hend : v.planned ≤ v.position + 1) :
    s.completeRead p v k = s.decideGrade p (s.counted v k) (s.profile (s.job v.job).profile) :=
  (completeRead_matched hcrc).trans ((if_neg (Nat.not_lt.mpr hpeak)).trans (if_neg (Nat.not_lt.mpr hend)))

end

/-! ### The grade of a complete coverage (R107) -/

section
variable {g : Profile}

theorem decideGrade_fail (h : g.meanFail < meanLoad v.sum v.sectors) :
    s.decideGrade p v g = s.writeGrade p v .fail (some (.mean, none)) := by
  have hgrade : gradeOf g v.peak (meanLoad v.sum v.sectors) = .fail := if_pos h
  rw [State.decideGrade, hgrade]

variable (h : meanLoad v.sum v.sectors ≤ g.meanFail)
include h

theorem decideGrade_marginal (hwarn : g.peakWarn < v.peak ∨ g.meanWarn < meanLoad v.sum v.sectors) :
    s.decideGrade p v g = s.writeGrade p v .marginal none := by
  have hgrade : gradeOf g v.peak (meanLoad v.sum v.sectors) = .marginal :=
    (if_neg (Nat.not_lt.mpr h)).trans (if_pos hwarn)
  rw [State.decideGrade, hgrade]

theorem decideGrade_pass (hpeak : v.peak ≤ g.peakWarn) (hmean : meanLoad v.sum v.sectors ≤ g.meanWarn) :
    s.decideGrade p v g = s.writeGrade p v .pass none := by
  have hgrade : gradeOf g v.peak (meanLoad v.sum v.sectors) = .pass :=
    (if_neg (Nat.not_lt.mpr h)).trans (if_neg (not_or.mpr ⟨Nat.not_lt.mpr hpeak, Nat.not_lt.mpr hmean⟩))
  rw [State.decideGrade, hgrade]

end

/-! ## A failed attempt (R99 to R101) -/

/-- The LBA the drive reported, where it lies in the block that was read (R100). -/
def Verify.failureAt (v : Verify) (f : Option Nat) : Option Nat :=
  f.filter fun l => decide (256 * v.block ≤ l ∧ l < 256 * v.block + v.blockLen)

theorem failedAttempt_again {f : Option Nat} (hr : v.reissues < s.timing.retry) : s.failedAttempt p v f =
    s.readBlock p { v with lastFailure := v.failureAt f, reissues := v.reissues + 1 } := if_pos hr

theorem failedAttempt_spent {f : Option Nat} (hr : s.timing.retry ≤ v.reissues) : s.failedAttempt p v f =
    s.writeGrade p { v with lastFailure := v.failureAt f } .fail
      (some (.unreadable, some ((v.failureAt f).getD (256 * v.block)))) := if_neg (Nat.not_lt.mpr hr)

/-! ## The answer to a read (R88, R99) -/

/-- GOOD, or RECOVERED with its corrected count, which is 0 for GOOD (R102). -/
abbrev readsWith (a : Answer) (k : Nat) : Prop := (a = .good ∧ k = 0) ∨ a = .recovered k

/-- The answers that fail an attempt in context `v`, with the LBA the drive gave (R99). -/
abbrev failsAttempt (v : Verify) (a : Answer) (f : Option Nat) : Prop :=
  a = .mediaError f ∨ (f = none ∧ ((a = .noDisc ∨ a = .notBlank ∨ a = .tooSmall ∨ a = .aborted) ∨
    (fineAnswer a ∧ v.received ≠ v.blockLen)))

theorem failsAttempt_ready {a : Answer} {f : Option Nat} (h : failsAttempt v a f) : a ≠ .notReady := by
  rcases h with rfl | ⟨-, (rfl | rfl | rfl | rfl) | ⟨h, -⟩⟩
  case inr.inr => exact fine_ready h
  all_goals exact nofun

theorem readResult_complete {a : Answer} (hv : s.verify p = some v) (ha : readsWith a k)
    (hall : v.received = v.blockLen) : s.readResult p (.answer a) = s.completeRead p v k := by
  rcases ha with ⟨rfl, rfl⟩ | rfl <;> simp only [State.readResult, State.readReported, hv, hall, decide_true, if_true]

theorem readResult_failed {a : Answer} {f : Option Nat} (hv : s.verify p = some v) (ha : failsAttempt v a f) :
    s.readResult p (.answer a) = s.failedAttempt p v f := by
  rcases ha with rfl | ⟨rfl, (rfl | rfl | rfl | rfl) | ⟨rfl | ⟨k, rfl⟩, hpart⟩⟩
  case inr.inr.inl | inr.inr.inr =>
    simp only [State.readResult, State.readReported, hv, decide_eq_false hpart, Bool.false_eq_true, if_false]
  all_goals simp only [State.readResult, State.readReported, hv]

theorem exec_read {u : State} {l n : Nat} {a : Answer} (ho : s.owes p (.readBlock l n)) (ha : a ≠ .notReady)
    (hu : (s.afterAnswer p (.readBlock l n) a).readResult p (.answer a) = u) :
    exec (.readAnswer p a) s = .next (State.settle s u) := exec_answered_to ho ha (info := noInfo) hu

/-- A sector within the requested count is counted by the port and fed into the running CRC (R98). -/
theorem readSector_within (hv : s.verify p = some v) (hmore : v.received < v.blockLen) (data : Sector) :
    s.readSector p data = { s with
      ports := upd s.ports p { s.port p with transferred := min 256 ((s.port p).transferred + 1) }
      verifies := upd s.verifies p (some { v with crc := crcRun v.crc data, received := v.received + 1 }) } := by
  have hfed : v.feed data = { v with crc := crcRun v.crc data, received := v.received + 1 } := if_pos hmore
  rw [← hfed, State.readSector, hv]
  rfl

/-- The TIMEOUT of a read is followed by an identify, which waits for the link (R88, log 5). -/
theorem read_timeoutEnd {l n : Nat} : s.timeoutEnd p (.readBlock l n) = { s with
    ports := upd s.ports p { (s.port p).clearCmd with
      link := false, resetting := true, afterReset := some .identify, retries := 0
      lastOutcome := some (.read, .timeout) } } := by
  rw [timeoutEnd_read, State.afterTimeout, modPort_issue]
  rfl

end

/-- Settles O41: a complete read is `completeRead`, whose CRC, peak, position and mean decide the grade in turn; a failed
attempt is `failedAttempt`, which the retry limit decides; `GradedWith` says what a grade leaves. -/
theorem verifyReadsAndGrades : Obligations.VerifyReadsAndGrades := by
  intro s p v d hv hd hq len g graded
  have hbusy : (s.port p).state ≠ .idle := ne_of_eq_of_ne hq nofun
  have grades {l n a m e u} (ho : s.owes p (.readBlock l n)) (ha : a ≠ .notReady)
      (hread : (s.afterAnswer p (.readBlock l n) a).readResult p (.answer a) = u)
      (hu : GradedWith s p (.readBlock l n) a m d e u) : graded l n a m e := by
    obtain ⟨hport, hverify, hdisc, hpasses, hmemory, hjob⟩ := hu
    refine ⟨u, exec_read ho ha hread, hport, hverify, hdisc, hpasses, hmemory, fun j => (hjob j).trans ?_⟩
    cases (s.job j).fault <;> rfl
  refine ⟨?sector, ?complete, ?failed, ?timeout⟩
  case sector =>
    intro data l n hr hc he hp hw hmore
    have hguard : ((s.port p).moving && decide ((s.port p).cmd.map DriveCmd.cls = some .read)) = true := by
      rw [moving_iff.mpr ⟨he, hp, hw⟩, hc]
      rfl
    exact congrArg _ ((quietIf_run hr hguard _).trans (readSector_within hv hmore data))
  case complete =>
    intro l n a k ho ha hall load sum sectors peak mean m fails
    let t := s.afterAnswer p (.readBlock l n) a
    have hready : a ≠ .notReady := fine_ready (ha.imp And.left fun h => ⟨k, h⟩)
    have hread : t.readResult p (.answer a) = t.completeRead p v k := readResult_complete hv ha hall
    have failing {f lba} (hfail : t.completeRead p v k = t.writeGrade p (s.counted v k) .fail (some (f, lba))) :
        fails f lba := grades ho hready (hread.trans hfail) (gradedWith_fail hd hbusy _ f lba)
    have passing {r} (hr : r ≠ .fail) (hpass : t.completeRead p v k = t.writeGrade p (s.counted v k) r none) :
        graded l n a m { d with grade := some r } :=
      grades ho hready (hread.trans hpass) (gradedWith_clean hd hbusy _ hr)
    refine ⟨fun hcrc => failing (completeRead_mismatch hcrc), fun hcrc => ⟨fun hpeak => ?_, fun hpeak hmore => ?_,
      fun hpeak hend => ?_⟩⟩
    · exact failing (completeRead_peak hcrc hpeak)
    · have hnext := completeRead_next (s := t) (p := p) hcrc hpeak hmore
      exact exec_read ho hready (hread.trans (hnext.trans (readBlock_afterAnswer _)))
    · have hgrade : t.completeRead p v k = t.decideGrade p (s.counted v k) g := completeRead_end hcrc hpeak hend
      exact ⟨fun hmean => failing (hgrade.trans (decideGrade_fail hmean)),
        fun hmean hwarn => passing nofun (hgrade.trans (decideGrade_marginal hmean hwarn)),
        fun hmean hwarn hlow => passing nofun (hgrade.trans (decideGrade_pass hmean hwarn hlow))⟩
  case failed =>
    intro l n a f ho ha at_
    let t := s.afterAnswer p (.readBlock l n) a
    have hready : a ≠ .notReady := failsAttempt_ready ha
    have hread : t.readResult p (.answer a) = t.failedAttempt p v f := readResult_failed hv ha
    refine ⟨fun hr => ?_, fun hr => ?_⟩
    · have hagain := failedAttempt_again (s := t) (p := p) (f := f) hr
      exact exec_read ho hready (hread.trans (hagain.trans (readBlock_afterAnswer _)))
    · exact grades ho hready (hread.trans (failedAttempt_spent hr)) (gradedWith_fail hd hbusy _ _ _)
  case timeout =>
    intro l n hr hc he hp hw ha
    rw [exec_commandTimeout hr hc he hp hw ha, read_timeoutEnd]
    rfl

end Sys2Proof.Machine

namespace Sys2Proof.Machine

/-! ## The coverage of a sampled verify (R97) -/

section
variable {k b : Nat}

theorem coverageBlock_sampled (i : Nat) : coverageBlock true k b i = min (i * k) (b - 1) := rfl

theorem plannedCount_sampled :
    plannedCount true k b = (b - 1) / k + 1 + (if (b - 1) % k = 0 then 0 else 1) := rfl

/-- A position is followed by another exactly when its multiple of the stride comes before the last block. -/
theorem lt_planned_iff (hk : 0 < k) (i : Nat) : i + 1 < plannedCount true k b ↔ i * k < b - 1 := by
  have hdiv := Nat.div_add_mod' (b - 1) k
  have hmod := Nat.mod_lt (b - 1) hk
  rw [plannedCount_sampled]
  split
  case isTrue hzero =>
    have hlast : (b - 1) / k * k = b - 1 := by rwa [hzero, Nat.add_zero] at hdiv
    rw [← hlast, Nat.mul_lt_mul_right hk, hlast]
    omega
  case isFalse hpart =>
    have hstride : i * k < b - 1 ↔ i ≤ (b - 1) / k := by
      refine ⟨fun h => (Nat.le_div_iff_mul_le hk).mpr h.le, fun h => ?_⟩
      have hle := Nat.mul_le_mul_right k h
      omega
    rw [hstride]
    omega

theorem planned_pos : 0 < plannedCount true k b := Nat.add_pos_left (Nat.succ_pos _) _

theorem coverageBlock_lt_succ (hk : 0 < k) {i : Nat} (hi : i + 1 < plannedCount true k b) :
    coverageBlock true k b i < coverageBlock true k b (i + 1) := by
  have hbefore := (lt_planned_iff hk i).mp hi
  rw [coverageBlock_sampled, coverageBlock_sampled, Nat.succ_mul]
  omega

theorem coverageBlock_last (hk : 0 < k) : coverageBlock true k b (plannedCount true k b - 1) = b - 1 := by
  have hend : ¬ plannedCount true k b - 1 + 1 < plannedCount true k b := by have := @planned_pos k b; omega
  rw [lt_planned_iff hk] at hend
  exact min_eq_right (Nat.not_lt.mp hend)

/-- The blocks of the coverage are the multiples of the stride and the last block. -/
theorem covered_iff (hk : 0 < k) (hb : 0 < b) (n : Nat) :
    (∃ i, i < plannedCount true k b ∧ coverageBlock true k b i = n) ↔ (n < b ∧ k ∣ n) ∨ n = b - 1 := by
  constructor
  · rintro ⟨i, -, rfl⟩
    rw [coverageBlock_sampled]
    by_cases hi : i * k < b - 1
    · rw [min_eq_left hi.le]
      exact .inl ⟨by omega, Nat.dvd_mul_left k i⟩
    · exact .inr (min_eq_right (Nat.not_lt.mp hi))
  · have last : ∃ i, i < plannedCount true k b ∧ coverageBlock true k b i = b - 1 :=
      ⟨_, Nat.sub_one_lt planned_pos.ne', coverageBlock_last hk⟩
    rintro (⟨hn, i, rfl⟩ | rfl)
    · rw [Nat.mul_comm] at hn ⊢
      by_cases hi : i * k < b - 1
      · have hplanned := (lt_planned_iff hk i).mpr hi
        exact ⟨i, by omega, min_eq_left hi.le⟩
      · have hlast : i * k = b - 1 := by omega
        rwa [hlast]
    · exact last

end

/-- Settles O42: a FULL coverage is every block in order; a sampled one takes the multiples of its stride before the last block
and then the last block (`lt_planned_iff`). -/
theorem coverageIsPlanned : Obligations.CoverageIsPlanned := by
  refine ⟨fun b _ k => ⟨rfl, fun i => rfl⟩, fun k b hk hb => ?_⟩
  have hstride : 0 < k := by omega
  exact ⟨plannedCount_sampled, fun i => coverageBlock_lt_succ hstride, coverageBlock_last hstride, covered_iff hstride hb⟩

end Sys2Proof.Machine

namespace Sys2Proof.Machine

/-! ## The tags of the roster (R115) -/

/-- The tag of the record at each place. -/
def State.tags (s : State) (p : Place) : Option Half := (s.disc p).map Disc.tag

theorem tags_eq_some {s : State} {p : Place} {t : Half} : s.tags p = some t ↔ ∃ d, s.disc p = some d ∧ d.tag = t :=
  Option.map_eq_some_iff

theorem tagsOk_iff {s : State} : s.tagsOk ↔ ∀ p q t, s.tags p = some t → s.tags q = some t → p = q := by
  constructor
  · intro h p q t hp hq
    obtain ⟨d, hd, rfl⟩ := tags_eq_some.mp hp
    obtain ⟨e, he, hde⟩ := tags_eq_some.mp hq
    exact h p q d e hd he hde.symm
  · intro h p q d e hd he hde
    exact h p q d.tag (tags_eq_some.mpr ⟨d, hd, rfl⟩) (tags_eq_some.mpr ⟨e, he, hde.symm⟩)

theorem tagsOk_of_tags {s t : State} (h : t.tags = s.tags) (hs : s.tagsOk) : t.tagsOk := by
  rw [tagsOk_iff] at *
  rwa [h]

theorem tags_of_places {s t : State} (h : t.places = s.places) : t.tags = s.tags := by
  funext p
  simp only [State.tags, State.disc, h]

theorem setDisc_tags (s : State) (p q : Place) (d : Option Disc) :
    (s.setDisc p d).tags q = if q = p then d.map Disc.tag else s.tags q := by
  unfold State.tags
  rw [disc_setDisc]
  split <;> rfl

theorem modDisc_tags (s : State) (p : Place) {f : Disc → Disc} (hf : ∀ d, (f d).tag = d.tag) :
    (s.modDisc p f).tags = s.tags := by
  funext q
  unfold State.modDisc
  rw [setDisc_tags]
  split
  · next h =>
    subst h
    rw [Option.map_map]
    exact congrArg (Option.map · (s.disc q)) (funext hf)
  · rfl

theorem foldl_tags {α : Type} {f : State → α → State} (h : ∀ s a, (f s a).tags = s.tags) (l : List α) (s : State) :
    (l.foldl f s).tags = s.tags :=
  foldl_rel (R := fun a b : State => b.tags = a.tags) (fun _ => rfl) (fun h g => Eq.trans g h) h l s

/-! ## What moves no record: the state's parts and the ports -/

section
variable (s : State) (p : PortId) (j : JobId)

@[simp] theorem modJob_tags (f : Job → Job) : (s.modJob j f).tags = s.tags := rfl
@[simp] theorem setPass_tags (x : Option Pass) : (s.setPass j x).tags = s.tags := rfl
@[simp] theorem modPass_tags (f : Pass → Pass) : (s.modPass j f).tags = s.tags := rfl
@[simp] theorem modPort_tags (f : Port → Port) : (s.modPort p f).tags = s.tags := rfl
@[simp] theorem setVerify_tags (x : Option Verify) : (s.setVerify p x).tags = s.tags := rfl
@[simp] theorem modTransport_tags (f : Transport → Transport) : (s.modTransport f).tags = s.tags := rfl
@[simp] theorem modPrinter_tags (f : Printer → Printer) : (s.modPrinter f).tags = s.tags := rfl
@[simp] theorem modLink_tags (f : Link → Link) : (s.modLink f).tags = s.tags := rfl
@[simp] theorem modNotices_tags (f : Notices → Notices) : (s.modNotices f).tags = s.tags := rfl
@[simp] theorem modLines_tags (f : Lines → Lines) : (s.modLines f).tags = s.tags := rfl
@[simp] theorem modSensors_tags (f : Sensors → Sensors) : (s.modSensors f).tags = s.tags := rfl
@[simp] theorem until_tags (d : Option Nat) : (s.until d).tags = s.tags := rfl
@[simp] theorem raise_tags (x : Notice) : (s.raise x).tags = s.tags := rfl
@[simp] theorem withdraw_tags (x : Notice) : (s.withdraw x).tags = s.tags := rfl
@[simp] theorem removeRequests_tags (f : ReqKind → Bool) : (s.removeRequests f).tags = s.tags := rfl
@[simp] theorem createRequest_tags (k : ReqKind) : (s.createRequest k).tags = s.tags := rfl
@[simp] theorem issue_tags (c : DriveCmd) : (s.issue p c).tags = s.tags := rfl
@[simp] theorem gotoPort_tags (x : PortState) : (s.gotoPort p x).tags = s.tags := rfl
@[simp] theorem goIdle_tags : (s.goIdle p).tags = s.tags := rfl
@[simp] theorem goDone_tags : (s.goDone p).tags = s.tags := rfl
@[simp] theorem goProbe_tags : (s.goProbe p).tags = s.tags := rfl
@[simp] theorem goRecovery_tags : (s.goRecovery p).tags = s.tags := rfl
@[simp] theorem goOpening_tags (e : Errand) : (s.goOpening p e).tags = s.tags := rfl
@[simp] theorem goClosing_tags : (s.goClosing p).tags = s.tags := rfl
@[simp] theorem goChecking_tags : (s.goChecking p).tags = s.tags := rfl
@[simp] theorem takeOutcome_tags (c : CmdClass) (o : Outcome) : (s.takeOutcome p c o).tags = s.tags := rfl
@[simp] theorem readBlock_tags (v : Verify) : (s.readBlock p v).tags = s.tags := rfl
@[simp] theorem faultOf_tags (c : FaultCause) (n : Option Half) (q : Option PortId) (l : Option Nat)
    (t : Option Half) : (s.faultOf j c n q l t).tags = s.tags := rfl

@[simp] theorem goFaulted_tags : (s.goFaulted p).tags = s.tags := tags_of_places goFaulted_places

@[simp] theorem goOffline_tags : (s.goOffline p).tags = s.tags := by
  unfold State.goOffline
  dsimp only
  split <;> rfl

@[simp] theorem trayServed_tags : (s.trayServed p).tags = s.tags := by
  unfold State.trayServed
  split <;> rfl

@[simp] theorem memberLeaves_tags (st : MemberStatus) : (s.memberLeaves p st).tags = s.tags := by
  unfold State.memberLeaves
  split <;> rfl

@[simp] theorem handFault_tags (c : FaultCause) (l : Option Nat) : (s.handFault p c l).tags = s.tags := by
  rcases handFault_cases s p c l with ⟨d, j, -, -, e⟩ | e <;> rw [e]
  exact faultOf_tags s j c _ _ _ _

@[simp] theorem countJob_tags (k : Option JobId) (f : Counters → Counters) : (s.countJob k f).tags = s.tags := by
  cases k <;> rfl

@[simp] theorem appendReport_tags (b : Bool) (r : Report) : (s.appendReport b r).tags = s.tags :=
  tags_of_places (by rw [appendReport_frame])

theorem outbound_tags (s0 : State) : (State.outbound s0 s).tags = s.tags := by
  obtain ⟨rest, -, e⟩ := outbound_appends s0 s
  rw [e]
  rfl

@[simp] theorem sleepPort_tags : (s.sleepPort p).tags = s.tags := by
  unfold State.sleepPort
  split <;> rfl

/-! ## What rewrites a record in its place -/

@[simp] theorem scrapDisc_tags (q : Place) (c : FaultCause) (l : Option Nat) :
    (s.modDisc q fun d => d.scrap c l).tags = s.tags := modDisc_tags s q fun d => scrap_tag d c l

@[simp] theorem giveUpBlank_tags : (s.giveUpBlank p).tags = s.tags := modDisc_tags s _ fun _ => rfl

@[simp] theorem giveUpBlanks_tags : (s.giveUpBlanks j).tags = s.tags :=
  foldl_tags (f := State.giveUpAt j) (fun s p => by unfold State.giveUpAt; split <;> simp) (numbers 16) s

@[simp] theorem enterDraining_tags : (s.enterDraining j).tags = s.tags := by
  simp [State.enterDraining]

@[simp] theorem failBurn_tags (c : FaultCause) (l : Option Nat) : (s.failBurn p c l).tags = s.tags := by
  simp [State.failBurn]

@[simp] theorem abortMember_tags (c : FaultCause) : (s.abortMember j c p).tags = s.tags := by
  have hreturned : ∀ t : State, (t.modDisc (.tray p) fun d => { d with pass := none }).tags = t.tags :=
    fun t => modDisc_tags t _ fun _ => rfl
  unfold State.abortMember
  dsimp only
  (repeat' split) <;> simp [hreturned]

@[simp] theorem abortPass_tags (c : AbortCause) (l : Option Nat) : (s.abortPass j c l).tags = s.tags := by
  have hmembers := foldl_tags (f := fun t n => State.abortMember t j c.fault n) fun t n => abortMember_tags t n j _
  unfold State.abortPass
  dsimp only
  (repeat' split) <;> simp [hmembers]

@[simp] theorem joinWave_tags : (s.joinWave j p).tags = s.tags := by
  unfold State.joinWave
  split
  · split
    · rfl
    · exact modDisc_tags (s.setPass j _) _ fun _ => rfl
  · rfl

@[simp] theorem enterLoaded_tags : (s.enterLoaded p j).tags = s.tags := by
  have hloaded : ((s.modDisc (.tray p) fun d => { d with state := .loaded }).gotoPort p .loaded).tags = s.tags :=
    modDisc_tags s _ fun _ => rfl
  unfold State.enterLoaded
  dsimp only
  split
  · rw [joinWave_tags, hloaded]
  · exact hloaded

@[simp] theorem launchMember_tags : (s.launchMember j p).tags = s.tags := by
  unfold State.launchMember
  split
  · exact modDisc_tags (s.modPass j _) _ fun _ => rfl
  · rfl

@[simp] theorem launch_tags : (s.launch j).tags = s.tags := by
  have hmembers := foldl_tags (f := fun t p => State.launchMember t j p) fun t p => launchMember_tags t p j
  simp [State.launch, hmembers]

@[simp] theorem cutMember_tags (m : Member) : (s.cutMember j m).tags = s.tags := by
  simp [State.cutMember]

@[simp] theorem examine_tags : (s.examine j).tags = s.tags := by
  have hcut := foldl_tags (f := fun t m => State.cutMember t j m) fun t m => cutMember_tags t j m
  unfold State.examine
  dsimp only
  (repeat' split) <;> simp [hcut]

@[simp] theorem endPass_tags : (s.endPass j).tags = s.tags := by
  unfold State.endPass
  (repeat' split) <;> simp

@[simp] theorem issueWrite_tags : (s.issueWrite j p).tags = s.tags := by
  unfold State.issueWrite
  dsimp only
  (repeat' split) <;> rfl

@[simp] theorem settleJob_tags : (s.settleJob j).tags = s.tags := by
  have hwrites := foldl_tags (f := fun t p => State.issueWrite t j p) fun t p => issueWrite_tags t p j
  unfold State.settleJob
  dsimp only
  rw [hwrites]
  split <;> simp

@[simp] theorem completeJob_tags : (s.completeJob j).tags = s.tags := by
  unfold State.completeJob
  (repeat' split) <;> rfl

@[simp] theorem raiseWaveReady_tags (s0 : State) : (State.raiseWaveReady s0 s j).tags = s.tags := by
  unfold State.raiseWaveReady
  split <;> rfl

@[simp] theorem writeComplete_tags (seg : Nat) : (s.writeComplete p seg).tags = s.tags := by
  unfold State.writeComplete
  dsimp only
  (repeat' split) <;> rfl

@[simp] theorem blockDigest_tags (b : Nat) (d : Word) : (s.blockDigest j b d).1.tags = s.tags := by
  unfold State.blockDigest
  dsimp only
  (repeat' split) <;> rfl

@[simp] theorem composeSector_tags (d : Sector) : (s.composeSector j d).1.tags = s.tags := by
  unfold State.composeSector
  dsimp only
  split
  · rfl
  · split
    · exact blockDigest_tags _ j _ _
    · rfl

@[simp] theorem composeSectors_tags (ds : List Sector) : (s.composeSectors j ds).1.tags = s.tags := by
  rw [composeSectors_eq]
  exact foldl_rel (f := composeNext j) (R := fun a b => b.1.tags = a.1.tags) (fun _ => rfl) (fun h g => g.trans h)
    (fun r d => composeSector_tags r.1 j d) ds (s, none)

theorem afterCompose_tags (r : State × Option Nat) : (State.afterCompose j r).tags = r.1.tags := by
  unfold State.afterCompose
  split <;> simp

@[simp] theorem imageFrame_tags (b : Byte) (pl : List Byte) : (s.imageFrame b pl).tags = s.tags := by
  match hf : s.framePass b pl with
  | none => rw [imageFrame_stray hf]; rfl
  | some (k, x) =>
    match ha : x.accepts (s.job k) pl with
    | true => simp [imageFrame_taken hf ha, afterCompose_tags]
    | false => simp [imageFrame_faulty hf ha]

@[simp] theorem fillOne_tags : (s.fillOne j).tags = s.tags := by
  unfold State.fillOne
  split
  · rfl
  · split
    · exact (afterCompose_tags j _).trans (composeSector_tags s j _)
    · rfl

@[simp] theorem writeGrade_tags (v : Verify) (g : Grade) (f : Option (FaultCause × Option Nat)) :
    (s.writeGrade p v g f).tags = s.tags := by
  cases f with
  | none => exact modDisc_tags s _ fun _ => rfl
  | some => exact (handFault_tags _ p _ _).trans (modDisc_tags s _ fun _ => rfl)

@[simp] theorem startVerify_tags : (s.startVerify p).tags = s.tags := by
  unfold State.startVerify
  (repeat' split) <;> rfl

@[simp] theorem decideGrade_tags (v : Verify) (g : Profile) : (s.decideGrade p v g).tags = s.tags := by
  unfold State.decideGrade
  split <;> simp

@[simp] theorem completeRead_tags (v : Verify) (n : Nat) : (s.completeRead p v n).tags = s.tags := by
  unfold State.completeRead
  dsimp only
  (repeat' split) <;> simp

@[simp] theorem failedAttempt_tags (v : Verify) (l : Option Nat) : (s.failedAttempt p v l).tags = s.tags := by
  unfold State.failedAttempt
  dsimp only
  split <;> simp

@[simp] theorem readReported_tags (o : Outcome) : (s.readReported p o).tags = s.tags := by
  unfold State.readReported
  dsimp only
  (repeat' split) <;> simp

end

end Sys2Proof.Machine

namespace Sys2Proof.Machine

/-! ## What keeps the tags distinct (R115)

A record leaves its place, changes its place, or is created with a tag that no record holds. -/

section
variable {s : State} (h : s.tagsOk)
include h

theorem State.tagsOk.same {t : State} (ht : t.tags = s.tags) : t.tagsOk := tagsOk_of_tags ht h

theorem State.tagsOk.foldl {α : Type} {f : State → α → State} (hf : ∀ t a, t.tagsOk → (f t a).tagsOk) {l : List α} :
    (l.foldl f s).tagsOk :=
  foldl_rel (R := fun a b : State => a.tagsOk → b.tagsOk) (fun _ => id) (fun h g => g ∘ h) hf l s h

/-- A record is written whose tag stands at no other place. -/
theorem State.tagsOk.setDisc {q : Place} {d : Option Disc}
    (hd : ∀ p t, p ≠ q → d.map Disc.tag = some t → s.tags p ≠ some t) :
    (s.setDisc q d).tagsOk := by
  refine tagsOk_iff.mpr fun a b t ha hb => ?_
  rw [setDisc_tags] at ha hb
  split at ha <;> split at hb
  · next haq hbq => exact haq.trans hbq.symm
  · next _ hbq => exact absurd hb (hd b t hbq ha)
  · next haq _ => exact absurd ha (hd a t haq hb)
  · exact tagsOk_iff.mp h a b t ha hb

theorem State.tagsOk.clear {q : Place} : (s.setDisc q none).tagsOk := h.setDisc fun _ _ _ hd => nomatch hd

/-- A record goes from its place to another. -/
theorem State.tagsOk.move {p q : Place} {d e : Disc} (hd : s.disc p = some d) (he : e.tag = d.tag) :
    ((s.setDisc p none).setDisc q (some e)).tagsOk := by
  refine h.clear.setDisc fun r t _ ht hr => ?_
  rw [setDisc_tags] at hr
  split at hr
  · cases hr
  · next hne =>
    cases ht
    exact hne (tagsOk_iff.mp h r p _ hr (tags_eq_some.mpr ⟨d, hd, he.symm⟩))

/-! ## The roster's own moves -/

/-- A new record takes a tag that no record holds (R115). -/
theorem State.tagsOk.createDisc {q : Place} {j : Option JobId} {st : DiscState} {f : Disc → Disc}
    (hf : ∀ d, (f d).tag = d.tag) : (s.createDisc q j st f).tagsOk := by
  obtain ⟨_, _, _, hfree, _⟩ := freshTag_next s
  refine State.tagsOk.same (s := s.setDisc q (some (f (Disc.new s.freshTag j st))))
    (h.setDisc fun p t _ ht hp => ?_) rfl
  obtain ⟨e, he, het⟩ := tags_eq_some.mp hp
  rw [Option.map_some, hf] at ht
  cases ht
  exact hfree p e he het

theorem State.tagsOk.createOrphan {q : Place} : (s.createOrphan q).tagsOk :=
  h.createDisc fun _ => by split <;> rfl

theorem State.tagsOk.pick {p : PortId} {j : JobId} {b : Bool} : (s.pick p j b).tagsOk := by
  have hnew : (if b then
        s.createDisc .arm (some j) .scrap fun d => { d with cause := some .doublePick, dest := some (.out .x) }
      else s.createDisc .arm (some j) .feeding fun d => { d with dest := some (.tray p) }).tagsOk := by
    split
    · exact h.createDisc fun _ => rfl
    · exact h.createDisc fun _ => rfl
  exact hnew.same (countJob_tags _ _ _)

theorem State.tagsOk.freePlace {q : Place} : (s.freePlace q).tagsOk := h.clear.same rfl

theorem State.tagsOk.liftDisc {q : Place} {st : Station} : (s.liftDisc q st).tagsOk := by
  unfold State.liftDisc
  split
  · exact h
  · next d hd => exact (h.move (q := .arm) (e := { d with dest := some st }) hd rfl).same rfl

theorem State.tagsOk.arrive {q : Place} : (s.arrive q).tagsOk := by
  unfold State.arrive
  split
  · exact h
  · next d hd =>
    cases q with
    | tray n => exact h.move hd rfl
    | arm => exact h.move hd rfl
    | platter => exact h.move hd (by dsimp only; split <;> rfl)
    | shelf k => exact (h.move (q := .shelf k) (e := { d with dest := none }) hd rfl).same rfl

theorem State.tagsOk.deliver {b : OutBin} : (s.deliver b).tagsOk := by
  unfold State.deliver
  split
  · exact h
  · next d _ =>
    have hgone : ∀ r,
        (((s.countJob d.job fun c => c.deliver b d.grade).appendReport true r).setDisc .arm none).tagsOk :=
      fun r => State.tagsOk.clear (h.same (by simp))
    dsimp only
    split
    · exact hgone _
    · split
      · exact hgone _
      · unfold State.checkTarget
        dsimp only
        split
        · exact (hgone _).same (enterDraining_tags _ _)
        · exact hgone _

theorem State.tagsOk.returnDisc : s.returnDisc.tagsOk := by
  unfold State.returnDisc
  split
  · exact h
  · exact State.tagsOk.clear (h.same (countJob_tags _ _ _))

theorem State.tagsOk.lose {q : Place} {c : LossCause} {b : Bool} : (s.lose q c b).tagsOk := by
  unfold State.lose
  split
  · exact h
  · exact State.tagsOk.freePlace (h.same (by simp))

end

/-! ## What moves no record: the printer and the arm -/

section
variable (s : State) (m : Move) (p : PortId) (q : Place)

@[simp] theorem giveUpReservation_tags : s.giveUpReservation.tags = s.tags := rfl
@[simp] theorem returnRequest_tags (r : Request) : (s.returnRequest r).tags = s.tags := rfl
@[simp] theorem enterPhase_tags (ph : Phase) : (s.enterPhase m ph).tags = s.tags := rfl
@[simp] theorem endMove_tags : s.endMove.tags = s.tags := rfl
@[simp] theorem armFault_tags (c : TransportCause) (st : Option Station) : (s.armFault c st).tags = s.tags := rfl
@[simp] theorem printerFault_tags : s.printerFault.tags = s.tags := rfl
@[simp] theorem mark_tags (i : BinId) (b : Bool) : (s.mark i b).tags = s.tags := rfl

@[simp] theorem unloadPlatter_tags : s.unloadPlatter.tags = s.tags := by
  unfold State.unloadPlatter
  split <;> rfl

theorem spoil_tag (d : Disc) : d.spoil.tag = d.tag := scrap_tag d _ _

@[simp] theorem spoilPrint_tags : s.spoilPrint.tags = s.tags :=
  (unloadPlatter_tags _).trans (modDisc_tags s .platter spoil_tag)

@[simp] theorem finishPrint_tags : s.finishPrint.tags = s.tags :=
  (unloadPlatter_tags _).trans (modDisc_tags s .platter fun _ => rfl)

@[simp] theorem commitSerial_tags (j : JobId) : (s.commitSerial j).tags = s.tags := by
  have hserial : ∀ n, (s.modDisc .platter fun d => { d with serial := some n, void := false }).tags = s.tags :=
    fun _ => modDisc_tags s _ fun _ => rfl
  unfold State.commitSerial
  dsimp only
  split <;> exact hserial _

@[simp] theorem commitLabel_tags : s.commitLabel.tags = s.tags := by
  unfold State.commitLabel
  split
  · rfl
  · split
    · rfl
    · dsimp only
      split <;> simp

@[simp] theorem proceedLabel_tags : s.proceedLabel.tags = s.tags := by
  unfold State.proceedLabel
  split <;> simp

@[simp] theorem platterTaken_tags : s.platterTaken.tags = s.tags := by
  have hspoiled : (s.modDisc .arm Disc.spoil).tags = s.tags := modDisc_tags s .arm spoil_tag
  unfold State.platterTaken
  dsimp only
  split <;> simp [hspoiled]

@[simp] theorem platterLost_tags : s.platterLost.tags = s.tags := by
  have hvoided : (s.modDisc .platter fun d => { d with void := d.serial.isSome }).tags = s.tags :=
    modDisc_tags s _ fun _ => rfl
  unfold State.platterLost
  dsimp only
  split <;> simp [hvoided]

@[simp] theorem holdPort_tags : (s.holdPort m).tags = s.tags := by
  unfold State.holdPort
  split <;> rfl

@[simp] theorem closeMove_tags (b : Bool) (st : Option Station) : (s.closeMove m b st).tags = s.tags := by
  unfold State.closeMove
  split <;> simp

@[simp] theorem createFeed_tags : (s.createFeed p).tags = s.tags := by
  unfold State.createFeed
  (repeat' split) <;> rfl

@[simp] theorem createRecover_tags : (s.createRecover q).tags = s.tags := by
  unfold State.createRecover
  dsimp only
  (repeat' split) <;> rfl

@[simp] theorem createUnload_tags : (s.createUnload p).tags = s.tags := by
  unfold State.createUnload
  (repeat' split) <;> rfl

@[simp] theorem feedPort_tags : (s.feedPort p).tags = s.tags := by
  unfold State.feedPort
  split <;> simp

@[simp] theorem createPrintLoad_tags : s.createPrintLoad.tags = s.tags := by
  unfold State.createPrintLoad
  dsimp only
  split <;> rfl

@[simp] theorem servePort_tags : (s.servePort p).tags = s.tags := by
  unfold State.servePort
  dsimp only
  (repeat' split) <;> rfl

@[simp] theorem compareSensor_tags (k : BinSensor) : (s.compareSensor k).tags = s.tags := by
  unfold State.compareSensor
  dsimp only
  split <;> rfl

@[simp] theorem sensorChanges_tags (k : BinSensor) (b : Bool) : (s.sensorChanges k b).tags = s.tags := by
  unfold State.sensorChanges
  split
  · rfl
  · cases k <;> simp

theorem arrived_tags : s.arrived.tags = s.tags := by
  unfold State.arrived State.onMove
  dsimp only
  (repeat' split) <;> rfl

end

/-! ## Moves of the arm -/

section
variable {s : State} (h : s.tagsOk) {m : Move} {b : Bool} {q : Place}
include h

theorem State.tagsOk.gripAtBin {i : BinId} {p : PortId} {j : JobId} : (s.gripAtBin m i p j b).tagsOk := by
  unfold State.gripAtBin
  dsimp only
  (repeat' split)
  · exact (h.pick (p := p) (j := j) (b := true)).same (by simp)
  · exact (h.pick (p := p) (j := j) (b := true)).same (by simp)
  · exact h.pick.same (closeMove_tags _ m true _)
  · exact h.pick.same (enterPhase_tags _ m _)
  · exact h.same (by simp)

theorem State.tagsOk.gripAtPlace : (s.gripAtPlace m q b).tagsOk := by
  unfold State.gripAtPlace
  dsimp only
  split
  · have hlifted := h.liftDisc (q := q) (st := m.dest)
    split
    · exact hlifted.same (by cases q <;> simp)
    · exact hlifted.same (by cases q <;> simp)
  · have hvoided : (if q = .platter then s.giveUpReservation.platterLost else s.giveUpReservation).tagsOk := by
      split
      · exact h.same (by simp)
      · exact h
    have hlost := hvoided.lose (q := q) (c := .discMissing) (b := false)
    exact hlost.same (by cases q <;> simp)

theorem State.tagsOk.judgeGrip : (s.judgeGrip m b).tagsOk := by
  unfold State.judgeGrip
  split
  · exact h.gripAtBin
  · exact h.gripAtPlace
  · exact h

theorem State.tagsOk.land : (s.land m).tagsOk := by
  unfold State.land
  split
  · exact h.deliver
  · exact h.returnDisc
  · exact h.arrive
  · exact h.arrive
  · have harrived := h.arrive (q := .platter)
    dsimp only
    (repeat' split)
    · exact harrived.same rfl
    · exact harrived
    · exact harrived

theorem State.tagsOk.judgeRelease : (s.judgeRelease m b).tagsOk := by
  unfold State.judgeRelease
  dsimp only
  split
  · split
    · exact h.same (by simp)
    · exact h.same (by simp)
  · split
    · exact h.land.same (closeMove_tags _ m true _)
    · refine (h.land (m := m)).same ?_
      split <;> simp

theorem State.tagsOk.stall : (s.stall m).tagsOk := by
  unfold State.stall
  split
  · exact h.same (by simp)
  · exact h.judgeGrip
  · exact h.same (by simp)
  · exact h.judgeRelease

theorem State.tagsOk.drop : (s.drop m).tagsOk :=
  (h.lose (q := .arm) (c := .dropped) (b := m.reserved)).same (by simp [State.drop])

theorem State.tagsOk.onMove {f : Move → State → State} (hf : ∀ m, (f m s).tagsOk) : (s.onMove f).tagsOk := by
  unfold State.onMove
  split
  · exact h
  · exact hf _

/-- A granted request lifts a record at once only where the record is at ARM (R143, R144). -/
theorem State.tagsOk.arbitrate : s.arbitrate.tagsOk := by
  unfold State.arbitrate State.grantRequest
  dsimp only
  split
  · exact h
  · split
    · exact h
    · split
      · refine State.tagsOk.judgeGrip (h.same ?_)
        split <;> simp
      · refine h.same ?_
        split <;> simp

theorem State.tagsOk.settleTransport : s.settleTransport.tagsOk := by
  have hpruned : s.pruneRequests.tagsOk := h.same rfl
  have hunloads := hpruned.same (foldl_tags createUnload_tags (numbers 16) _)
  have hfeeds := hunloads.same (foldl_tags feedPort_tags (numbers 16) _)
  have hserved := (hfeeds.same (createPrintLoad_tags _)).same (foldl_tags servePort_tags (numbers 16) _)
  exact hserved.arbitrate

/-! ## Homing and the gripper -/

theorem State.tagsOk.foundOrphan : ((s.createOrphan q).createRecover q).tagsOk :=
  h.createOrphan.same (createRecover_tags _ q)

theorem State.tagsOk.inventoryPlace : (s.inventoryPlace q b).tagsOk := by
  unfold State.inventoryPlace
  split
  · split
    · exact h.foundOrphan
    · exact h
  · split
    · split
      · exact h.same (createRecover_tags s q)
      · exact h
    · refine State.tagsOk.lose ?_
      split
      · exact h.same (platterLost_tags s)
      · exact h

theorem State.tagsOk.readGripper : s.readGripper.tagsOk := by
  unfold State.readGripper
  split
  · exact h.foundOrphan
  · exact h
  · exact h.same (createRecover_tags s _)
  · exact h.lose

theorem State.tagsOk.inventory : s.inventory.tagsOk := by
  have hshelves := h.foldl (l := numbers 4)
    (f := fun (t : State) k => t.inventoryPlace (.shelf k) (nth t.sensors.shelf k)) fun _ _ ht => ht.inventoryPlace
  unfold State.inventory
  exact (State.tagsOk.readGripper hshelves.inventoryPlace).same (modTransport_tags _ _)

theorem State.tagsOk.homed : s.homed.tagsOk :=
  h.inventory.same (by rw [State.homed, raise_tags, modTransport_tags])

theorem State.tagsOk.gripperIdle : (s.gripperIdle b).tagsOk := by
  have hidle : State.tagsOk (match s.disc .arm, b with
      | some _, false =>
        let u := s.lose .arm .dropped false
        if s.transport.state = .fault then u else u.armFault .dropped none
      | none, true => (s.createOrphan .arm).createRecover .arm
      | _, _ => s) := by
    split
    · dsimp only
      split
      · exact h.lose
      · exact h.lose.same (armFault_tags _ _ _)
    · exact h.foundOrphan
    · exact h
  unfold State.gripperIdle
  split
  · exact h
  · exact h
  all_goals exact hidle

theorem State.tagsOk.gripperChanges : (s.gripperChanges b).tagsOk := by
  have hlevel : ∀ f : Sensors → Sensors, (s.modSensors f).tagsOk := fun _ => h
  unfold State.gripperChanges
  dsimp only
  (repeat' split)
  · exact h
  · exact (hlevel _).gripperIdle
  · exact (hlevel _).drop
  · exact h

end

end Sys2Proof.Machine

namespace Sys2Proof.Machine

/-! ## What moves no record: drives, the receiver and the transmitter -/

section
variable (s : State) (p : PortId)

theorem retry_tags (c : DriveCmd) (r : Nat) {f : State → State} (h : (f s).tags = s.tags) :
    (s.retry p c r f).tags = s.tags := by
  unfold State.retry
  split
  · rfl
  · exact h

@[simp] theorem online_tags : (s.online p).tags = s.tags := by
  unfold State.online
  split <;> rfl

@[simp] theorem loseVerify_tags : (s.loseVerify p).tags = s.tags := by
  simp [State.loseVerify]

@[simp] theorem endRecovery_tags : (s.endRecovery p).tags = s.tags := by
  unfold State.endRecovery
  (repeat' split) <;> rfl

@[simp] theorem trayResult_tags (c : DriveCmd) (r : Nat) (o : Outcome) : (s.trayResult p c r o).tags = s.tags := by
  have hopened : (s.trayOpened p).tags = s.tags := by
    unfold State.trayOpened
    split <;> rfl
  have hclosed : (s.trayClosed p).tags = s.tags := by
    unfold State.trayClosed
    (repeat' split) <;> simp
  unfold State.trayResult
  (repeat' split) <;> simp [hopened, hclosed, retry_tags]

@[simp] theorem sleepResult_tags (o : Outcome) : (s.sleepResult p o).tags = s.tags := by
  unfold State.sleepResult
  (repeat' split) <;> simp

@[simp] theorem wakeResult_tags (o : Outcome) : (s.wakeResult p o).tags = s.tags := by
  unfold State.wakeResult
  (repeat' split) <;> simp

@[simp] theorem blankGood_tags : (s.blankGood p).tags = s.tags := by
  unfold State.blankGood
  (repeat' split) <;> simp

@[simp] theorem blankScrap_tags (c : FaultCause) : (s.blankScrap p c).tags = s.tags :=
  scrapDisc_tags s _ c none

@[simp] theorem writeResult_tags (seg : Nat) (o : Outcome) : (s.writeResult p seg o).tags = s.tags := by
  unfold State.writeResult
  split <;> simp

@[simp] theorem finishFails_tags (o : Outcome) : (s.finishFails p o).tags = s.tags := by
  unfold State.finishFails
  split <;> simp

@[simp] theorem syncResult_tags (o : Outcome) : (s.syncResult p o).tags = s.tags := by
  unfold State.syncResult
  split <;> simp

@[simp] theorem finalised_tags : (s.finalised p).tags = s.tags := by
  unfold State.finalised
  dsimp only
  split
  · exact modDisc_tags s _ fun _ => rfl
  · exact (startVerify_tags _ p).trans (modDisc_tags s _ fun _ => rfl)

@[simp] theorem finaliseResult_tags (o : Outcome) : (s.finaliseResult p o).tags = s.tags := by
  unfold State.finaliseResult
  split <;> simp

@[simp] theorem readResult_tags (o : Outcome) : (s.readResult p o).tags = s.tags := by
  unfold State.readResult
  split <;> simp

@[simp] theorem answer_tags (a : AnswerEntry) : (s.answer a).tags = s.tags := rfl

theorem homingFailed_tags : s.homingFailed.tags = s.tags := by
  simp [State.homingFailed]

theorem linkUp_tags : (s.linkUp p).tags = s.tags := by
  unfold State.linkUp
  dsimp only
  split <;> rfl

theorem linkDown_tags : (s.linkDown p).tags = s.tags := by
  unfold State.linkDown
  dsimp only
  (repeat' split) <;> simp

theorem writeSector_tags : (s.writeSector p).tags = s.tags := by
  unfold State.writeSector
  dsimp only
  (repeat' split) <;> rfl

theorem enterSynced_tags : s.enterSynced.tags = s.tags := by
  have hcredits := foldl_tags (f := fun (t : State) j => if (t.pass j).any Pass.live then t.requestCredit j else t)
    fun t j => by split <;> rfl
  unfold State.enterSynced
  dsimp only
  rw [hcredits]
  split <;> rfl

theorem huntGood_tags : s.huntGood.tags = s.tags := by
  unfold State.huntGood
  dsimp only
  rw [outbound_tags]
  split
  · rfl
  · exact enterSynced_tags _

theorem linkLost_tags : s.linkLost.tags = s.tags := by
  have hlost := foldl_tags (f := State.losePass) fun t j => by
    unfold State.losePass
    split <;> simp
  rw [State.linkLost, modLink_tags, hlost]

theorem badFrame_tags : s.badFrame.tags = s.tags := by
  unfold State.badFrame
  dsimp only
  (repeat' split)
  · rfl
  · rfl
  · exact linkLost_tags _

theorem sendAnswer_tags : s.sendAnswer.tags = s.tags := by
  unfold State.sendAnswer
  split <;> rfl

theorem sendCredit_tags : s.sendCredit.tags = s.tags := by
  unfold State.sendCredit
  (repeat' split) <;> rfl

theorem sendNotice_tags : s.sendNotice.tags = s.tags := by
  unfold State.sendNotice
  dsimp only
  (repeat' split) <;> rfl

theorem sendReport_tags : s.sendReport.tags = s.tags := by
  unfold State.sendReport
  (repeat' split) <;> rfl

theorem sendRow_tags : s.sendRow.tags = s.tags := by
  unfold State.sendRow
  split <;> rfl

end

/-! ## The end of an event, and what a drive's outcome does -/

section
variable {s : State} (h : s.tagsOk) {p : PortId}
include h

theorem State.tagsOk.settle {s0 : State} : (State.settle s0 s).tagsOk := by
  have hjobs := h.same (foldl_tags (f := State.settleJob) settleJob_tags (numbers 4) s)
  have hdone := hjobs.settleTransport.same (foldl_tags completeJob_tags (numbers 4) _)
  have hraised := hdone.same (foldl_tags (fun t j => raiseWaveReady_tags t j s0) (numbers 4) _)
  exact hraised.same (outbound_tags _ s0)

/-- A probe that finds a disc makes it an ORPHAN (R75, R118). -/
theorem State.tagsOk.identifyResult {c : DriveCmd} {r : Nat} {o : Outcome} {i : IdentifyInfo} :
    (State.identifyResult p c r o i s).tagsOk := by
  unfold State.identifyResult
  dsimp only
  split
  · split
    · unfold State.probed
      dsimp only
      (repeat' split)
      · exact State.tagsOk.same (State.tagsOk.createOrphan (h.same (online_tags s p))) (goDone_tags _ p)
      · exact h.same (by simp)
      · exact h.same (by simp)
    · split
      · exact h.same (goFaulted_tags s p)
      · exact h.same (retry_tags s p c r (goFaulted_tags s p))
  · refine h.same ?_
    (repeat' split) <;> simp [retry_tags]
  · refine h.same ?_
    (repeat' split) <;> simp [retry_tags]
  · exact h

theorem State.tagsOk.mediaResult {c : DriveCmd} {r : Nat} {o : Outcome} : (State.mediaResult p c r o s).tagsOk := by
  have hretry := retry_tags s p c r (f := fun s => s.blankScrap p .checkError) (blankScrap_tags s p _)
  unfold State.mediaResult
  split
  · exact h.same (blankGood_tags s p)
  · exact h.same (blankGood_tags s p)
  · exact h.same (blankScrap_tags s p _)
  · exact h.same (blankScrap_tags s p _)
  · exact h.lose.same (goIdle_tags _ p)
  · exact h.same (goFaulted_tags s p)
  all_goals exact h.same hretry

theorem State.tagsOk.result {c : DriveCmd} {r : Nat} {o : Outcome} {i : IdentifyInfo} :
    (State.result p c r o i s).tagsOk := by
  cases c with
  | identify => exact h.identifyResult
  | openTray => exact h.same (trayResult_tags s p _ r o)
  | closeTray => exact h.same (trayResult_tags s p _ r o)
  | sleep => exact h.same (sleepResult_tags s p o)
  | mediaCheck => exact h.mediaResult
  | writeSegment seg => exact h.same (writeResult_tags s p seg o)
  | synchronise => exact h.same (syncResult_tags s p o)
  | finalise => exact h.same (finaliseResult_tags s p o)
  | readBlock => exact h.same (readResult_tags s p o)
  | wake => exact h.same (wakeResult_tags s p o)

theorem State.tagsOk.timedOut : (s.timedOut p).tagsOk := by
  unfold State.timedOut
  dsimp only
  split
  · exact h
  · refine State.tagsOk.result ?_
    exact h.same rfl

theorem State.tagsOk.answered {c : DriveCmd} {a : Answer} {i : IdentifyInfo} : (s.answered p c a i).tagsOk := by
  unfold State.answered
  dsimp only
  (repeat' split)
  · exact h.same rfl
  · exact h.same rfl
  · refine State.tagsOk.result ?_
    exact h.same rfl

theorem State.tagsOk.notReadyReissue : (s.notReadyReissue p).tagsOk := by
  unfold State.notReadyReissue
  dsimp only
  split
  · refine State.tagsOk.timedOut ?_
    exact h.same rfl
  · exact h.same rfl

/-! ## A row's frame: events, frames that are heard, commands -/

theorem State.tagsOk.event {f : State → State} (hf : (f s).tagsOk) : (s.event f).tagsOk := by
  unfold State.event
  split
  · exact h
  · exact hf.settle

theorem State.tagsOk.eventIf {c : Bool} {f : State → State} (hf : (f s).tagsOk) : (s.eventIf c f).tagsOk := by
  unfold State.eventIf
  split
  · exact h.event hf
  · exact h

theorem State.tagsOk.quietIf {c : Bool} {f : State → State} (hf : (f s).tags = s.tags) : (s.quietIf c f).tagsOk := by
  unfold State.quietIf
  split
  · exact h
  · exact h.same hf

theorem State.tagsOk.hear {f : State → State} (hf : s.countGood.tagsOk → (f s.countGood).tagsOk) :
    (s.hear f).tagsOk := by
  unfold State.hear
  split
  · exact h
  · split
    · exact h.same (huntGood_tags s)
    · exact hf (h.same rfl)

theorem State.tagsOk.take {hd : CmdHdr} {n : Nat} {after : After} {perform : State → State × AnswerEntry}
    (hp : (perform s).1.tagsOk) : (State.take hd n after perform s).tagsOk := by
  unfold State.take
  split
  · exact h
  · split
    · exact h.same ((outbound_tags _ s).trans (answer_tags _ _))
    · dsimp only
      split
      · exact (hp.same (answer_tags _ _)).settle
      · exact (hp.same (answer_tags _ _)).same (outbound_tags _ s)
      · exact (hp.same (answer_tags _ _)).same (outbound_tags _ s)

theorem State.tagsOk.command {hd : CmdHdr} {n : Nat} {after : After} {perform : State → State × Result}
    (hp : ∀ t, t.tagsOk → (perform t).1.tagsOk) : (State.command hd n after perform s).tagsOk :=
  h.hear fun hc => hc.take (hp _ hc)

/-- A command whose own work moves no record. -/
theorem State.tagsOk.commandSame {hd : CmdHdr} {n : Nat} {after : After} {perform : State → State × Result}
    (hp : ∀ t, (perform t).1.tags = t.tags) : (State.command hd n after perform s).tagsOk :=
  h.command fun t ht => ht.same (hp t)

theorem State.tagsOk.driveAnswer {k : CmdClass} {b : Bool} {a : Answer} {i : IdentifyInfo} :
    (s.driveAnswer p k b a i).tagsOk := by
  have hcarried : (s.carried p k).tagsOk := by
    unfold State.carried
    split
    · exact h.same rfl
    · exact h
  unfold State.driveAnswer
  dsimp only
  (repeat' split)
  · exact h
  · exact h
  · exact h.event hcarried.answered

theorem State.tagsOk.binSensorRow {k : BinSensor} {b : Bool} : (s.binSensorRow k b).tagsOk := by
  unfold State.binSensorRow
  split
  · exact h.same rfl
  · exact h.event (h.same (sensorChanges_tags s k b))

theorem State.tagsOk.start : s.start.tagsOk := by
  have hsensors := foldl_tags (f := State.releaseSensor) fun t k => by
    unfold State.releaseSensor
    split
    · refine (compareSensor_tags _ k).trans ?_
      cases k <;> rfl
    · rfl
  unfold State.start
  rw [sensorsAtRelease_eq]
  exact (h.same (hsensors binSensors s)).same (outbound_tags _ s)

end

theorem resetValues_tagsOk (s : State) : s.resetValues.tagsOk := reset_tagsOk.same rfl

/-! ## What a command's own work does to the tags -/

section
variable (s : State)

theorem withJob_tags {s : State} {f : JobId → State × Result} (b : Byte) (h : ∀ j, (f j).1.tags = s.tags) :
    (withJob b s f).1.tags = s.tags := by
  unfold withJob
  split
  · rfl
  · exact h _

theorem withPort_tags {s : State} {f : PortId → State × Result} (b : Byte) (h : ∀ p, (f p).1.tags = s.tags) :
    (withPort b s f).1.tags = s.tags := by
  unfold withPort
  split
  · rfl
  · exact h _

theorem openJob_tags (b : Byte) (r : Half) : (openJob b r s).1.tags = s.tags :=
  withJob_tags b fun j => by
    dsimp only
    (repeat' split) <;> rfl

theorem setJob_tags (b : Byte) (x y z : Half) (i g k : Byte) : (setJob b x y z i g k s).1.tags = s.tags :=
  withJob_tags b fun j => by
    dsimp only
    (repeat' split) <;> rfl

theorem runJob_tags (b : Byte) : (runJob b s).1.tags = s.tags :=
  withJob_tags b fun j => by
    dsimp only
    split <;> rfl

theorem drainJob_tags (b : Byte) : (drainJob b s).1.tags = s.tags :=
  withJob_tags b fun j => by
    split
    · exact enterDraining_tags s j
    all_goals rfl

theorem enterHalting_tags (j : JobId) : (s.enterHalting j).tags = s.tags := by
  have hports := foldl_tags (f := fun t p => State.haltPort t j p) fun t p => by
    unfold State.haltPort
    dsimp only
    split <;> simp
  simp [State.enterHalting, hports]

theorem haltJob_tags (b : Byte) : (haltJob b s).1.tags = s.tags :=
  withJob_tags b fun j => by
    split
    · exact enterHalting_tags s j
    · exact enterHalting_tags s j
    all_goals rfl

theorem closeJob_tags (b : Byte) : (closeJob b s).1.tags = s.tags :=
  withJob_tags b fun j => by split <;> rfl

theorem loadMap_tags (b : Byte) (es : List ExtentEntry) : (loadMap b es s).1.tags = s.tags :=
  withJob_tags b fun j => by (repeat' split) <;> rfl

theorem loadProfile_tags (b : Byte) (e : ProfileEntry) : (loadProfile b e s).1.tags = s.tags := by
  unfold loadProfile
  (repeat' split) <;> rfl

theorem assignPort_tags (b k : Byte) : (assignPort b k s).1.tags = s.tags := by
  unfold assignPort
  (repeat' split) <;> rfl

theorem loadTiming_tags (e : TimingEntry) : (loadTiming e s).1.tags = s.tags := by
  simp only [loadTiming, State.accept, foldl_tags sleepPort_tags]
  rfl

theorem setSerial_tags (b : Byte) (w : Word) (st : Half) (k l : Byte) : (setSerial b w st k l s).1.tags = s.tags :=
  withJob_tags b fun j => by
    dsimp only
    (repeat' split) <;> rfl

theorem digestReset_tags (b : Byte) : (digestReset b s).1.tags = s.tags :=
  withJob_tags b fun j => by split <;> rfl

theorem passStart_tags (b : Byte) : (passStart b s).1.tags = s.tags :=
  withJob_tags b fun j => by
    have hadmit := foldl_tags (f := State.admitAt j) fun t p => by
      unfold State.admitAt
      split <;> simp
    split
    · rfl
    · split
      · rfl
      · simp [State.startPass, admitLoaded_eq, hadmit]

theorem passAbort_tags (b : Byte) : (passAbort b s).1.tags = s.tags :=
  withJob_tags b fun j => by
    split
    · exact abortPass_tags s j _ _
    · rfl

theorem portReset_tags (b : Byte) : (portReset b s).1.tags = s.tags :=
  withPort_tags b fun p => by
    split
    · rfl
    · simp only [State.accept, State.resetPort]
      (repeat' split) <;> simp

theorem portService_tags (b : Byte) : (portService b s).1.tags = s.tags :=
  withPort_tags b fun p => by
    (repeat' split)
    · rfl
    · rfl
    · exact goOffline_tags s p

theorem transportHome_tags : (transportHome s).1.tags = s.tags := by
  unfold transportHome
  (repeat' split) <;> rfl

theorem transportPause_tags : (transportPause s).1.tags = s.tags := by
  unfold transportPause
  (repeat' split) <;> rfl

/-- A RESUME without a move reads the gripper, which may find an ORPHAN or lose a record (R136). -/
theorem State.tagsOk.transportResume {s : State} (h : s.tagsOk) : (transportResume s).1.tagsOk := by
  have hread : ∀ f : Transport → Transport, (let t := s.modTransport f
      if t.transport.move.isSome then t else t.readGripper).tagsOk := fun f => by
    have hchanged : (s.modTransport f).tagsOk := h.same (modTransport_tags s f)
    dsimp only
    split
    · exact hchanged
    · exact hchanged.readGripper
  have hresume : s.resume.tagsOk := hread _
  unfold Machine.transportResume
  split
  · exact h.same rfl
  · exact hresume
  · exact hresume
  · exact h
  · exact h

theorem hostMove_tags (x y : Byte) : (hostMove x y s).1.tags = s.tags := by
  unfold hostMove
  (repeat' split) <;> rfl

theorem loadTemplate_tags (b : Byte) (o : Word) (ch : List Byte) : (loadTemplate b o ch s).1.tags = s.tags := by
  unfold loadTemplate
  (repeat' split) <;> rfl

theorem setTemplate_tags (b : Byte) (i o : Half) (fs : List FieldEntry) : (setTemplate b i o fs s).1.tags = s.tags := by
  unfold setTemplate
  dsimp only
  (repeat' split) <;> rfl

theorem loadGlyphs_tags (gs : Vector Glyph 16) : (loadGlyphs gs s).1.tags = s.tags := by
  unfold loadGlyphs
  split <;> rfl

theorem ribbonLoad_tags (n : Half) : (ribbonLoad n s).1.tags = s.tags := by
  unfold ribbonLoad
  dsimp only
  split
  · exact commitLabel_tags _
  · rfl

theorem printerResume_tags : (printerResume s).1.tags = s.tags := by
  unfold printerResume
  (repeat' split) <;> rfl

theorem ackNotice_tags (c k : Byte) (o : Half) : (ackNotice c k o s).1.tags = s.tags := by
  have hfree : ∀ (t : State) j, (t.freePass j).tags = t.tags := fun t j => by
    unfold State.freePass
    split <;> rfl
  have hdone : ∀ (t : State) n, (t.acknowledged n).tags = t.tags := fun t n => by
    unfold State.acknowledged
    split <;> simp [hfree]
  have hcause : ∀ d, (ackCause d k o s).1.tags = s.tags := fun d => by
    unfold ackCause
    (repeat' split)
    · rfl
    · rfl
    · rfl
    · exact hdone _ _
  have hreport : (ackReport k o s).1.tags = s.tags := by
    unfold ackReport
    (repeat' split) <;> rfl
  unfold ackNotice
  split <;> simp [hcause, hreport, State.refuse]

theorem faultClear_tags (b : Byte) : (faultClear b s).1.tags = s.tags := withJob_tags b fun _ => rfl

theorem readObject_tags (hd : CmdHdr) (a : ReadArgs) : (readObject hd a s).1.tags = s.tags := by
  unfold readObject readClear
  (repeat' split) <;> rfl

end

/-! ## Every row keeps the tags distinct -/

/-- Every row has a next state, in which the tags are distinct if they were before. -/
theorem exec_tagsOk (i : Instr) {s : State} (hs : s.tagsOk) : ∃ t, exec i s = .next t ∧ t.tagsOk := by
  have huntil : ∀ d, (s.until d).tagsOk := fun _ => hs
  cases i with
  | powerOn =>
    refine ⟨_, rfl, ?_⟩
    split
    · exact resetValues_tagsOk s
    · exact (resetValues_tagsOk s).start
  | resetPin => exact ⟨_, rfl, (resetValues_tagsOk s).same rfl⟩
  | resetRelease =>
    refine ⟨_, rfl, ?_⟩
    split
    · exact State.tagsOk.start (hs.same rfl)
    · exact hs
  | resetPerformed =>
    refine ⟨_, rfl, ?_⟩
    split
    · exact hs
    · exact State.tagsOk.start ((resetValues_tagsOk s).same rfl)
  | jobOpen h b r => exact ⟨_, rfl, hs.commandSame fun t => openJob_tags t b r⟩
  | setJob => exact ⟨_, rfl, hs.commandSame fun t => setJob_tags t _ _ _ _ _ _ _⟩
  | jobRun h b => exact ⟨_, rfl, hs.commandSame fun t => runJob_tags t b⟩
  | jobDrain h b => exact ⟨_, rfl, hs.commandSame fun t => drainJob_tags t b⟩
  | jobHalt h b => exact ⟨_, rfl, hs.commandSame fun t => haltJob_tags t b⟩
  | jobClose h b => exact ⟨_, rfl, hs.commandSame fun t => closeJob_tags t b⟩
  | loadMap h b es => exact ⟨_, rfl, hs.commandSame fun t => loadMap_tags t b es⟩
  | loadProfile h b e => exact ⟨_, rfl, hs.commandSame fun t => loadProfile_tags t b e⟩
  | assignPort h b k => exact ⟨_, rfl, hs.commandSame fun t => assignPort_tags t b k⟩
  | loadTiming h e => exact ⟨_, rfl, hs.commandSame fun t => loadTiming_tags t e⟩
  | setSerial => exact ⟨_, rfl, hs.commandSame fun t => setSerial_tags t _ _ _ _ _⟩
  | digestReset h b => exact ⟨_, rfl, hs.commandSame fun t => digestReset_tags t b⟩
  | passStart h b => exact ⟨_, rfl, hs.commandSame fun t => passStart_tags t b⟩
  | passAbort h b => exact ⟨_, rfl, hs.commandSame fun t => passAbort_tags t b⟩
  | portReset h b => exact ⟨_, rfl, hs.commandSame fun t => portReset_tags t b⟩
  | portService h b => exact ⟨_, rfl, hs.commandSame fun t => portService_tags t b⟩
  | transportHome => exact ⟨_, rfl, hs.commandSame transportHome_tags⟩
  | transportPause => exact ⟨_, rfl, hs.commandSame transportPause_tags⟩
  | transportResume => exact ⟨_, rfl, hs.command fun _ ht => ht.transportResume⟩
  | hostMove h x y => exact ⟨_, rfl, hs.commandSame fun t => hostMove_tags t x y⟩
  | loadTemplate h b o ch => exact ⟨_, rfl, hs.commandSame fun t => loadTemplate_tags t b o ch⟩
  | setTemplate h b i o fs => exact ⟨_, rfl, hs.commandSame fun t => setTemplate_tags t b i o fs⟩
  | loadGlyphs h gs => exact ⟨_, rfl, hs.commandSame fun t => loadGlyphs_tags t gs⟩
  | ribbonLoad h n => exact ⟨_, rfl, hs.commandSame fun t => ribbonLoad_tags t n⟩
  | printerResume => exact ⟨_, rfl, hs.commandSame printerResume_tags⟩
  | ackNotice h c k o => exact ⟨_, rfl, hs.commandSame fun t => ackNotice_tags t c k o⟩
  | faultClear h b => exact ⟨_, rfl, hs.commandSame fun t => faultClear_tags t b⟩
  | read h a => exact ⟨_, rfl, hs.hear fun hc => hc.take (hc.same (readObject_tags _ h a))⟩
  | partReset => exact ⟨_, rfl, hs.hear fun hc => hc.take (hc.same rfl)⟩
  | unknownCommand => exact ⟨_, rfl, hs.hear fun hc => hc.take hc⟩
  | commandDropped =>
    refine ⟨_, rfl, ?_⟩
    split
    · exact hs
    · exact hs.hear fun hc => hc.same rfl
  | otherKindFrame => exact ⟨_, rfl, hs.hear id⟩
  | imageFrame b pl => exact ⟨_, rfl, hs.hear fun hc => (hc.same (imageFrame_tags _ b pl)).settle⟩
  | badFrame => exact ⟨_, rfl, hs.eventIf (hs.same (badFrame_tags s))⟩
  | huntGoodFrame =>
    refine ⟨_, rfl, ?_⟩
    split
    · exact hs.hear id
    · exact hs
  | frameDuringReset => exact ⟨_, rfl, hs⟩
  | laneSignalLoss =>
    refine ⟨_, rfl, ?_⟩
    split
    · exact hs.quietIf rfl
    · exact hs.event (hs.same (linkLost_tags s))
  | answerSent => exact ⟨_, rfl, hs.quietIf (sendAnswer_tags s)⟩
  | creditSent => exact ⟨_, rfl, hs.quietIf (sendCredit_tags s)⟩
  | noticeSent => exact ⟨_, rfl, hs.quietIf (sendNotice_tags s)⟩
  | reportSent => exact ⟨_, rfl, hs.quietIf (sendReport_tags s)⟩
  | fillSector j => exact ⟨_, rfl, hs.eventIf (hs.same (fillOne_tags s j))⟩
  | linkUp p => exact ⟨_, rfl, hs.eventIf (hs.same (linkUp_tags s p))⟩
  | linkDown p => exact ⟨_, rfl, hs.event (hs.same (linkDown_tags s p))⟩
  | identifyAnswer => exact ⟨_, rfl, hs.driveAnswer⟩
  | trayAnswer => exact ⟨_, rfl, hs.driveAnswer⟩
  | sleepAnswer => exact ⟨_, rfl, hs.driveAnswer⟩
  | wakeAnswer => exact ⟨_, rfl, hs.driveAnswer⟩
  | mediaCheckAnswer => exact ⟨_, rfl, hs.driveAnswer⟩
  | writeAnswer => exact ⟨_, rfl, hs.driveAnswer⟩
  | syncAnswer => exact ⟨_, rfl, hs.driveAnswer⟩
  | finaliseAnswer => exact ⟨_, rfl, hs.driveAnswer⟩
  | readAnswer => exact ⟨_, rfl, hs.driveAnswer⟩
  | endedCommandAnswer => exact ⟨_, rfl, hs.eventIf (hs.same rfl)⟩
  | readSector => exact ⟨_, rfl, hs.quietIf rfl⟩
  | writeSectorTransferred p => exact ⟨_, rfl, hs.quietIf (writeSector_tags s p)⟩
  | endingTimeout => exact ⟨_, rfl, hs.eventIf (hs.same rfl)⟩
  | commandTimeout =>
    refine ⟨_, rfl, hs.eventIf (State.tagsOk.timedOut (hs.same ?_))⟩
    split <;> rfl
  | notReadyReissue => exact ⟨_, rfl, hs.eventIf hs.notReadyReissue⟩
  | dataPhasePause => exact ⟨_, rfl, hs.quietIf rfl⟩
  | dataPhaseResume => exact ⟨_, rfl, hs.quietIf rfl⟩
  | pauseLimitExpiry => exact ⟨_, rfl, hs.eventIf (huntil _).timedOut⟩
  | standbyIntervalReached p => exact ⟨_, rfl, hs.eventIf ((huntil _).same (sleepPort_tags _ p))⟩
  | armArrived =>
    refine ⟨_, rfl, hs.eventIf ?_⟩
    split
    · exact hs.homed
    · exact hs.same (arrived_tags s)
  | armStalled =>
    refine ⟨_, rfl, hs.eventIf ?_⟩
    split
    · exact hs.same (homingFailed_tags s)
    · exact hs.onMove fun _ => hs.stall
  | travelTimeout => exact ⟨_, rfl, hs.eventIf ((huntil _).onMove fun _ => (huntil _).stall)⟩
  | homingTimeout => exact ⟨_, rfl, hs.eventIf ((huntil _).same (homingFailed_tags _))⟩
  | gripDone => exact ⟨_, rfl, hs.eventIf (hs.onMove fun _ => hs.judgeGrip)⟩
  | gripTimeout => exact ⟨_, rfl, hs.eventIf ((huntil _).onMove fun _ => (huntil _).judgeGrip)⟩
  | releaseDone => exact ⟨_, rfl, hs.eventIf (hs.onMove fun _ => hs.judgeRelease)⟩
  | releaseTimeout => exact ⟨_, rfl, hs.eventIf ((huntil _).onMove fun _ => (huntil _).judgeRelease)⟩
  | gripperSensorChange k b =>
    refine ⟨_, rfl, ?_⟩
    cases k with
    | double => exact hs.same rfl
    | present =>
      dsimp only
      split
      · exact hs.same rfl
      · exact hs.event hs.gripperChanges
  | inputBinSensorChange => exact ⟨_, rfl, hs.binSensorRow⟩
  | fullSensorChange => exact ⟨_, rfl, hs.binSensorRow⟩
  | placeSensorChange =>
    refine ⟨_, rfl, ?_⟩
    split
    · exact hs.same rfl
    · exact hs.event (hs.same rfl)
  | printerReady => exact ⟨_, rfl, hs.eventIf (hs.same (proceedLabel_tags s))⟩
  | printRowSent => exact ⟨_, rfl, hs.quietIf (sendRow_tags s)⟩
  | printerDone =>
    refine ⟨_, rfl, hs.eventIf (hs.same ?_)⟩
    split
    · exact finishPrint_tags s
    · exact spoilPrint_tags s
  | printerFaultReport => exact ⟨_, rfl, hs.eventIf (hs.same (spoilPrint_tags s))⟩
  | printTimerExpiry => exact ⟨_, rfl, hs.eventIf ((huntil _).same (spoilPrint_tags _))⟩

/-- Settles O60, row by row: a record leaves its place, changes its place, or is created with the next tag, which no
record holds (`freshTag_next`). -/
theorem stepsKeepTagsDistinct : Obligations.StepsKeepTagsDistinct := by
  intro s t hs hstep
  unfold step at hstep
  split at hstep
  · cases hstep
    exact hs
  · next i rest _ =>
    obtain ⟨u, hexec, hu⟩ := exec_tagsOk i (s := { s with pending := rest }) hs
    cases hexec.symm.trans hstep
    exact hu

end Sys2Proof.Machine

namespace Sys2Proof.Machine

/-! ## Codes of stations and places (R131, R193) -/

theorem stationOf_code (st : Station) : stationOf st.code = some st := by
  cases st with
  | out b => cases b <;> rfl
  | bin i => simp [stationOf, Station.code]
  | tray n => simp [stationOf, Station.code]
  | platter => rfl
  | shelf k => simp only [stationOf, Station.code]; grind

theorem code_of_stationOf {c : Nat} {st : Station} (h : stationOf c = some st) : c = st.code := by
  unfold stationOf at h
  split_ifs at h <;> cases h <;> simp only [Station.code] <;> omega

theorem placeOf_code (p : Place) : placeOf p.code = some p := by
  cases p with
  | arm => rfl
  | tray n =>
    have hcode : stationOf (4 + n.val) = some (.tray n) := stationOf_code (.tray n)
    rw [placeOf, if_neg (by simp only [Place.code]; omega)]
    simp only [Place.code, hcode]
  | platter => rfl
  | shelf k =>
    have hcode : stationOf (21 + k.val) = some (.shelf k) := stationOf_code (.shelf k)
    rw [placeOf, if_neg (by simp only [Place.code]; omega)]
    simp only [Place.code, hcode]

theorem code_of_placeOf {c : Nat} {p : Place} (h : placeOf c = some p) : c = p.code := by
  unfold placeOf at h
  split at h
  · next hc => cases h; exact hc
  · split at h <;> cases h <;> next hst => exact code_of_stationOf hst

/-- A HOST MOVE goes to any station but a tray (R142). -/
theorem moveDest_code {c : Byte} {st : Station} (hc : c.toNat = st.code) :
    moveDest c = if ∃ n, st = .tray n then none else some st := by
  unfold moveDest
  rw [hc, stationOf_code]
  cases st <;> simp

end Sys2Proof.Machine

namespace Sys2Proof.Machine

/-! ## A place is freed, a record is lost (R124, R132) -/

/-- A shelf slot that is freed leaves the shelf order; no other place stands in it (R132). -/
def Transport.without (t : Transport) (q : Place) : Transport :=
  { t with shelfOrder := t.shelfOrder.filter fun k => decide (q ≠ .shelf k) }

theorem without_of_not_shelf (t : Transport) {q : Place} (hq : ∀ k, q ≠ .shelf k) : t.without q = t := by
  have hall : (t.shelfOrder.filter fun k => decide (q ≠ .shelf k)) = t.shelfOrder :=
    List.filter_eq_self.mpr fun k _ => decide_eq_true (hq k)
  rw [Transport.without, hall]

theorem freePlace_eq (s : State) (q : Place) : s.freePlace q = { s with
    places := upd s.places q.idx none, transport := s.transport.without q } := by
  cases q with
  | shelf k =>
    have hfilter : (fun x : SlotId => decide (x ≠ k)) = fun x => decide (Place.shelf k ≠ .shelf x) := by
      funext x
      simp [eq_comm]
    simp only [State.freePlace, Transport.without, hfilter]
    rfl
  | tray n => rw [without_of_not_shelf _ (q := .tray n) nofun]; rfl
  | arm => rw [without_of_not_shelf _ (q := .arm) nofun]; rfl
  | platter => rw [without_of_not_shelf _ (q := .platter) nofun]; rfl

/-- The report of a record that is lost at a place (R124, R126). -/
def lossReport (d : Disc) (c : LossCause) (q : Place) : Report := ⟨{ d with dest := none }, none, some c, some q⟩

theorem countJob_jobs (s : State) (o : Option JobId) (f : Counters → Counters) :
    ∃ v, s.countJob o f = { s with jobs := v } := by
  cases o with
  | none => exact ⟨s.jobs, rfl⟩
  | some j => exact ⟨_, rfl⟩

/-- A report is taken as the notice unit stands, whatever the jobs are. -/
theorem appendReport_setJobs (s : State) (v : Vector Job 4) (b : Bool) (r : Report) :
    State.appendReport { s with jobs := v } b r = { s.appendReport b r with jobs := v } := by
  unfold State.appendReport
  dsimp only
  (repeat' split) <;> rfl

/-- A counter of a record's job moves; a record without a job has none (R128). -/
theorem countJob_job (s : State) (o : Option JobId) (f : Counters → Counters) (k : JobId) :
    (s.countJob o f).job k = if o = some k then { s.job k with counters := f (s.job k).counters } else s.job k := by
  cases o with
  | none => rfl
  | some j =>
    rw [State.countJob, job_modJob]
    by_cases hk : k = j
    · rw [if_pos hk, if_pos (congrArg some hk.symm), hk]
    · rw [if_neg hk, if_neg fun hc => hk (Option.some.inj hc).symm]

section
variable {s : State} {q : Place} {d : Disc} (hd : s.disc q = some d) (c : LossCause) (b : Bool)
include hd

/-- The loss of a record: its job counts it, the report queue takes it or counts it, its place is free (R124). -/
theorem lose_eq : s.lose q c b = { s with
    jobs := (s.countJob d.job fun x => { x with lost := satInc max32 x.lost }).jobs
    notices := (s.appendReport b (lossReport d c q)).notices
    unreported := (s.appendReport b (lossReport d c q)).unreported
    places := upd s.places q.idx none
    transport := s.transport.without q } := by
  obtain ⟨v, hv⟩ := countJob_jobs s d.job fun x => { x with lost := satInc max32 x.lost }
  rw [State.lose, hd]
  dsimp only
  rw [freePlace_eq, hv, appendReport_setJobs, appendReport_frame]
  rfl

theorem lose_disc_self : (s.lose q c b).disc q = none := by
  rw [lose_eq hd]
  exact nth_upd_self _ _ _

theorem lose_disc_ne {r : Place} (hr : r ≠ q) : (s.lose q c b).disc r = s.disc r := by
  rw [lose_eq hd]
  exact nth_upd_ne _ _ fun hidx => hr (Place.idx_inj hidx)

theorem lose_job (k : JobId) : (s.lose q c b).job k = if d.job = some k then
    { s.job k with counters := { (s.job k).counters with lost := satInc max32 (s.job k).counters.lost } }
    else s.job k := by
  rw [lose_eq hd, ← countJob_job s d.job fun x => { x with lost := satInc max32 x.lost }]
  rfl

/-- With room the report of the loss waits, and nothing else of the notice unit changes (R127). -/
theorem lose_room (hroom : s.notices.reports.length + (if s.notices.reserved then 1 else 0) < Config.reportRoom) :
    (s.lose q c false).notices = { s.notices with reports := s.notices.reports ++ [lossReport d c q] } ∧
    (s.lose q c false).unreported = s.unreported := by
  rw [lose_eq hd, appendReport_room hroom]
  exact ⟨rfl, rfl⟩

/-- Without room the loss is counted as unreported (R127). -/
theorem lose_full (hfull : ¬ s.notices.reports.length + (if s.notices.reserved then 1 else 0) < Config.reportRoom) :
    (s.lose q c false).notices = s.notices ∧ (s.lose q c false).unreported = satInc 65535 s.unreported := by
  have happend : s.appendReport false (lossReport d c q) = { s with unreported := satInc 65535 s.unreported } := by
    rw [State.appendReport, if_neg (nomatch ·), if_neg hfull]
  rw [lose_eq hd, happend]
  exact ⟨rfl, rfl⟩

end

/-! ## Requests (R137, R141) -/

/-- Only requests may have been queued between `s` and `t`. -/
def onlyRequests (s t : State) : Prop :=
  t = { s with transport := { s.transport with queue := t.transport.queue, arrival := t.transport.arrival } }

theorem onlyRequests_refl (s : State) : onlyRequests s s := rfl

theorem createRequest_only (s : State) (k : ReqKind) : onlyRequests s (s.createRequest k) := rfl

theorem createRecover_eq {s : State} {q : Place} {d : Disc} (hd : s.disc q = some d) : s.createRecover q =
    if (∃ r ∈ s.transport.queue, r.kind = .recover q d.tag) ∨
      (∃ m, s.transport.move = some m ∧ m.req.kind = .recover q d.tag) then s
    else s.createRequest (.recover q d.tag) := by
  rw [State.createRecover, hd]
  simp only [Bool.or_eq_true, queued_iff, granted_iff, decide_eq_true_iff]

theorem createRecover_only (s : State) (q : Place) : onlyRequests s (s.createRecover q) := by
  cases hd : s.disc q with
  | none => rw [State.createRecover, hd]; exact onlyRequests_refl s
  | some d =>
    rw [createRecover_eq hd]
    split
    · exact onlyRequests_refl s
    · exact createRequest_only s _

/-- A record has its RECOVER request then, if no move runs (R141). -/
theorem createRecover_has {s : State} {q : Place} {d : Disc} (hd : s.disc q = some d) (hm : s.transport.move = none) :
    ∃ r ∈ (s.createRecover q).transport.queue, r.kind = .recover q d.tag := by
  rw [createRecover_eq hd]
  split
  · next hsame => exact hsame.resolve_right fun ⟨m, hmove, _⟩ => nomatch hm.symm.trans hmove
  · exact ⟨⟨.recover q d.tag, s.transport.arrival⟩, List.mem_append_right _ (List.mem_singleton_self _), rfl⟩

/-! ## An ORPHAN is found (R118, R141) -/

/-- The record of an ORPHAN found at a place; its port field names the tray where it was found (R118). -/
def orphanAt (q : Place) (tag : Half) : Disc where
  tag := tag
  job := none
  state := .orphan
  dest := none
  port := match q with
    | .tray n => some n
    | _ => none
  pass := none
  grade := none
  metrics := none
  serial := none
  void := false
  cause := none
  lba := none

theorem createOrphan_eq (s : State) (q : Place) : s.createOrphan q = { s with
    places := upd s.places q.idx (some (orphanAt q s.freshTag)), tagCounter := s.freshTag + 1 } := by
  cases q <;> rfl

section
variable (s : State) (q : Place)

/-- An ORPHAN is found and its RECOVER request made: only its place, the tag counter and the queue change. -/
theorem foundOrphan_eq : (s.createOrphan q).createRecover q = { s with
    places := upd s.places q.idx (some (orphanAt q s.freshTag)), tagCounter := s.freshTag + 1
    transport := { s.transport with
      queue := ((s.createOrphan q).createRecover q).transport.queue
      arrival := ((s.createOrphan q).createRecover q).transport.arrival } } := by
  have honly := createRecover_only (s.createOrphan q) q
  unfold onlyRequests at honly
  generalize (s.createOrphan q).createRecover q = t at honly ⊢
  rw [honly, createOrphan_eq]

theorem foundOrphan_disc : ((s.createOrphan q).createRecover q).disc q = some (orphanAt q s.freshTag) := by
  rw [foundOrphan_eq]
  exact nth_upd_self _ _ _

theorem foundOrphan_disc_ne {r : Place} (hr : r ≠ q) : ((s.createOrphan q).createRecover q).disc r = s.disc r := by
  rw [foundOrphan_eq]
  exact nth_upd_ne _ _ fun hidx => hr (Place.idx_inj hidx)

theorem foundOrphan_has (hm : s.transport.move = none) :
    ∃ r ∈ ((s.createOrphan q).createRecover q).transport.queue, r.kind = .recover q s.freshTag := by
  have hdisc : (s.createOrphan q).disc q = some (orphanAt q s.freshTag) := by
    rw [createOrphan_eq]
    exact nth_upd_self _ _ _
  have hmove : (s.createOrphan q).transport.move = none := by rwa [createOrphan_eq]
  exact createRecover_has hdisc hmove

end

/-! ## The arm reading (R134, R136) -/

section
variable {s : State}

theorem readGripper_orphan (hd : s.disc .arm = none) (hg : s.sensors.gripPresent = true) :
    s.readGripper = (s.createOrphan .arm).createRecover .arm := by
  rw [State.readGripper, hd, hg]

theorem readGripper_free (hd : s.disc .arm = none) (hg : s.sensors.gripPresent = false) : s.readGripper = s := by
  rw [State.readGripper, hd, hg]

theorem readGripper_held {d : Disc} (hd : s.disc .arm = some d) (hg : s.sensors.gripPresent = true) :
    s.readGripper = s.createRecover .arm := by
  rw [State.readGripper, hd, hg]

theorem readGripper_lost {d : Disc} (hd : s.disc .arm = some d) (hg : s.sensors.gripPresent = false) :
    s.readGripper = s.lose .arm .discMissing false := by
  rw [State.readGripper, hd, hg]

/-- The arm reading changes at most the place ARM and what a loss or an ORPHAN brings with it. -/
theorem readGripper_frame (s : State) : s.readGripper = { s with
    jobs := s.readGripper.jobs, places := s.readGripper.places, tagCounter := s.readGripper.tagCounter
    unreported := s.readGripper.unreported, notices := s.readGripper.notices
    transport := { s.transport with
      queue := s.readGripper.transport.queue, arrival := s.readGripper.transport.arrival } } := by
  cases hd : s.disc .arm with
  | none =>
    cases hg : s.sensors.gripPresent with
    | false => rw [readGripper_free hd hg]
    | true => rw [readGripper_orphan hd hg, foundOrphan_eq]
  | some d =>
    cases hg : s.sensors.gripPresent with
    | false => rw [readGripper_lost hd hg, lose_eq hd, without_of_not_shelf _ (q := .arm) nofun]
    | true =>
      have honly := createRecover_only s .arm
      rw [readGripper_held hd hg]
      unfold onlyRequests at honly
      rw [honly]

theorem readGripper_disc_ne (s : State) {q : Place} (hq : q ≠ .arm) : s.readGripper.disc q = s.disc q := by
  cases hd : s.disc .arm with
  | none =>
    cases hg : s.sensors.gripPresent with
    | false => rw [readGripper_free hd hg]
    | true => rw [readGripper_orphan hd hg, foundOrphan_disc_ne _ _ hq]
  | some d =>
    cases hg : s.sensors.gripPresent with
    | false => rw [readGripper_lost hd hg, lose_disc_ne hd _ _ hq]
    | true =>
      rw [readGripper_held hd hg, createRecover_only s .arm]
      rfl

end

end Sys2Proof.Machine

namespace Sys2Proof.Machine

/-! ## Where a HOST MOVE may take a record (R119, R142) -/

theorem mayArrive_iff (s : State) (d : Disc) (st : Station) : s.mayArrive d st = true ↔ (match st with
    | .tray _ => False
    | .shelf _ | .platter => d.state = .graded ∧ ∃ j, d.job = some j ∧ (s.job j).template.isSome ∧
        (d.grade = some .pass ∨ d.grade = some .unverified ∨
          (d.grade = some .marginal ∧ (s.profile (s.job j).profile).printMarginal = true))
    | .out .x => True
    | .out .o0 => (d.state = .graded ∨ d.state = .finished) ∧ (d.grade = some .pass ∨ d.grade = some .unverified)
    | .out .o1 => (d.state = .graded ∨ d.state = .finished) ∧ d.grade = some .marginal
    | .bin i => (d.state = .feeding ∨ d.state = .returning) ∧ ∃ j, d.job = some j ∧ (s.job j).bin = i) := by
  cases st with
  | tray n => simp [State.mayArrive]
  | shelf k => simp only [State.mayArrive, Bool.and_eq_true, decide_eq_true_iff, Option.any_eq_true, printable_iff]
  | platter => simp only [State.mayArrive, Bool.and_eq_true, decide_eq_true_iff, Option.any_eq_true, printable_iff]
  | bin i => simp only [State.mayArrive, Bool.and_eq_true, decide_eq_true_iff, Option.any_eq_true]
  | out b => cases b <;> simp only [State.mayArrive, Bool.and_eq_true, decide_eq_true_iff]

/-! ## HOME, PAUSE and RESUME (R133, R135, R136) -/

section
variable {s : State}

theorem transportHome_taken (hs : s.transport.state = .unhomed ∨ s.transport.state = .fault ∨
    (s.transport.state = .paused ∧ s.transport.move = none)) : transportHome s = s.home.accept := by
  unfold transportHome
  rcases hs with hs | hs | ⟨hs, hm⟩
  · rw [hs]
  · rw [hs]
  · simp only [hs, hm, Option.isSome_none, Bool.false_eq_true, if_false]

theorem transportHome_refused (hs : s.transport.state = .ready ∨ s.transport.state = .homing) :
    transportHome s = s.refuse .state := by
  unfold transportHome
  rcases hs with hs | hs <;> rw [hs]

theorem transportPause_ready (hs : s.transport.state = .ready) :
    transportPause s = State.accept (s.modTransport fun t =>
    if s.transport.move.isSome then { t with pausePending := true } else { t with state := .paused }) := by
  simp only [transportPause, hs]
  split <;> rfl

theorem transportPause_paused (hs : s.transport.state = .paused) : transportPause s = s.accept := by
  simp only [transportPause, hs]

theorem transportPause_refused (hs : s.transport.state ∉ [TransportState.ready, .paused]) :
    transportPause s = s.refuse .state := by
  unfold transportPause
  split <;> simp_all

/-- READY again: the fault is over, no pause is pending, and leaving FAULT releases the ports held (R136, R146). -/
def State.resumed (s : State) : State := { s with transport := { s.transport with
  state := .ready, cause := none, station := none, pausePending := false
  held := if s.transport.state = .fault then [] else s.transport.held } }

theorem resume_eq (s : State) :
    s.resume = if s.transport.move.isSome then s.resumed else s.resumed.readGripper := by
  simp only [State.resume, decide_eq_true_eq]
  rfl

theorem transportResume_taken (hs : s.transport.state = .paused ∨ s.transport.state = .fault) :
    transportResume s = s.resume.accept := by
  unfold transportResume
  rcases hs with hs | hs <;> rw [hs]

theorem transportResume_ready (hs : s.transport.state = .ready) :
    transportResume s = State.accept (s.modTransport fun t => { t with pausePending := false }) := by
  simp only [transportResume, hs]

theorem transportResume_refused (hs : s.transport.state = .unhomed ∨ s.transport.state = .homing) :
    transportResume s = s.refuse .state := by
  unfold transportResume
  rcases hs with hs | hs <;> rw [hs]

/-- A move that runs, or an empty gripper that holds no record, leaves nothing to read. -/
theorem resume_quiet (h : s.transport.move.isSome ∨ (s.disc .arm = none ∧ s.sensors.gripPresent = false)) :
    s.resume = s.resumed := by
  rw [resume_eq]
  split
  · rfl
  · next hm =>
    obtain ⟨hd, hg⟩ := h.resolve_left hm
    exact readGripper_free (s := s.resumed) hd hg

theorem resume_reads (hm : s.transport.move = none) : s.resume = s.resumed.readGripper := by
  rw [resume_eq, hm]
  rfl

/-! ## HOST MOVE (R142) -/

variable {src dst : Byte} {q : Place} {st : Station} {d : Disc}

theorem hostMove_refused (hs : s.transport.state ∉ [TransportState.paused, .fault]) :
    hostMove src dst s = s.refuse .state := by
  unfold hostMove
  rw [if_pos (by simpa using hs)]

theorem paused_or_fault (hs : s.transport.state ∈ [TransportState.paused, .fault]) :
    ¬ (s.transport.state ≠ .paused ∧ s.transport.state ≠ .fault) := by
  rintro ⟨hp, hf⟩
  simp_all

theorem hostMove_noRecord (hs : s.transport.state ∈ [TransportState.paused, .fault])
    (hsrc : ∀ q : Place, src.toNat = q.code → s.disc q = none) (hst : dst.toNat = st.code)
    (htray : ∀ n, st ≠ .tray n) : hostMove src dst s = s.refuse (.invalid 0) := by
  have hdest : moveDest dst = some st := by
    rw [moveDest_code hst, if_neg fun ⟨n, hn⟩ => htray n hn]
  unfold hostMove
  rw [if_neg (paused_or_fault hs), hdest]
  cases hp : placeOf src.toNat with
  | none => rfl
  | some p =>
    have hnone := hsrc p (code_of_placeOf hp)
    simp only [hnone]

/-- A record at the source: the destination, then the room for a second request decide. -/
theorem hostMove_record (hs : s.transport.state ∈ [TransportState.paused, .fault]) (hsrc : src.toNat = q.code)
    (hst : dst.toNat = st.code) (hd : s.disc q = some d) : hostMove src dst s =
    if s.mayArrive d st = false then s.refuse (.invalid 1)
    else if 2 ≤ (s.transport.queue.filter fun r => r.kind.isHost).length then s.refuse .noSpace
    else State.accept (s.createRequest (.host q st d.tag)) := by
  have hplace : placeOf src.toNat = some q := by rw [hsrc, placeOf_code]
  unfold hostMove
  rw [if_neg (paused_or_fault hs), hplace, moveDest_code hst]
  by_cases htray : ∃ n, st = .tray n
  · obtain ⟨n, rfl⟩ := htray
    rw [if_pos ⟨n, rfl⟩]
    rfl
  · rw [if_neg htray]
    simp only [hd, Bool.not_eq_true']

end

/-- Settles O45: what each command's own work does in a state decides its row; the gripper is read by `readGripper`. -/
theorem transportCommandsAct : Obligations.TransportCommandsAct := by
  unfold Obligations.TransportCommandsAct
  refine ⟨mayArrive_iff, fun h s ht => ?_⟩
  intro ok refused with_
  refine ⟨fun hl => ⟨fun hs => ?_, fun hs => ?_, fun hs hm => ?_, fun hs hm => ?_, fun hs => ?_, fun hs => ?_,
    fun hs => ?_, fun hs hq => ?_, fun hs hm => ?_, fun hs => ?_⟩, fun src dst hl => ⟨fun hs => ?_, fun hs => ⟨?_, ?_⟩⟩⟩
  · exact exec_settled ht hl rfl (transportHome_taken (s := s.countGood) hs)
  · exact exec_refused ht hl rfl rfl (transportHome_refused (s := s.countGood) hs)
  · refine exec_settled ht hl rfl ((transportPause_ready (s := s.countGood) hs).trans ?_)
    have hmove : s.countGood.transport.move = none := hm
    simp only [hmove]
    rfl
  · refine exec_settled ht hl rfl ((transportPause_ready (s := s.countGood) hs).trans ?_)
    have hmove : s.countGood.transport.move.isSome := hm
    simp only [hmove]
    rfl
  · exact exec_settled ht hl rfl (transportPause_paused (s := s.countGood) hs)
  · exact exec_refused ht hl rfl rfl (transportPause_refused (s := s.countGood) hs)
  · exact exec_settled ht hl rfl (transportResume_ready (s := s.countGood) hs)
  · refine exec_settled ht hl rfl ((transportResume_taken (s := s.countGood) hs).trans ?_)
    rw [resume_quiet (s := s.countGood) hq]
    rfl
  · intro reads
    have hreads : reads s.countGood.resumed.readGripper := by
      have hframe := readGripper_frame s.countGood.resumed
      refine ⟨?_, by rw [hframe]; rfl, by rw [hframe]; rfl, by rw [hframe]; rfl, by rw [hframe]; rfl,
        by rw [hframe]; rfl, by rw [hframe]; rfl, fun q hq => readGripper_disc_ne _ hq⟩
      rw [← resume_reads (s := s.countGood) hm]
      exact exec_settled ht hl rfl (transportResume_taken (s := s.countGood) hs)
    refine ⟨fun hd hg => ?_, fun d hd hg => ?_, fun d hd hg => ?_⟩
    · have hread := readGripper_orphan (s := s.countGood.resumed) hd hg
      rw [hread] at hreads
      exact ⟨_, orphanAt .arm s.freshTag, hreads, foundOrphan_disc _ _, rfl, rfl, freshTag_next s,
        by rw [foundOrphan_eq]; rfl, foundOrphan_has s.countGood.resumed .arm hm⟩
    · have hread := readGripper_held (s := s.countGood.resumed) hd hg
      rw [hread] at hreads
      exact ⟨_, hreads, by rw [createRecover_only]; exact hd, createRecover_has (s := s.countGood.resumed) hd hm⟩
    · have hread := readGripper_lost (s := s.countGood.resumed) hd hg
      rw [hread] at hreads
      refine ⟨_, hreads, lose_disc_self (s := s.countGood.resumed) hd _ _, fun hroom => ?_⟩
      obtain ⟨hn, -⟩ := lose_room (s := s.countGood.resumed) hd .discMissing hroom
      rw [hn]
      rfl
  · exact exec_refused ht hl rfl rfl (transportResume_refused (s := s.countGood) hs)
  · exact exec_refused ht hl rfl rfl (hostMove_refused (s := s.countGood) hs)
  · rintro hsrc ⟨st, hst, htray⟩
    exact exec_refused ht hl rfl rfl (hostMove_noRecord (s := s.countGood) hs hsrc hst htray)
  · intro q st d hsrc hst hd
    have hrow := hostMove_record (s := s.countGood) hs hsrc hst hd
    refine ⟨fun hm => ?_, fun hm hfull => ?_, fun hm hroom => ?_⟩
    · exact exec_refused ht hl rfl rfl (hrow.trans (if_pos hm))
    · exact exec_refused ht hl rfl rfl (hrow.trans ((if_neg (ne_false_of_eq_true hm)).trans (if_pos hfull)))
    · exact exec_settled ht hl rfl
        (hrow.trans ((if_neg (ne_false_of_eq_true hm)).trans (if_neg (Nat.not_le.mpr hroom))))

end Sys2Proof.Machine

namespace Sys2Proof.Machine

/-! ## A fault of transport (R146) -/

theorem raise_transport (s : State) {x : Notice} (hx : x.cls = .transport) :
    s.raise x = { s with notices := { s.notices with transport := s.notices.transport.raise x } } := by
  unfold State.raise
  rw [hx]
  rfl

theorem armFault_eq (s : State) (c : TransportCause) (st : Option Station) : s.armFault c st = { s with
    transport := { s.transport with
      state := .fault, cause := some c, station := st, move := none, pausePending := false }
    notices := { s.notices with
      transport := s.notices.transport.raise (.transportFault st), reserved := false } } := rfl

/-- A report touches no pending set. -/
theorem appendReport_notices (s : State) (b : Bool) (r : Report) : (s.appendReport b r).notices = { s.notices with
    reports := (s.appendReport b r).notices.reports, reserved := (s.appendReport b r).notices.reserved } := by
  unfold State.appendReport
  dsimp only
  (repeat' split) <;> rfl

/-! ## A bin sensor changes (R148, R149) -/

/-- The level of a bin sensor and the mark of its input bin follow the sensor. -/
def State.sensed (s : State) (k : BinSensor) (v : Bool) : State := { s with
  sensors := { s.sensors with bins := s.sensors.bins.set k v }
  transport := { s.transport with marks := match k with
    | .input i => upd s.transport.marks i v
    | .full _ => s.transport.marks } }

section
variable {s : State} {k : BinSensor} {v : Bool}

theorem sensed_mark (i : BinId) :
    nth (s.sensed k v).transport.marks i = if k = .input i then v else nth s.transport.marks i := by
  cases k with
  | input m => simp [State.sensed, nth_upd, eq_comm]
  | full b => simp [State.sensed]

theorem sensorChanges_eq (h : s.sensors.bins.get k ≠ v) : s.sensorChanges k v = (s.sensed k v).compareSensor k := by
  rw [State.sensorChanges, if_neg h]
  cases k <;> rfl

/-- A quiet sensor unlike its latch latches and raises its cause (R148). -/
theorem compareSensed_latches (hq : s.quiet k = true) (hl : v ≠ s.transport.latched.get k) :
    (s.sensed k v).compareSensor k = { s.sensed k v with
      transport := { (s.sensed k v).transport with latched := s.transport.latched.set k v }
      notices := { s.notices with transport := s.notices.transport.raise (k.notice v) } } := by
  have hlevel : (s.sensed k v).sensors.bins.get k = v := (get_set _ k k v).trans (if_pos rfl)
  have hquiet : (s.sensed k v).quiet k = true := hq
  have hlatch : v ≠ (s.sensed k v).transport.latched.get k := hl
  unfold State.compareSensor
  dsimp only
  rw [hlevel, hquiet, Bool.true_and, decide_eq_true hlatch, if_pos rfl, raise_transport _ (notice_cls k v)]
  rfl

theorem compareSensed_stands (h : ¬ s.quiet k = true ∨ v = s.transport.latched.get k) :
    (s.sensed k v).compareSensor k = s.sensed k v := by
  have hlevel : (s.sensed k v).sensors.bins.get k = v := (get_set _ k k v).trans (if_pos rfl)
  unfold State.compareSensor
  dsimp only
  rw [hlevel]
  refine if_neg fun hc => ?_
  rw [Bool.and_eq_true, decide_eq_true_iff] at hc
  exact h.elim (fun hq => hq hc.1) fun hl => hc.2 hl

end

/-! ## The gripper sensor changes with no move (R141) -/

/-- The level of the present sensor of the gripper follows the sensor. -/
def State.gripLevel (s : State) (v : Bool) : State := { s with sensors := { s.sensors with gripPresent := v } }

section
variable {s : State} {v : Bool}

theorem gripperChanges_idle (h : s.sensors.gripPresent ≠ v) (hm : s.transport.move = none) :
    s.gripperChanges v = (s.gripLevel v).gripperIdle v := by
  rw [State.gripperChanges, if_neg h]
  have hmove : (s.modSensors fun x => { x with gripPresent := v }).transport.move = none := hm
  simp only [hmove]
  rfl

theorem gripperIdle_orphan (hs : s.transport.state ∈ [TransportState.ready, .paused, .fault])
    (hd : s.disc .arm = none) :
    s.gripperIdle true = (s.createOrphan .arm).createRecover .arm := by
  unfold State.gripperIdle
  split <;> simp_all

theorem gripperIdle_lost {d : Disc} (hs : s.transport.state ∈ [TransportState.ready, .paused, .fault])
    (hd : s.disc .arm = some d) : s.gripperIdle false = if s.transport.state = .fault then s.lose .arm .dropped false
      else (s.lose .arm .dropped false).armFault .dropped none := by
  unfold State.gripperIdle
  split <;> simp_all

/-- A record that the gripper no longer senses is lost as DROPPED, and transport is in FAULT (R141). -/
theorem dropped_idle {d : Disc} (hs : s.transport.state ∈ [TransportState.ready, .paused, .fault])
    (hd : s.disc .arm = some d) : let u := s.gripperIdle false
    u.disc .arm = none ∧ u.sensors = s.sensors ∧ (∀ q, q ≠ .arm → u.disc q = s.disc q) ∧
      u.transport.state = .fault ∧ (s.transport.state ≠ .fault → u.transport.cause = some .dropped ∧
        u.transport.station = none ∧ u.notices.transport = s.notices.transport.raise (.transportFault none)) ∧
      (s.transport.state = .fault → u.transport = s.transport) ∧
      u.notices.reports = (s.lose .arm .dropped false).notices.reports := by
  intro u
  have hlost : (s.lose .arm .dropped false).transport = s.transport := by
    rw [lose_eq hd]
    exact without_of_not_shelf _ nofun
  have hsensors : (s.lose .arm .dropped false).sensors = s.sensors := by rw [lose_eq hd]
  have hnotices : (s.lose .arm .dropped false).notices.transport = s.notices.transport := by
    rw [lose_eq hd]
    dsimp only
    rw [appendReport_notices]
  have hself := lose_disc_self hd .dropped false
  have hother := fun q (hq : q ≠ Place.arm) => lose_disc_ne hd .dropped false hq
  by_cases hf : s.transport.state = .fault
  · have hu : u = s.lose .arm .dropped false := (gripperIdle_lost hs hd).trans (if_pos hf)
    rw [hu, hlost]
    exact ⟨hself, hsensors, hother, hf, fun hc => absurd hf hc, fun _ => rfl, rfl⟩
  · have hu : u = (s.lose .arm .dropped false).armFault .dropped none := (gripperIdle_lost hs hd).trans (if_neg hf)
    rw [hu, armFault_eq]
    exact ⟨hself, hsensors, hother, rfl, fun _ => ⟨rfl, rfl, by rw [hnotices]⟩, fun hc => absurd hc hf, rfl⟩

end

section
variable {s : State} (hr : s.resetHeld = false)
include hr

theorem placeSensorChange_row (p : SensedPlace) (v : Bool) : exec (.placeSensorChange p v) s =
    .next (State.settle s { s with sensors := s.sensors.setPlace p v }) := by
  have hrow : exec (.placeSensorChange p v) s = .next (if s.resetHeld then s.modSensors fun x => x.setPlace p v
      else s.event fun s => s.modSensors fun x => x.setPlace p v) := rfl
  rw [hrow, if_neg (ne_true_of_eq_false hr), event_run hr]
  exact congrArg (fun u => Host.Outcome.next (State.settle s u)) rfl

theorem gripperSensorChange_row {v : Bool} (h : s.sensors.gripPresent ≠ v) (hm : s.transport.move = none) :
    exec (.gripperSensorChange .present v) s = .next (State.settle s ((s.gripLevel v).gripperIdle v)) := by
  have hrow : exec (.gripperSensorChange .present v) s = .next (if s.resetHeld then
      s.modSensors fun x => { x with gripPresent := v } else s.event fun s => s.gripperChanges v) := rfl
  rw [hrow, if_neg (ne_true_of_eq_false hr), event_run hr, gripperChanges_idle h hm]

end

/-- Settles O49: a changed bin sensor is `sensed` and then compared with its latch; the gripper without a move finds an
ORPHAN (`foundOrphan_eq`) or drops its record (`dropped_idle`). -/
theorem sensorsChange : Obligations.SensorsChange := by
  unfold Obligations.SensorsChange
  intro s hr
  refine ⟨fun k v c hc hv => ?_, fun k v => ?_, fun v => ?_, fun v => rfl,
    fun hg hm hd hs => ?_, fun d hg hm hd hs => ?_⟩
  · intro quiet
    have hquiet : quiet ↔ s.quiet k = true := quiet_iff.symm
    have hexec : exec c s = .next (State.settle s ((s.sensed k v).compareSensor k)) := by
      have hrow : exec c s = .next (s.binSensorRow k v) := by
        rcases hc with ⟨i, rfl, rfl⟩ | ⟨b, rfl, rfl⟩ <;> rfl
      rw [hrow, State.binSensorRow, if_neg (ne_true_of_eq_false hr), event_run hr, sensorChanges_eq hv]
    have hlevel : (s.sensed k v).sensors.bins.get k = v := (get_set _ k k v).trans (if_pos rfl)
    refine ⟨_, hexec, ?_⟩
    by_cases hl : quiet ∧ v ≠ s.transport.latched.get k
    · rw [compareSensed_latches (hquiet.mp hl.1) hl.2]
      exact ⟨rfl, hlevel, sensed_mark, rfl, fun _ _ => ⟨rfl, rfl⟩,
        fun hc => hc.elim (fun hq => absurd hl.1 hq) fun he => absurd he hl.2, rfl⟩
    · have hstands : ¬ s.quiet k = true ∨ v = s.transport.latched.get k := by
        rw [← hquiet]
        tauto
      rw [compareSensed_stands hstands]
      exact ⟨rfl, hlevel, sensed_mark, rfl, fun hq he => absurd ⟨hq, he⟩ hl, fun _ => ⟨rfl, rfl⟩, rfl⟩
  · exact placeSensorChange_row hr (.shelf k) v
  · exact placeSensorChange_row hr .platter v
  · have hrow : exec (.gripperSensorChange .present true) s =
        .next (State.settle s ((s.gripLevel true).gripperIdle true)) :=
      gripperSensorChange_row hr (by rw [hg]; exact nofun) hm
    have hfound := gripperIdle_orphan (s := s.gripLevel true) hs hd
    rw [hfound] at hrow
    exact ⟨_, orphanAt .arm s.freshTag, hrow, foundOrphan_disc _ _, rfl, rfl, freshTag_next s,
      by rw [foundOrphan_eq]; rfl, foundOrphan_has (s.gripLevel true) .arm hm, by rw [foundOrphan_eq]; rfl,
      fun q hq => foundOrphan_disc_ne _ _ hq⟩
  · have hrow : exec (.gripperSensorChange .present false) s =
        .next (State.settle s ((s.gripLevel false).gripperIdle false)) :=
      gripperSensorChange_row hr (by rw [hg]; exact nofun) hm
    obtain ⟨hself, hsensors, hother, hstate, hfault, hsame, hreports⟩ := dropped_idle (s := s.gripLevel false) hs hd
    refine ⟨_, hrow, hself, hsensors, hother, hstate, hfault, hsame, fun hroom => ?_⟩
    obtain ⟨hnotices, -⟩ := lose_room (s := s.gripLevel false) hd .dropped hroom
    rw [hreports, hnotices]
    rfl

end Sys2Proof.Machine

namespace Sys2Proof.Machine

/-! ## A record taken or lost from the platter (R165) -/

/-- A label is in progress (R165). -/
abbrev Printer.isPrinting (p : Printer) : Prop := p.state = .loaded ∨ p.state = .waitRibbon ∨ p.state = .printing

/-- The printer once its platter is emptied with no label in progress. -/
def Printer.emptied (p : Printer) : Printer :=
  if p.state = .done then { p with state := .empty, label := none, timerDue := none, tag := none }
  else { p with tag := none }

/-- The printer once its platter is emptied under a label in progress. -/
def Printer.spoiled (p : Printer) : Printer := { p with state := .fault, label := none, timerDue := none, tag := none }

theorem raise_printer (s : State) {x : Notice} (hx : x.cls = .printer) :
    s.raise x = { s with notices := { s.notices with printer := s.notices.printer.raise x } } := by
  unfold State.raise
  rw [hx]
  rfl

section
variable {s : State}

theorem platterLost_idle (h : ¬ s.printer.isPrinting) : s.platterLost = { s with printer := s.printer.emptied } := by
  unfold Printer.isPrinting at h
  unfold State.platterLost Printer.emptied
  cases hp : s.printer.state <;> simp_all [State.modPrinter]

theorem platterLost_printing (h : s.printer.isPrinting) : s.platterLost =
    { s.modDisc .platter fun d => { d with void := d.serial.isSome } with
      printer := s.printer.spoiled
      notices := { s.notices with printer := s.notices.printer.raise .printerFault } } := by
  unfold State.platterLost State.printerFault
  rw [raise_printer _ rfl]
  rcases h with h | h | h <;> rw [h] <;> rfl

theorem platterTaken_idle (h : ¬ s.printer.isPrinting) : s.platterTaken = { s with printer := s.printer.emptied } := by
  unfold Printer.isPrinting at h
  unfold State.platterTaken Printer.emptied
  cases hp : s.printer.state <;> simp_all [State.modPrinter]

theorem platterTaken_printing (h : s.printer.isPrinting) : s.platterTaken = { s.modDisc .arm Disc.spoil with
      printer := s.printer.spoiled
      notices := { s.notices with printer := s.notices.printer.raise .printerFault } } := by
  unfold State.platterTaken State.printerFault
  rw [raise_printer _ rfl]
  rcases h with h | h | h <;> rw [h] <;> rfl

end

/-! ## A record that is not where it should be (R124, R165) -/

/-- Before a record is lost from the platter the printer is emptied or its label spoiled (R165). -/
def State.voided (s : State) (q : Place) : State := if q = .platter then s.platterLost else s

/-- The record as it is reported: one lost from under a label in progress has its serial voided (R165). -/
def State.lostAs (s : State) (q : Place) (d : Disc) : Disc :=
  { d with void := if q = .platter ∧ s.printer.isPrinting then d.serial.isSome else d.void }

theorem lostAs_same {s : State} {q : Place} (d : Disc) (h : ¬ (q = .platter ∧ s.printer.isPrinting)) :
    s.lostAs q d = d := by
  rw [State.lostAs, if_neg h]

theorem voided_ne {s : State} {q : Place} (hq : q ≠ .platter) : s.voided q = s := if_neg hq

section
variable {s : State} {q : Place} {d : Disc} (hd : s.disc q = some d)
include hd

/-- Only the printer, its pending set and the record's VOID flag may change. -/
theorem voided_eq : s.voided q = { s with
    places := upd s.places q.idx (some (s.lostAs q d))
    printer := (s.voided q).printer
    notices := { s.notices with printer := (s.voided q).notices.printer } } := by
  have hsame : upd s.places q.idx (some d) = s.places := by
    rw [← hd]
    exact upd_self _ _
  by_cases hq : q = .platter
  · subst hq
    rw [State.voided, if_pos rfl]
    by_cases hp : s.printer.isPrinting
    · rw [platterLost_printing hp, State.lostAs, if_pos ⟨rfl, hp⟩, modDisc_some hd]
      rfl
    · rw [platterLost_idle hp, lostAs_same d fun hc => hp hc.2, hsame]
  · rw [voided_ne hq, lostAs_same d fun hc => hq hc.1, hsame]

theorem voided_disc : (s.voided q).disc q = some (s.lostAs q d) := by
  rw [voided_eq hd]
  exact nth_upd_self _ _ _

theorem voided_disc_ne {r : Place} (hr : r ≠ q) : (s.voided q).disc r = s.disc r := by
  rw [voided_eq hd]
  exact nth_upd_ne _ _ fun hidx => hr (Place.idx_inj hidx)

/-- A record that is not sensed: its place is free, its job counts it, the rest of the roster stands. -/
theorem missing_disc {r : Place} :
    ((s.voided q).lose q .discMissing false).disc r = if r = q then none else s.disc r := by
  have hvoid := voided_disc hd
  split
  · next hr => rw [hr, lose_disc_self hvoid]
  · next hr => rw [lose_disc_ne hvoid _ _ hr, voided_disc_ne hd hr]

theorem missing_job (k : JobId) : ((s.voided q).lose q .discMissing false).job k = if d.job = some k then
    { s.job k with counters := { (s.job k).counters with lost := satInc max32 (s.job k).counters.lost } }
    else s.job k := by
  have hjob : (s.voided q).job k = s.job k := by rw [voided_eq hd]; rfl
  rw [lose_job (voided_disc hd), hjob]
  rfl

/-- With room the report of the loss waits (R127). -/
theorem missing_room (hroom : s.notices.reports.length + (if s.notices.reserved then 1 else 0) < Config.reportRoom) :
    ((s.voided q).lose q .discMissing false).notices.reports =
        s.notices.reports ++ [lossReport (s.lostAs q d) .discMissing q] ∧
      ((s.voided q).lose q .discMissing false).unreported = s.unreported := by
  have hnotices : (s.voided q).notices.reports = s.notices.reports ∧
      (s.voided q).notices.reserved = s.notices.reserved ∧ (s.voided q).unreported = s.unreported := by
    rw [voided_eq hd]
    exact ⟨rfl, rfl, rfl⟩
  obtain ⟨hreports, hreserved, hunreported⟩ := hnotices
  rw [← hreports, ← hreserved] at hroom
  obtain ⟨hn, hu⟩ := lose_room (voided_disc hd) .discMissing hroom
  rw [hn, hu, hunreported]
  exact ⟨congrArg (· ++ _) hreports, rfl⟩

/-- Without room the loss is counted as unreported (R127). -/
theorem missing_full (hfull : ¬ s.notices.reports.length + (if s.notices.reserved then 1 else 0) < Config.reportRoom) :
    ((s.voided q).lose q .discMissing false).notices.reports = s.notices.reports ∧
      ((s.voided q).lose q .discMissing false).unreported = satInc 65535 s.unreported := by
  have hnotices : (s.voided q).notices.reports = s.notices.reports ∧
      (s.voided q).notices.reserved = s.notices.reserved ∧ (s.voided q).unreported = s.unreported := by
    rw [voided_eq hd]
    exact ⟨rfl, rfl, rfl⟩
  obtain ⟨hreports, hreserved, hunreported⟩ := hnotices
  rw [← hreports, ← hreserved] at hfull
  obtain ⟨hn, hu⟩ := lose_full (voided_disc hd) .discMissing hfull
  rw [hn, hu, hunreported]
  exact ⟨hreports, rfl⟩

/-- What the loss of a record leaves alone. -/
theorem missing_frame : let t := (s.voided q).lose q .discMissing false
    t = { s with
      jobs := t.jobs, places := t.places, unreported := t.unreported
      printer := (s.voided q).printer
      notices := { s.notices with
        printer := (s.voided q).notices.printer, reports := t.notices.reports, reserved := t.notices.reserved }
      transport := s.transport.without q } := by
  intro t
  have ht : t = _ := lose_eq (voided_disc hd) .discMissing false
  rw [appendReport_notices, voided_eq hd] at ht
  rw [ht]

end

end Sys2Proof.Machine

namespace Sys2Proof.Machine

/-! ## Taking stock of a place (R134) -/

/-- Whether a place with a sensor holds a disc; a tray has none. -/
def Sensors.sees (x : Sensors) : Place → Bool
  | .shelf k => nth x.shelf k
  | .platter => x.platter
  | .arm => x.gripPresent
  | .tray _ => false

/-- What the inventory does at one of its places. -/
def State.takeStock (s : State) (q : Place) : State :=
  if q = .arm then s.readGripper else s.inventoryPlace q (s.sensors.sees q)

section
variable {s : State} {q : Place} {d : Disc}

theorem takeStock_arm (s : State) : s.takeStock .arm = s.readGripper := if_pos rfl

theorem takeStock_free (hd : s.disc q = none) (hv : s.sensors.sees q = false) : s.takeStock q = s := by
  by_cases hq : q = .arm
  · subst hq
    rw [takeStock_arm, readGripper_free hd hv]
  · rw [State.takeStock, if_neg hq, State.inventoryPlace, hd, hv]
    rfl

theorem takeStock_orphan (hd : s.disc q = none) (hv : s.sensors.sees q = true) :
    s.takeStock q = (s.createOrphan q).createRecover q := by
  by_cases hq : q = .arm
  · subst hq
    rw [takeStock_arm, readGripper_orphan hd hv]
  · rw [State.takeStock, if_neg hq, State.inventoryPlace, hd, hv]
    rfl

theorem takeStock_lost (hd : s.disc q = some d) (hv : s.sensors.sees q = false) :
    s.takeStock q = (s.voided q).lose q .discMissing false := by
  by_cases hq : q = .arm
  · subst hq
    rw [takeStock_arm, readGripper_lost hd hv, voided_ne (q := .arm) nofun]
  · rw [State.takeStock, if_neg hq, State.inventoryPlace, hd, hv]
    rfl

theorem takeStock_seen (hd : s.disc q = some d) (hv : s.sensors.sees q = true) :
    s.takeStock q = if d.state = .orphan ∨ q = .arm then s.createRecover q else s := by
  by_cases hq : q = .arm
  · subst hq
    rw [takeStock_arm, readGripper_held hd hv, if_pos (Or.inr rfl)]
  · rw [State.takeStock, if_neg hq, State.inventoryPlace, hd, hv]
    simp only [hq, or_false]
    rfl

/-- A record that is seen stays, with or without a request for it. -/
theorem takeStock_seen_only (hd : s.disc q = some d) (hv : s.sensors.sees q = true) :
    onlyRequests s (s.takeStock q) := by
  rw [takeStock_seen hd hv]
  split
  · exact createRecover_only s q
  · exact onlyRequests_refl s

end

section
variable (s : State) (q : Place)

/-- Afterwards the record of a place says what its sensor says. -/
theorem takeStock_disc_self : (s.takeStock q).disc q =
    if s.sensors.sees q then some ((s.disc q).getD (orphanAt q s.freshTag)) else none := by
  cases hd : s.disc q with
  | none =>
    cases hv : s.sensors.sees q with
    | false => rw [takeStock_free hd hv, hd]; rfl
    | true => rw [takeStock_orphan hd hv, foundOrphan_disc]; rfl
  | some d =>
    cases hv : s.sensors.sees q with
    | false => rw [takeStock_lost hd hv, missing_disc hd, if_pos rfl]; rfl
    | true => rw [takeStock_seen_only hd hv]; exact hd

theorem takeStock_disc_ne {r : Place} (hr : r ≠ q) : (s.takeStock q).disc r = s.disc r := by
  cases hd : s.disc q with
  | none =>
    cases hv : s.sensors.sees q with
    | false => rw [takeStock_free hd hv]
    | true => rw [takeStock_orphan hd hv, foundOrphan_disc_ne _ _ hr]
  | some d =>
    cases hv : s.sensors.sees q with
    | false => rw [takeStock_lost hd hv, missing_disc hd, if_neg hr]
    | true => rw [takeStock_seen_only hd hv]; rfl

end

/-! ## What the inventory keeps -/

/-- The inventory leaves ports, sensors and the transport's notices and move alone, and withdraws no request. -/
structure StockKept (s t : State) : Prop where
  sensors : t.sensors = s.sensors
  ports : t.ports = s.ports
  notices : t.notices.transport = s.notices.transport
  reserved : t.notices.reserved = s.notices.reserved
  move : t.transport.move = s.transport.move
  queue : ∀ r ∈ s.transport.queue, r ∈ t.transport.queue

theorem StockKept.refl (s : State) : StockKept s s := ⟨rfl, rfl, rfl, rfl, rfl, fun _ h => h⟩

theorem StockKept.trans {s t u : State} (h : StockKept s t) (k : StockKept t u) : StockKept s u where
  sensors := k.sensors.trans h.sensors
  ports := k.ports.trans h.ports
  notices := k.notices.trans h.notices
  reserved := k.reserved.trans h.reserved
  move := k.move.trans h.move
  queue r hr := k.queue r (h.queue r hr)

theorem createRecover_queue (s : State) (q : Place) :
    ∀ r ∈ s.transport.queue, r ∈ (s.createRecover q).transport.queue := by
  intro r hr
  cases hd : s.disc q with
  | none => rwa [State.createRecover, hd]
  | some d =>
    rw [createRecover_eq hd]
    split
    · exact hr
    · exact List.mem_append_left _ hr

theorem createRecover_stockKept (s : State) (q : Place) : StockKept s (s.createRecover q) := by
  have hqueue := createRecover_queue s q
  have honly := createRecover_only s q
  unfold onlyRequests at honly
  refine ⟨?_, ?_, ?_, ?_, ?_, hqueue⟩ <;> rw [honly]

/-- The loss of a record that is not sensed keeps the slot reserved for a delivery. -/
theorem missing_reserved {s : State} {q : Place} {d : Disc} (hd : s.disc q = some d) :
    ((s.voided q).lose q .discMissing false).notices.reserved = s.notices.reserved := by
  have hvoid := voided_disc hd
  have hsame : (s.voided q).notices.reserved = s.notices.reserved := by rw [voided_eq hd]
  rw [← hsame]
  by_cases hroom : (s.voided q).notices.reports.length + (if (s.voided q).notices.reserved then 1 else 0) <
      Config.reportRoom
  · rw [(lose_room hvoid .discMissing hroom).1]
  · rw [(lose_full hvoid .discMissing hroom).1]

theorem missing_stockKept {s : State} {q : Place} {d : Disc} (hd : s.disc q = some d) :
    StockKept s ((s.voided q).lose q .discMissing false) := by
  have hreserved := missing_reserved hd
  have hframe := missing_frame hd
  dsimp only at hframe
  refine ⟨?_, ?_, ?_, hreserved, ?_, fun r hr => ?_⟩
  all_goals rw [hframe]
  · rfl
  · exact hr

theorem takeStock_kept (s : State) (q : Place) : StockKept s (s.takeStock q) := by
  cases hd : s.disc q with
  | none =>
    cases hv : s.sensors.sees q with
    | false => rw [takeStock_free hd hv]; exact .refl s
    | true =>
      have hcreate : StockKept s (s.createOrphan q) := by
        rw [createOrphan_eq]
        exact ⟨rfl, rfl, rfl, rfl, rfl, fun _ h => h⟩
      rw [takeStock_orphan hd hv]
      exact hcreate.trans (createRecover_stockKept _ q)
  | some d =>
    cases hv : s.sensors.sees q with
    | false => rw [takeStock_lost hd hv]; exact missing_stockKept hd
    | true =>
      rw [takeStock_seen hd hv]
      split
      · exact createRecover_stockKept s q
      · exact .refl s

/-! ## The printer under the inventory (R165) -/

/-- What taking stock of the platter does to the printer. -/
def State.stockPrinter (s : State) : Printer × NoticeClass :=
  if s.sensors.platter = false ∧ s.disc .platter ≠ none then
    if s.printer.isPrinting then (s.printer.spoiled, s.notices.printer.raise .printerFault)
    else (s.printer.emptied, s.notices.printer)
  else (s.printer, s.notices.printer)

theorem lose_printer {s : State} {q : Place} {d : Disc} (hd : s.disc q = some d) (c : LossCause) (b : Bool) :
    (s.lose q c b).printer = s.printer ∧ (s.lose q c b).notices.printer = s.notices.printer := by
  rw [lose_eq hd, appendReport_notices]
  exact ⟨rfl, rfl⟩

theorem onlyRequests_printer {s t : State} (h : onlyRequests s t) :
    t.printer = s.printer ∧ t.notices.printer = s.notices.printer := by
  unfold onlyRequests at h
  rw [h]
  exact ⟨rfl, rfl⟩

theorem takeStock_printer_platter (s : State) :
    ((s.takeStock .platter).printer, (s.takeStock .platter).notices.printer) = s.stockPrinter := by
  unfold State.stockPrinter
  cases hd : s.disc .platter with
  | none =>
    rw [if_neg fun h => h.2 rfl]
    cases hv : s.sensors.platter with
    | false => rw [takeStock_free hd hv]
    | true => rw [takeStock_orphan hd hv, foundOrphan_eq]
  | some d =>
    cases hv : s.sensors.platter with
    | true =>
      obtain ⟨hprinter, hnotices⟩ := onlyRequests_printer (takeStock_seen_only hd hv)
      rw [if_neg (fun h => nomatch h.1), hprinter, hnotices]
    | false =>
      obtain ⟨hprinter, hnotices⟩ := lose_printer (voided_disc hd) .discMissing false
      rw [if_pos ⟨rfl, nofun⟩, takeStock_lost hd hv, hprinter, hnotices, State.voided, if_pos rfl]
      split
      · next hp => rw [platterLost_printing hp]
      · next hp => rw [platterLost_idle hp]

theorem takeStock_printer_ne (s : State) {q : Place} (hq : q ≠ .platter) :
    (s.takeStock q).printer = s.printer ∧ (s.takeStock q).notices.printer = s.notices.printer := by
  cases hd : s.disc q with
  | none =>
    cases hv : s.sensors.sees q with
    | false => rw [takeStock_free hd hv]; exact ⟨rfl, rfl⟩
    | true => rw [takeStock_orphan hd hv, foundOrphan_eq]; exact ⟨rfl, rfl⟩
  | some d =>
    cases hv : s.sensors.sees q with
    | false => rw [takeStock_lost hd hv, voided_ne hq]; exact lose_printer hd _ _
    | true => exact onlyRequests_printer (takeStock_seen_only hd hv)

/-! ## The whole inventory -/

/-- The places with a sensor, in the order of the inventory. -/
def stockPlaces : List Place := [.shelf 0, .shelf 1, .shelf 2, .shelf 3, .platter, .arm]

theorem stockPlaces_nodup : stockPlaces.Nodup := by decide

theorem stockPlaces_inj {i k : Nat} {q : Place} (hi : stockPlaces[i]? = some q) (hk : stockPlaces[k]? = some q) :
    i = k := by
  obtain ⟨hlt, -⟩ := List.getElem?_eq_some_iff.mp hi
  exact (List.getElem?_inj hlt stockPlaces_nodup).mp (hi.trans hk.symm)

/-- The state once stock has been taken of the first `i` places. -/
@[irreducible] def State.stock (s : State) (i : Nat) : State := (stockPlaces.take i).foldl State.takeStock s

section
variable {s : State} {i k : Nat} {q : Place}

theorem stock_zero (s : State) : s.stock 0 = s := by
  rw [State.stock]
  rfl

theorem stock_succ (hq : stockPlaces[i]? = some q) : s.stock (i + 1) = (s.stock i).takeStock q := by
  rw [State.stock, State.stock, List.take_add_one, hq, List.foldl_append]
  rfl

theorem stock_end (hq : stockPlaces[i]? = none) : s.stock (i + 1) = s.stock i := by
  rw [State.stock, State.stock, List.take_add_one, hq, Option.toList_none, List.append_nil]

/-- What taking stock of a place other than `q` keeps, the inventory keeps while it does not come to `q`. -/
theorem stock_between {R : State → State → Prop} (refl : ∀ t, R t t) (trans : ∀ {t u v}, R t u → R u v → R t v)
    (step : ∀ t r, r ≠ q → R t (t.takeStock r)) (hik : i ≤ k) (hq : ∀ n, i ≤ n → n < k → stockPlaces[n]? ≠ some q) :
    R (s.stock i) (s.stock k) := by
  induction k, hik using Nat.le_induction with
  | base => exact refl _
  | succ k hik ih =>
    have hprior := ih fun n hn hlt => hq n hn (Nat.lt_succ_of_lt hlt)
    cases hr : stockPlaces[k]? with
    | none => rwa [stock_end hr]
    | some r =>
      rw [stock_succ hr]
      exact trans hprior (step _ r fun hrq => hq k hik (Nat.lt_succ_self k) (hr.trans (congrArg some hrq)))

theorem stock_kept (hik : i ≤ k) : StockKept (s.stock i) (s.stock k) := by
  induction k, hik using Nat.le_induction with
  | base => exact .refl _
  | succ k _ ih =>
    cases hr : stockPlaces[k]? with
    | none => rwa [stock_end hr]
    | some r => rw [stock_succ hr]; exact ih.trans (takeStock_kept _ r)

theorem stock_kept_start (s : State) (i : Nat) : StockKept s (s.stock i) := by
  have hkept := stock_kept (s := s) (Nat.zero_le i)
  rwa [stock_zero] at hkept

theorem stock_disc_between (hik : i ≤ k) (hq : ∀ n, i ≤ n → n < k → stockPlaces[n]? ≠ some q) :
    (s.stock k).disc q = (s.stock i).disc q :=
  stock_between (R := fun t u => u.disc q = t.disc q) (fun _ => rfl) (fun h g => g.trans h)
    (fun t _ hr => takeStock_disc_ne t _ hr.symm) hik hq

theorem stock_printer_between (hik : i ≤ k) (hq : ∀ n, i ≤ n → n < k → stockPlaces[n]? ≠ some .platter) :
    (s.stock k).printer = (s.stock i).printer ∧ (s.stock k).notices.printer = (s.stock i).notices.printer :=
  stock_between (R := fun t u => u.printer = t.printer ∧ u.notices.printer = t.notices.printer)
    (fun _ => ⟨rfl, rfl⟩) (fun h g => ⟨g.1.trans h.1, g.2.trans h.2⟩) (fun t _ hr => takeStock_printer_ne t hr) hik hq

section
variable (hq : stockPlaces[i]? = some q)
include hq

/-- Until the inventory comes to a place its record stands. -/
theorem stock_disc_before : (s.stock i).disc q = s.disc q := by
  have hsame := stock_disc_between (s := s) (Nat.zero_le i) fun _ _ hn hsame =>
    (Nat.ne_of_lt hn) (stockPlaces_inj hsame hq)
  rwa [stock_zero] at hsame

/-- Once the inventory has come to a place its record stands. -/
theorem stock_disc_after (hik : i + 1 ≤ k) : (s.stock k).disc q = (s.stock (i + 1)).disc q :=
  stock_disc_between hik fun _ hn _ hsame => (Nat.ne_of_gt hn) (stockPlaces_inj hsame hq)

theorem stock_lt : i < 6 := (List.getElem?_eq_some_iff.mp hq).1

theorem stock_disc : (s.stock 6).disc q =
    if s.sensors.sees q then some ((s.disc q).getD (orphanAt q (s.stock i).freshTag)) else none := by
  have hkept := stock_kept_start s i
  rw [stock_disc_after hq (stock_lt hq), stock_succ hq, takeStock_disc_self, stock_disc_before hq, hkept.sensors]

end

end

/-! ## The tag of an ORPHAN found (R115) -/

/-- No record but the one of a place has the tag. -/
def State.tagOnlyAt (s : State) (q : Place) (tag : Half) : Prop :=
  (∃ d, s.disc q = some d ∧ d.tag = tag) ∧ ∀ r e, r ≠ q → s.disc r = some e → e.tag ≠ tag

section
variable {s : State} {i k : Nat} {q : Place}

theorem takeStock_newTag (hd : s.disc q = none) (hv : s.sensors.sees q = true) :
    (s.takeStock q).tagOnlyAt q s.freshTag := by
  obtain ⟨_, -, -, hfresh, -⟩ := freshTag_next s
  rw [takeStock_orphan hd hv]
  refine ⟨⟨_, foundOrphan_disc s q, rfl⟩, fun r e hr he => hfresh r e ?_⟩
  rwa [foundOrphan_disc_ne _ _ hr] at he

/-- Stock taken elsewhere gives the tag to no other record: what is found there takes a tag that no record has. -/
theorem takeStock_tagOnlyAt {r : Place} {tag : Half} (hs : s.tagOnlyAt q tag) (hr : r ≠ q) :
    (s.takeStock r).tagOnlyAt q tag := by
  obtain ⟨⟨d, hd, htag⟩, hother⟩ := hs
  refine ⟨⟨d, (takeStock_disc_ne s r hr.symm).trans hd, htag⟩, fun p e hp he => ?_⟩
  by_cases hpr : p = r
  · subst hpr
    rw [takeStock_disc_self] at he
    split at he
    · cases hrec : s.disc p with
      | none =>
        obtain ⟨_, -, -, hfresh, -⟩ := freshTag_next s
        rw [hrec] at he
        obtain rfl := Option.some.inj he
        exact fun hsame => hfresh q d hd (htag.trans hsame.symm)
      | some x =>
        rw [hrec] at he
        obtain rfl := Option.some.inj he
        exact hother p x hp hrec
    · exact nomatch he
  · rw [takeStock_disc_ne s r hpr] at he
    exact hother p e hp he

theorem stock_tagOnlyAt (hq : stockPlaces[i]? = some q) (hd : s.disc q = none) (hv : s.sensors.sees q = true) :
    (s.stock 6).tagOnlyAt q (s.stock i).freshTag := by
  have hkept := stock_kept_start s i
  have hnew : (s.stock (i + 1)).tagOnlyAt q (s.stock i).freshTag := by
    rw [stock_succ hq]
    exact takeStock_newTag ((stock_disc_before hq).trans hd) (by rw [hkept.sensors, hv])
  exact stock_between (R := fun t u => t.tagOnlyAt q (s.stock i).freshTag → u.tagOnlyAt q (s.stock i).freshTag)
    (fun _ h => h) (fun h g x => g (h x)) (fun _ _ hr h => takeStock_tagOnlyAt h hr) (stock_lt hq)
    (fun _ hn _ hsame => (Nat.ne_of_gt hn) (stockPlaces_inj hsame hq)) hnew

/-! ## The RECOVER requests of the inventory (R134, R141) -/

/-- A record that stock is taken of at ARM, and an ORPHAN, has its RECOVER request then, if no move runs. -/
theorem takeStock_recovers {d : Disc} (hd : (s.takeStock q).disc q = some d) (hwho : d.state = .orphan ∨ q = .arm)
    (hm : s.transport.move = none) : ∃ r ∈ (s.takeStock q).transport.queue, r.kind = .recover q d.tag := by
  have hself := takeStock_disc_self s q
  rw [hd] at hself
  cases hv : s.sensors.sees q with
  | false => exact nomatch hv ▸ hself
  | true =>
    rw [hv, if_pos rfl] at hself
    have hd := Option.some.inj hself
    cases hrec : s.disc q with
    | none =>
      rw [hrec] at hd
      rw [takeStock_orphan hrec hv, hd]
      exact foundOrphan_has s q hm
    | some e =>
      rw [hrec] at hd
      obtain rfl : d = e := hd
      rw [takeStock_seen hrec hv, if_pos hwho]
      exact createRecover_has hrec hm

theorem stock_recovers {d : Disc} (hq : stockPlaces[i]? = some q) (hd : (s.stock 6).disc q = some d)
    (hwho : d.state = .orphan ∨ q = .arm) (hm : s.transport.move = none) :
    ∃ r ∈ (s.stock 6).transport.queue, r.kind = .recover q d.tag := by
  have hkept := stock_kept_start s i
  rw [stock_disc_after hq (stock_lt hq), stock_succ hq] at hd
  obtain ⟨r, hr, hkind⟩ := takeStock_recovers hd hwho (hkept.move.trans hm)
  rw [← stock_succ hq] at hr
  exact ⟨r, (stock_kept (stock_lt hq)).queue r hr, hkind⟩

end

/-! ## Homing ends (R133) -/

theorem inventory_eq (s : State) : s.inventory = { s.stock 6 with
    transport := { (s.stock 6).transport with marks := (s.stock 6).sensors.bins.empty } } := by
  have hshelf (t : State) (k : SlotId) : t.inventoryPlace (.shelf k) (nth t.sensors.shelf k) = t.takeStock (.shelf k) :=
    (if_neg nofun).symm
  have hplatter (t : State) : t.inventoryPlace .platter t.sensors.platter = t.takeStock .platter := (if_neg nofun).symm
  have hslots : stockPlaces.take 6 = (numbers 4).map Place.shelf ++ [.platter, .arm] := by decide
  have hstock : s.stock 6 =
      (((numbers 4).foldl (fun t k => t.takeStock (.shelf k)) s).takeStock .platter).takeStock .arm := by
    rw [State.stock, hslots, List.foldl_append, List.foldl_map, List.foldl_cons, List.foldl_cons, List.foldl_nil]
  simp only [State.inventory, hshelf, hplatter, ← takeStock_arm]
  rw [hstock]
  generalize (((numbers 4).foldl (fun t k => t.takeStock (.shelf k)) s).takeStock .platter).takeStock .arm = t
  rfl

/-- What homing sets at its end: READY, the EMPTY marks of the live sensors, no port held (R133, R134, R136). -/
def State.homeReady (t : State) : State := { t with
  transport := { t.transport with marks := t.sensors.bins.empty, state := .ready, homingDue := none, held := [] }
  notices := { t.notices with transport := t.notices.transport.raise .homed } }

theorem homed_eq (s : State) : s.homed = (s.stock 6).homeReady := by
  rw [State.homed, inventory_eq]
  exact raise_transport _ rfl

/-- Until the inventory comes to the platter the printer stands. -/
theorem stock_printer_before {s : State} {i : Nat} (hq : stockPlaces[i]? = some .platter) :
    (s.stock i).printer = s.printer ∧ (s.stock i).notices.printer = s.notices.printer := by
  have hsame := stock_printer_between (s := s) (Nat.zero_le i) fun _ _ hn hsame =>
    (Nat.ne_of_lt hn) (stockPlaces_inj hsame hq)
  rwa [stock_zero] at hsame

theorem stock_printer (s : State) : ((s.stock 6).printer, (s.stock 6).notices.printer) = s.stockPrinter := by
  have hplatter : stockPlaces[4]? = some .platter := rfl
  have hkept := stock_kept_start s 4
  obtain ⟨hbefore, hbeforeNotices⟩ := stock_printer_before (s := s) hplatter
  obtain ⟨hafter, hafterNotices⟩ := stock_printer_between (s := s) (i := 5) (k := 6) (by decide)
    fun _ hn _ hsame => (Nat.ne_of_gt hn) (stockPlaces_inj hsame hplatter)
  rw [hafter, hafterNotices, stock_succ hplatter, takeStock_printer_platter]
  unfold State.stockPrinter
  rw [stock_disc_before hplatter, hkept.sensors, hbefore, hbeforeNotices]

end Sys2Proof.Machine

namespace Sys2Proof.Machine

/-! ## The rows of homing (R133) -/

section
variable {s : State} (hr : s.resetHeld = false) (hs : s.transport.state = .homing)
include hr hs

theorem armArrived_homing : exec .armArrived s = .next (State.settle s s.homed) := by
  have hh : s.homing = true := decide_eq_true hs
  have hrow : exec .armArrived s = .next (s.eventIf (s.homing || s.inPhase .toSource || s.inPhase .toDest) fun s =>
    if s.homing then s.homed else s.arrived) := rfl
  rw [hrow, eventIf_run hr (by rw [hh]; rfl), if_pos hh]

theorem armStalled_homing : exec .armStalled s = .next (State.settle s s.homingFailed) := by
  have hh : s.homing = true := decide_eq_true hs
  have hrow : exec .armStalled s = .next (s.eventIf (s.homing || s.transport.move.isSome) fun s =>
    if s.homing then s.homingFailed else s.onMove fun m s => s.stall m) := rfl
  rw [hrow, eventIf_run hr (by rw [hh]; rfl), if_pos hh]

theorem homingTimeout_homing :
    exec .homingTimeout s = .next (State.settle s (s.until s.transport.homingDue).homingFailed) := by
  have hrow : exec .homingTimeout s =
      .next (s.eventIf s.homing fun s => (s.until s.transport.homingDue).homingFailed) := rfl
  have hh : s.homing = true := decide_eq_true hs
  rw [hrow, eventIf_run hr hh]

end

/-- The places of the inventory are those with a sensor. -/
theorem stockPlaces_of_sensed {s : State} {q : Place} {v : Bool} (h : (q = .arm ∧ v = s.sensors.gripPresent) ∨
    (q = .platter ∧ v = s.sensors.platter) ∨ ∃ k, q = .shelf k ∧ v = nth s.sensors.shelf k) :
    (∃ i : Nat, stockPlaces[i]? = some q) ∧ s.sensors.sees q = v := by
  rcases h with ⟨rfl, rfl⟩ | ⟨rfl, rfl⟩ | ⟨k, rfl, rfl⟩
  · exact ⟨⟨5, rfl⟩, rfl⟩
  · exact ⟨⟨4, rfl⟩, rfl⟩
  · exact ⟨⟨k.val, by fin_cases k <;> rfl⟩, rfl⟩

theorem stockPlaces_ne_tray {q : Place} {i : Nat} (hq : stockPlaces[i]? = some q) (n : PortId) : q ≠ .tray n := by
  rintro rfl
  exact absurd (List.mem_of_getElem? hq) (by simp [stockPlaces])

/-- The counters, reports and tag counter move only where a record is lost or an ORPHAN found. -/
theorem takeStock_counts {s : State} {q : Place} :
    ((s.sensors.sees q = false ∨ (s.disc q).isSome) → (s.takeStock q).tagCounter = s.tagCounter) ∧
      ((s.sensors.sees q = true ∨ s.disc q = none) → (s.takeStock q).notices.reports = s.notices.reports ∧
        (s.takeStock q).unreported = s.unreported ∧ (s.takeStock q).jobs = s.jobs) := by
  cases hd : s.disc q with
  | none =>
    cases hv : s.sensors.sees q with
    | false => rw [takeStock_free hd hv]; exact ⟨fun _ => rfl, fun _ => ⟨rfl, rfl, rfl⟩⟩
    | true =>
      rw [takeStock_orphan hd hv, foundOrphan_eq]
      exact ⟨fun h => h.elim nofun nofun, fun _ => ⟨rfl, rfl, rfl⟩⟩
  | some d =>
    cases hv : s.sensors.sees q with
    | false =>
      have hframe := missing_frame hd
      dsimp only at hframe
      rw [takeStock_lost hd hv]
      exact ⟨fun _ => by rw [hframe], fun h => h.elim nofun nofun⟩
    | true =>
      have honly := takeStock_seen_only hd hv
      unfold onlyRequests at honly
      exact ⟨fun _ => by rw [honly], fun _ => ⟨by rw [honly], by rw [honly], by rw [honly]⟩⟩

theorem stock_disc_tray (s : State) (i : Nat) (n : PortId) : (s.stock i).disc (.tray n) = s.disc (.tray n) := by
  have hsame := stock_disc_between (s := s) (Nat.zero_le i) fun _ _ _ hq => stockPlaces_ne_tray hq n rfl
  rwa [stock_zero] at hsame

/-- The inventory goes place by place with the levels of their sensors. -/
theorem stockPlaces_levels {s : State} {i : Nat} {q : Place} {v : Bool} (h : [(Place.shelf 0, nth s.sensors.shelf 0),
    (.shelf 1, nth s.sensors.shelf 1), (.shelf 2, nth s.sensors.shelf 2), (.shelf 3, nth s.sensors.shelf 3),
    (.platter, s.sensors.platter), (.arm, s.sensors.gripPresent)][i]? = some (q, v)) :
    stockPlaces[i]? = some q ∧ s.sensors.sees q = v := by
  have hmap : stockPlaces.map (fun r => (r, s.sensors.sees r)) = [(Place.shelf 0, nth s.sensors.shelf 0),
    (.shelf 1, nth s.sensors.shelf 1), (.shelf 2, nth s.sensors.shelf 2), (.shelf 3, nth s.sensors.shelf 3),
    (.platter, s.sensors.platter), (.arm, s.sensors.gripPresent)] := rfl
  rw [← hmap, List.getElem?_map, Option.map_eq_some_iff] at h
  obtain ⟨r, hr, hpair⟩ := h
  obtain ⟨rfl, rfl⟩ := Prod.mk.inj hpair
  exact ⟨hr, rfl⟩

theorem orphanAt_sensed {q : Place} (hq : ∀ n, q ≠ .tray n) (tag : Half) : orphanAt q tag = {
    tag := tag, job := none, state := .orphan, dest := none, port := none, pass := none, grade := none
    metrics := none, serial := none, void := false, cause := none, lba := none } := by
  cases q with
  | tray n => exact absurd rfl (hq n)
  | shelf _ | arm | platter => rfl

/-- The inventory reports and counts a record that it does not find (R124, R127, R165). -/
theorem missing_stock {s : State} {i : Nat} {q : Place} {d : Disc} (hq : stockPlaces[i]? = some q)
    (hd : s.disc q = some d) :
    let t := ((s.stock i).voided q).lose q .discMissing false
    let room := (s.stock i).notices.reports.length + (if s.notices.reserved then 1 else 0) < Config.reportRoom
    let reports := fun e : Disc => t.notices.reports = (s.stock i).notices.reports ++ [lossReport e .discMissing q] ∧
      t.unreported = (s.stock i).unreported
    (room → ¬ (q = .platter ∧ s.printer.isPrinting) → reports d) ∧
      (room → q = .platter → s.printer.isPrinting → reports { d with void := d.serial.isSome }) ∧
      (¬ room → t.notices.reports = (s.stock i).notices.reports ∧ t.unreported = satInc 65535 (s.stock i).unreported) ∧
      ∀ j, t.job j = if d.job = some j then { (s.stock i).job j with counters := { ((s.stock i).job j).counters with
        lost := satInc max32 ((s.stock i).job j).counters.lost } } else (s.stock i).job j := by
  intro t room reports
  have hrec := (stock_disc_before hq).trans hd
  have hsize : room ↔ (s.stock i).notices.reports.length + (if (s.stock i).notices.reserved then 1 else 0) <
      Config.reportRoom := by rw [(stock_kept_start s i).reserved]
  have hlabel : q = .platter → (s.stock i).printer = s.printer := fun h => (stock_printer_before (h ▸ hq)).1
  refine ⟨fun hroom hnot => ?_, fun hroom hplatter hprinting => ?_, fun hroom => ?_, missing_job hrec⟩
  · have hsame : (s.stock i).lostAs q d = d :=
      lostAs_same d fun ⟨hplatter, hprinting⟩ => hnot ⟨hplatter, hlabel hplatter ▸ hprinting⟩
    have hreports := missing_room hrec (hsize.mp hroom)
    rwa [hsame] at hreports
  · have hvoid : (s.stock i).lostAs q d = { d with void := d.serial.isSome } := by
      rw [State.lostAs, if_pos ⟨hplatter, (hlabel hplatter).symm ▸ hprinting⟩]
    have hreports := missing_room hrec (hsize.mp hroom)
    rwa [hvoid] at hreports
  · exact missing_full hrec fun h => hroom (hsize.mpr h)

/-- Settles O48: homing ends with `stock 6`, the inventory of the six places with a sensor, each taken by `takeStock`;
the chain of states is `stock`. -/
theorem homingEnds : Obligations.HomingEnds := by
  unfold Obligations.HomingEnds
  intro s hr hs
  have hkept := stock_kept_start s 6
  refine ⟨⟨s.homed, armArrived_homing hr hs, ?_⟩, ?_⟩
  · have hdisc (q : Place) : (s.stock 6).homeReady.disc q = (s.stock 6).disc q := rfl
    rw [homed_eq]
    refine ⟨rfl, rfl, rfl, congrArg (·.bins.empty) hkept.sensors, hkept.ports, hkept.sensors,
      congrArg (·.raise .homed) hkept.notices, fun n => ?_, fun q v hqv => ?_, ?_,
      s.stock, stock_zero s, rfl, rfl, rfl, rfl, rfl, fun i q v hiv => ?_⟩
    · exact (hdisc _).trans (stock_disc_tray s 6 n)
    · obtain ⟨⟨i, hq⟩, hv⟩ := stockPlaces_of_sensed hqv
      have hend := stock_disc (s := s) hq
      refine ⟨fun hfree => ?_, fun d hseen hd => ?_, fun hseen hd => ?_, fun d hseen hd hwho hm => ?_⟩
      · rw [hdisc, hend, hv, hfree]
        rfl
      · rw [hdisc, hend, hv, hseen, hd]
        rfl
      · rw [hv, hseen, hd] at hend
        obtain ⟨-, hother⟩ := stock_tagOnlyAt hq hd (hv.trans hseen)
        exact ⟨_, (hdisc q).trans hend, rfl, rfl, fun r e hne he => hother r e hne ((hdisc r).symm.trans he),
          fun hm => stock_recovers hq hend (Or.inl rfl) hm⟩
      · rw [hv, hseen, hd] at hend
        exact stock_recovers hq hend hwho hm
    · have hprinter := stock_printer s
      unfold State.stockPrinter at hprinter
      intro lost printing
      refine ⟨fun hno => ?_, fun hlost hidle => ?_, fun hlost hprinting => ?_⟩
      · rw [if_neg hno] at hprinter
        exact Prod.mk.inj hprinter
      · rw [if_pos hlost, if_neg hidle] at hprinter
        exact (Prod.mk.inj hprinter).symm
      · rw [if_pos hlost, if_pos hprinting] at hprinter
        exact (Prod.mk.inj hprinter).symm
    · obtain ⟨hq, hv⟩ := stockPlaces_levels hiv
      have hstart := stock_kept_start s i
      have hbefore := stock_disc_before (s := s) hq
      obtain ⟨hcounter, hreports⟩ := takeStock_counts (s := s.stock i) (q := q)
      rw [hstart.sensors, hv, hbefore] at hcounter hreports
      rw [← hstart.sensors] at hv
      rw [stock_succ hq]
      refine ⟨fun r hne => takeStock_disc_ne _ _ hne, hcounter, hreports, fun d hmiss hd => ?_, fun hseen hd => ?_⟩
      · rw [takeStock_lost (hbefore.trans hd) (hv.trans hmiss)]
        exact missing_stock hq hd
      · rw [takeStock_orphan (hbefore.trans hd) (hv.trans hseen)]
        refine ⟨_, freshTag_next _, by rw [foundOrphan_eq], ?_⟩
        rw [foundOrphan_disc, orphanAt_sensed (stockPlaces_ne_tray hq)]
  · rintro c now (⟨rfl, rfl⟩ | ⟨rfl, rfl⟩)
    · rw [armStalled_homing hr hs]
      rfl
    · rw [homingTimeout_homing hr hs]
      rfl

end Sys2Proof.Machine

namespace Sys2Proof.Machine

/-! ## The rows of a move (R144) -/

section
variable {s : State} {m : Move} (hm : s.transport.move = some m)
include hm

theorem inPhase_self : s.inPhase m.phase = true := by
  rw [State.inPhase, hm]
  exact decide_eq_true rfl

theorem onMove_some (f : Move → State → State) : s.onMove f = f m s := by
  rw [State.onMove, hm]

theorem untilMove_some : s.untilMove = { s with now := max s.now m.due } := by
  rw [State.untilMove, hm]
  rfl

variable (hr : s.resetHeld = false)
include hr

theorem armArrived_source (hs : s.transport.state ≠ .homing) (hp : m.phase = .toSource) :
    exec .armArrived s = .next (State.settle s (s.enterPhase m .grip)) := by
  have hh : s.homing = false := decide_eq_false hs
  have hin : s.inPhase .toSource = true := hp ▸ inPhase_self hm
  have hrow : exec .armArrived s = .next (s.eventIf (s.homing || s.inPhase .toSource || s.inPhase .toDest) fun s =>
    if s.homing then s.homed else s.arrived) := rfl
  rw [hrow, eventIf_run hr (by rw [hh, hin]; rfl), hh, if_neg nofun, State.arrived, onMove_some hm, hp]

theorem armArrived_dest (hs : s.transport.state ≠ .homing) (hp : m.phase = .toDest) :
    exec .armArrived s = .next (State.settle s (s.enterPhase m .release)) := by
  have hh : s.homing = false := decide_eq_false hs
  have hin : s.inPhase .toDest = true := hp ▸ inPhase_self hm
  have hrow : exec .armArrived s = .next (s.eventIf (s.homing || s.inPhase .toSource || s.inPhase .toDest) fun s =>
    if s.homing then s.homed else s.arrived) := rfl
  rw [hrow, eventIf_run hr (by rw [hin, Bool.or_true]), hh, if_neg nofun, State.arrived, onMove_some hm, hp]

/-- A report or a timeout ends the phase, at its own time (log 1). -/
theorem phaseEnds {c : Instr} {now : Nat}
    (h : (m.phase = .grip ∧ c = .gripDone ∨ m.phase = .release ∧ c = .releaseDone) ∧ now = s.now ∨
      (m.phase = .grip ∧ c = .gripTimeout ∨ m.phase = .release ∧ c = .releaseTimeout) ∧ now = max s.now m.due) :
    (m.phase = .grip → exec c s = .next (State.settle s (State.judgeGrip { s with now := now } m false))) ∧
      (m.phase = .release → exec c s = .next (State.settle s (State.judgeRelease { s with now := now } m false))) := by
  have hin := inPhase_self hm
  have hlate : State.onMove { s with now := max s.now m.due } = fun f => f m { s with now := max s.now m.due } :=
    funext (onMove_some (s := { s with now := max s.now m.due }) hm)
  rcases h with ⟨⟨hp, rfl⟩ | ⟨hp, rfl⟩, rfl⟩ | ⟨⟨hp, rfl⟩ | ⟨hp, rfl⟩, rfl⟩ <;> rw [hp] at hin ⊢
  · have hrow : exec .gripDone s =
      .next (s.eventIf (s.inPhase .grip) fun s => s.onMove fun m s => s.judgeGrip m false) := rfl
    rw [hrow, eventIf_run hr hin, onMove_some hm]
    exact ⟨fun _ => rfl, nofun⟩
  · have hrow : exec .releaseDone s =
      .next (s.eventIf (s.inPhase .release) fun s => s.onMove fun m s => s.judgeRelease m false) := rfl
    rw [hrow, eventIf_run hr hin, onMove_some hm]
    exact ⟨nofun, fun _ => rfl⟩
  · have hrow : exec .gripTimeout s =
      .next (s.eventIf (s.inPhase .grip) fun s => s.untilMove.onMove fun m s => s.judgeGrip m false) := rfl
    rw [hrow, eventIf_run hr hin, untilMove_some hm, hlate]
    exact ⟨fun _ => rfl, nofun⟩
  · have hrow : exec .releaseTimeout s =
      .next (s.eventIf (s.inPhase .release) fun s => s.untilMove.onMove fun m s => s.judgeRelease m false) := rfl
    rw [hrow, eventIf_run hr hin, untilMove_some hm, hlate]
    exact ⟨nofun, fun _ => rfl⟩

end

/-! ## A move ends without a fault (R135, R144) -/

/-- What the end of a move reads of the state is as it was. -/
structure MoveKept (s t : State) : Prop where
  now : t.now = s.now
  sensors : t.sensors = s.sensors
  pause : t.transport.pausePending = s.transport.pausePending
  state : t.transport.state = s.transport.state

theorem MoveKept.of_transport {s t : State} (hn : t.now = s.now) (hs : t.sensors = s.sensors)
    (ht : t.transport = s.transport) : MoveKept s t := ⟨hn, hs, by rw [ht], by rw [ht]⟩

theorem MoveKept.trans {s t u : State} (h : MoveKept s t) (k : MoveKept t u) : MoveKept s u where
  now := k.now.trans h.now
  sensors := k.sensors.trans h.sensors
  pause := k.pause.trans h.pause
  state := k.state.trans h.state

/-- The move has ended: no fault of transport, no reservation, and a pending pause has taken effect. -/
structure MoveEnded (s u : State) : Prop where
  now : u.now = s.now
  move : u.transport.move = none
  pause : u.transport.pausePending = false
  reserved : u.notices.reserved = false
  sensors : u.sensors = s.sensors
  state : u.transport.state =
    (if s.transport.pausePending = true ∧ s.transport.state = .ready then .paused else s.transport.state)

theorem endMove_eq (s : State) : s.endMove = { s with
    transport := { s.transport with
      move := none, pausePending := false
      state := if s.transport.pausePending = true ∧ s.transport.state = .ready then .paused else s.transport.state }
    notices := { s.notices with reserved := false } } := by
  have hstate : (if (s.transport.pausePending && decide (s.transport.state = .ready)) = true then TransportState.paused
      else s.transport.state) =
      if s.transport.pausePending = true ∧ s.transport.state = .ready then .paused else s.transport.state :=
    if_congr (by rw [Bool.and_eq_true, decide_eq_true_iff]) rfl rfl
  rw [← hstate]
  rfl

theorem MoveKept.ended {s t : State} (h : MoveKept s t) : MoveEnded s t.endMove := by
  rw [endMove_eq]
  exact ⟨h.now, rfl, rfl, rfl, h.sensors, by rw [h.pause, h.state]⟩

theorem MoveEnded.requests {s u v : State} (h : MoveEnded s u) (hv : onlyRequests u v) : MoveEnded s v := by
  unfold onlyRequests at hv
  rw [hv]
  exact ⟨h.now, h.move, h.pause, h.reserved, h.sensors, h.state⟩

/-! ## A tray that is served (R80, R81) -/

/-- The arm's work at a place is done: an open tray closes. -/
def State.servedAt (s : State) : Place → State
  | .tray n => s.trayServed n
  | .arm | .platter | .shelf _ => s

theorem trayServed_open {s : State} {n : PortId} (h : (s.port n).state = .trayOpen) : s.trayServed n = { s with
    ports := upd s.ports n (Port.issue s.now s.timing .closeTray 0 { s.port n with state := .closing }) } := by
  rw [State.trayServed, if_pos h, goClosing_open h]

theorem trayServed_not {s : State} {n : PortId} (h : (s.port n).state ≠ .trayOpen) : s.trayServed n = s := if_neg h

theorem trayServed_only (s : State) (n : PortId) : s.trayServed n = { s with ports := (s.trayServed n).ports } := by
  by_cases h : (s.port n).state = .trayOpen
  · rw [trayServed_open h]
  · rw [trayServed_not h]

theorem servedAt_only (s : State) (q : Place) : s.servedAt q = { s with ports := (s.servedAt q).ports } := by
  cases q with
  | tray n => exact trayServed_only s n
  | shelf _ | platter | arm => rfl

theorem trayServed_port (s : State) (k n : PortId) : (s.trayServed k).port n =
    if n = k ∧ (s.port n).state = .trayOpen
      then Port.issue s.now s.timing .closeTray 0 { s.port n with state := .closing } else s.port n := by
  by_cases h : (s.port k).state = .trayOpen
  · rw [trayServed_open h]
    refine (nth_upd _ _ _ _).trans ?_
    by_cases hn : n = k
    · rw [if_pos hn, if_pos ⟨hn, hn ▸ h⟩, hn]
    · rw [if_neg hn, if_neg fun hc => hn hc.1]
      rfl
  · rw [trayServed_not h, if_neg]
    rintro ⟨rfl, hopen⟩
    exact h hopen

theorem servedAt_port (s : State) (q : Place) (n : PortId) : (s.servedAt q).port n =
    if q = .tray n ∧ (s.port n).state = .trayOpen
      then Port.issue s.now s.timing .closeTray 0 { s.port n with state := .closing } else s.port n := by
  cases q with
  | tray k =>
    have hplace : n = k ↔ Place.tray k = .tray n := by rw [Place.tray.injEq, eq_comm]
    exact (trayServed_port s k n).trans (if_congr (and_congr_left' hplace) rfl rfl)
  | shelf _ | platter | arm => rfl

/-! ## The grip at an input bin (R145) -/

section
variable {s : State} {m : Move} {i : BinId} {p : PortId} {j : JobId}

/-- The job counts a blank as picked. -/
def State.pickedJobs (s : State) (j : JobId) : Vector Job 4 :=
  upd s.jobs j { s.job j with counters := { (s.job j).counters with
    picked := satInc max32 (s.job j).counters.picked } }

theorem pick_single (s : State) (p : PortId) (j : JobId) : s.pick p j false = { s with
    places := upd s.places Place.arm.idx (some { Disc.new s.freshTag (some j) .feeding with dest := some (.tray p) })
    tagCounter := s.freshTag + 1, jobs := s.pickedJobs j } := rfl

theorem judgeGrip_bin (hs : m.source = .bin i) (hk : m.req.kind = .feed p j) :
    s.judgeGrip m false = s.gripAtBin m i p j false := by
  rw [State.judgeGrip, hs, hk]

theorem gripAtBin_single (hg : s.sensors.gripPresent = true) (hd : s.sensors.gripDouble = false) :
    s.gripAtBin m i p j false = (s.pick p j false).enterPhase m .toDest := by
  rw [State.gripAtBin, hg, hd]
  rfl

/-- The port's FEED request for another blank, then the RECOVER request for the double pick (log 14). -/
def State.doublePicked (t : State) (p : PortId) : State :=
  (if (t.port p).state = .trayOpen ∧ (t.port p).errand = .feed then t.createFeed p else t).createRecover .arm

theorem gripAtBin_double (hg : s.sensors.gripPresent = true) (hd : s.sensors.gripDouble = true) :
    s.gripAtBin m i p j false = (s.pick p j true).endMove.doublePicked p := by
  rw [State.gripAtBin, hg, hd]
  rfl

theorem gripAtBin_empty (hg : s.sensors.gripPresent = false) : s.gripAtBin m i p j false =
    ((s.mark i true).raise (.binEmpty i)).endMove.returnRequest m.req := by
  rw [State.gripAtBin, hg]
  rfl

end

section
variable {t : State} {p : PortId} {j : JobId} {d : Disc} (hm : t.transport.move = none)
include hm

/-- A port with its tray open for a feed asks for another blank while its job may be fed (R12, R138). -/
theorem createFeed_open (ha : t.assigned p = some j) : t.createFeed p =
    if (t.job j).state = .running ∧ ((t.job j).target = 0 ∨ (t.discsOf j).length + (t.job j).counters.deliveredPass
      + (t.job j).counters.deliveredMarginal + (t.job j).counters.deliveredUnverified
      + (t.transport.queue.filter fun r => r.kind.isFeedOf j).length < (t.job j).target)
    then t.createRequest (.feed p j) else t := by
  have hcount : t.feedCount j = (t.transport.queue.filter fun r => r.kind.isFeedOf j).length := by
    rw [State.feedCount, hm]
    rfl
  rw [State.createFeed, ha]
  refine if_congr ?_ rfl rfl
  simp only [State.mayFeed, ha, hcount, Counters.delivered, Bool.and_eq_true, Bool.or_eq_true, decide_eq_true_eq,
    true_and, Nat.add_assoc]

theorem createRecover_idle (hd : t.disc .arm = some d) : t.createRecover .arm =
    if ∃ r ∈ t.transport.queue, r.kind = .recover .arm d.tag then t else t.createRequest (.recover .arm d.tag) := by
  rw [createRecover_eq hd]
  refine if_congr (or_iff_left ?_) rfl rfl
  rintro ⟨m, hmove, -⟩
  exact nomatch hm.symm.trans hmove

end

theorem createFeed_only (s : State) (p : PortId) : onlyRequests s (s.createFeed p) := by
  unfold State.createFeed
  split
  · exact onlyRequests_refl s
  · split
    · exact createRequest_only s _
    · exact onlyRequests_refl s

theorem onlyRequests_trans {s t u : State} (h : onlyRequests s t) (k : onlyRequests t u) : onlyRequests s u := by
  unfold onlyRequests at *
  rw [k, h]

theorem doublePicked_only (s : State) (p : PortId) : onlyRequests s (s.doublePicked p) := by
  unfold State.doublePicked
  refine onlyRequests_trans ?_ (createRecover_only _ _)
  split
  · exact createFeed_only s p
  · exact onlyRequests_refl s

/-- The FEED request comes before the RECOVER request (log 14). -/
theorem doublePicked_queue {t : State} {p : PortId} {j : JobId} {d : Disc} (hm : t.transport.move = none)
    (ha : t.assigned p = some j) (hd : t.disc .arm = some d) :
    let feeds := (t.port p).state = .trayOpen ∧ (t.port p).errand = .feed ∧ (t.job j).state = .running ∧
      ((t.job j).target = 0 ∨ (t.discsOf j).length + (t.job j).counters.deliveredPass
        + (t.job j).counters.deliveredMarginal + (t.job j).counters.deliveredUnverified
        + (t.transport.queue.filter fun r => r.kind.isFeedOf j).length < (t.job j).target)
    let has := ∃ r ∈ t.transport.queue, r.kind = .recover .arm d.tag
    let queue := (t.doublePicked p).transport.queue
    (feeds → ¬ has → queue = t.transport.queue ++ [⟨.feed p j, t.transport.arrival⟩,
        ⟨.recover .arm d.tag, t.transport.arrival + 1⟩]) ∧
      (¬ feeds → ¬ has → queue = t.transport.queue ++ [⟨.recover .arm d.tag, t.transport.arrival⟩]) ∧
      (feeds → has → queue = t.transport.queue ++ [⟨.feed p j, t.transport.arrival⟩]) ∧
      (¬ feeds → has → queue = t.transport.queue) := by
  intro feeds has queue
  have hqueue : queue = (t.doublePicked p).transport.queue := rfl
  by_cases hf : feeds
  · obtain ⟨hopen, herrand, hfed⟩ := id hf
    have hhas : (∃ r ∈ (t.createRequest (.feed p j)).transport.queue, r.kind = .recover .arm d.tag) ↔ has := by
      simp [has, State.createRequest, State.modTransport]
    rw [State.doublePicked, if_pos ⟨hopen, herrand⟩, createFeed_open hm ha, if_pos hfed,
      createRecover_idle (t := t.createRequest (.feed p j)) hm hd] at hqueue
    refine ⟨fun _ hn => ?_, fun hn => absurd hf hn, fun _ hh => ?_, fun hn => absurd hf hn⟩
    · rw [hqueue, if_neg fun hc => hn (hhas.mp hc)]
      exact List.append_assoc _ _ _
    · rw [hqueue, if_pos (hhas.mpr hh)]
      rfl
  · have hnone : (if (t.port p).state = .trayOpen ∧ (t.port p).errand = .feed then t.createFeed p else t) = t := by
      split
      · next ho =>
        rw [createFeed_open hm ha]
        exact if_neg fun hc => hf ⟨ho.1, ho.2, hc⟩
      · rfl
    rw [State.doublePicked, hnone, createRecover_idle hm hd] at hqueue
    refine ⟨fun hc => absurd hc hf, fun _ hn => ?_, fun hc => absurd hc hf, fun _ hh => ?_⟩
    · rw [hqueue, if_neg hn]
      rfl
    · rw [hqueue, if_pos hh]

/-- An empty bin is marked and named, and the request returns to the queue (R145, R149). -/
theorem binEmpty_ended (s : State) (i : BinId) (r : Request) :
    let u := ((s.mark i true).raise (.binEmpty i)).endMove.returnRequest r
    MoveEnded s u ∧ nth u.transport.marks i = true ∧ r ∈ u.transport.queue ∧
      u.notices.transport = s.notices.transport.raise (.binEmpty i) ∧ u.places = s.places ∧ u.jobs = s.jobs := by
  intro u
  have hu : u = (State.endMove { s.mark i true with notices := { s.notices with
      transport := s.notices.transport.raise (.binEmpty i) } }).returnRequest r :=
    congrArg (fun t : State => t.endMove.returnRequest r) (raise_transport (s.mark i true) rfl)
  rw [hu]
  rw [endMove_eq]
  refine ⟨⟨rfl, rfl, rfl, rfl, rfl, rfl⟩, nth_upd_self _ _ _, ?_, rfl, rfl, rfl⟩
  exact List.mem_append_left _ (List.mem_append_right _ (List.mem_singleton_self r))

end Sys2Proof.Machine

namespace Sys2Proof.Machine

/-! ## The grip at a place (R144) -/

section
variable {s : State} {m : Move} {q : Place} {d : Disc}

theorem judgeGrip_place (hs : m.source = .place q) : s.judgeGrip m false = s.gripAtPlace m q false := by
  rw [State.judgeGrip, hs]

theorem liftDisc_eq (hd : s.disc q = some d) (st : Station) : s.liftDisc q st = { s with
    places := upd (upd s.places q.idx none) Place.arm.idx (some { d with dest := some st })
    transport := s.transport.without q } := by
  rw [State.liftDisc, hd]
  dsimp only
  rw [freePlace_eq]
  rfl

theorem toDest_eq (s : State) (m : Move) : s.enterPhase m .toDest = { s with
    transport := { s.transport with move := some { m with phase := .toDest, due := s.now + 6000 } }
    lines := { s.lines with arm := some (.goTo m.dest) } } := rfl

/-- A disc lifted from anywhere but the platter: its tray closes if it was open. -/
theorem gripAtPlace_lifted (hg : s.sensors.gripPresent = true) (hq : q ≠ .platter) :
    s.gripAtPlace m q false = ((s.liftDisc q m.dest).servedAt q).enterPhase m .toDest := by
  rw [State.gripAtPlace, hg, if_pos rfl]
  cases q with
  | platter => exact absurd rfl hq
  | tray n => rfl
  | arm | shelf _ => rfl

theorem gripAtPlatter_lifted (hg : s.sensors.gripPresent = true) :
    s.gripAtPlace m .platter false = (s.liftDisc .platter m.dest).platterTaken.enterPhase m .toDest := by
  rw [State.gripAtPlace, hg, if_pos rfl]
  rfl

theorem gripAtPlace_missing (hg : s.sensors.gripPresent = false) : s.gripAtPlace m q false =
    (((s.giveUpReservation.voided q).lose q .discMissing false).servedAt q).endMove := by
  rw [State.gripAtPlace, hg, if_neg nofun]
  cases q <;> rfl

/-- A grip that finds no disc: the record is lost, its tray closes, and the move ends. -/
theorem gripMissing_ended (hd : s.disc q = some d) :
    let u := (((s.giveUpReservation.voided q).lose q .discMissing false).servedAt q).endMove
    MoveEnded s u ∧ u.disc q = none ∧ (∀ r, r ≠ q → u.disc r = s.disc r) ∧
      (s.notices.reports.length < Config.reportRoom →
        u.notices.reports = s.notices.reports ++ [lossReport (s.lostAs q d) .discMissing q]) ∧
      (∀ n, u.port n = if q = .tray n ∧ (s.port n).state = .trayOpen
        then Port.issue s.now s.timing .closeTray 0 { s.port n with state := .closing } else s.port n) ∧
      u.printer = (s.giveUpReservation.voided q).printer ∧
      u.notices.printer = (s.giveUpReservation.voided q).notices.printer := by
  intro u
  have hu : u = (((s.giveUpReservation.voided q).lose q .discMissing false).servedAt q).endMove := rfl
  have hrec : s.giveUpReservation.disc q = some d := hd
  have hdisc := fun r => missing_disc hrec (r := r)
  have hframe := missing_frame hrec
  have hreports := fun hroom => (missing_room hrec hroom).1
  have hprinter := lose_printer (voided_disc hrec) .discMissing false
  dsimp only at hframe
  generalize (s.giveUpReservation.voided q).lose q .discMissing false = t at hu hdisc hframe hreports hprinter
  have hport (n : PortId) := servedAt_port t q n
  have hsame (n : PortId) : t.port n = s.port n := by rw [hframe]; rfl
  have hnow : t.now = s.now := by rw [hframe]; rfl
  have htiming : t.timing = s.timing := by rw [hframe]; rfl
  have hkept : MoveKept s (t.servedAt q) := by
    rw [servedAt_only, hframe]
    exact ⟨rfl, rfl, rfl, rfl⟩
  have hended := hkept.ended
  rw [servedAt_only, endMove_eq] at hu
  rw [servedAt_only, endMove_eq] at hended
  rw [hu]
  refine ⟨hended, (hdisc q).trans (if_pos rfl), fun r hr => (hdisc r).trans (if_neg hr), hreports, fun n => ?_,
    hprinter⟩
  refine (hport n).trans ?_
  rw [hsame, hnow, htiming]

end

/-! ## Arrival (R119, R120) -/

section
variable {s : State} {d : Disc} (hd : s.disc .arm = some d)
include hd

theorem arrive_tray (n : PortId) : s.arrive (.tray n) = { s with
    places := upd (upd s.places Place.arm.idx none) (Place.tray n).idx
      (some { d with dest := none, port := some n }) } := by
  rw [State.arrive, hd]
  rfl

theorem arrive_shelf (k : SlotId) : s.arrive (.shelf k) = { s with
    places := upd (upd s.places Place.arm.idx none) (Place.shelf k).idx (some { d with dest := none })
    transport := { s.transport with
      shelfOrder := s.transport.shelfOrder ++ (if d.state = .graded then [k] else []) } } := by
  rw [State.arrive, hd]
  by_cases hg : d.state = .graded
  · simp only [hg, if_true]
    rfl
  · simp only [hg, if_false, List.append_nil]
    rfl

/-- A GRADED record that arrives on the platter is to be printed (R120, R161). -/
theorem landPlatter_graded {m : Move} (hm : m.dest = .platter) (hg : d.state = .graded) : s.land m = { s with
    places := upd (upd s.places Place.arm.idx none) Place.platter.idx
      (some { d with dest := none, state := .printing })
    printer := { s.printer with state := .loaded, tag := some d.tag, timerDue := some (s.now + 60000), label := none }
    lines := { s.lines with print := some .announce } } := by
  have harrive : s.arrive .platter = { s with
      places := upd (upd s.places Place.arm.idx none) Place.platter.idx
        (some { d with dest := none, state := .printing }) } := by
    rw [State.arrive, hd]
    simp only [hg, if_true]
    rfl
  have hplatter : (s.arrive .platter).disc .platter = some { d with dest := none, state := .printing } := by
    rw [harrive]
    exact nth_upd_self _ _ _
  rw [State.land, hm]
  simp only [hplatter, if_true]
  rw [harrive]
  rfl

theorem landPlatter_else {m : Move} (hm : m.dest = .platter) (hg : d.state ≠ .graded) (hp : d.state ≠ .printing) :
    s.land m = { s with
      places := upd (upd s.places Place.arm.idx none) Place.platter.idx (some { d with dest := none }) } := by
  have harrive : s.arrive .platter = { s with
      places := upd (upd s.places Place.arm.idx none) Place.platter.idx (some { d with dest := none }) } := by
    rw [State.arrive, hd]
    simp only [hg, if_false]
    rfl
  have hplatter : (s.arrive .platter).disc .platter = some { d with dest := none } := by
    rw [harrive]
    exact nth_upd_self _ _ _
  rw [State.land, hm]
  simp only [hplatter, hp, if_false]
  exact harrive

/-! ## Delivery and return (R122, R123) -/

theorem returnDisc_eq {j : JobId} (hj : d.job = some j) : s.returnDisc = { s with
    places := upd s.places Place.arm.idx none
    jobs := upd s.jobs j { s.job j with counters := { (s.job j).counters with
      returned := satInc max32 (s.job j).counters.returned } } } := by
  rw [State.returnDisc, hd]
  dsimp only
  rw [hj]
  rfl

/-- The report of a delivery takes the entry reserved for it (R127). -/
theorem deliver_jobless (hj : d.job = none) (hres : s.notices.reserved = true) (b : OutBin) : s.deliver b = { s with
    places := upd s.places Place.arm.idx none
    notices := { s.notices with
      reports := s.notices.reports ++ [⟨{ d with dest := none }, some b, none, none⟩], reserved := false } } := by
  rw [State.deliver, hd]
  simp only [hj]
  rw [State.countJob, State.appendReport, hres]
  rfl

/-- The record is counted for its job, reported and gone, before the job's target is looked at. -/
def State.delivered (s : State) (d : Disc) (j : JobId) (b : OutBin) : State := { s with
  jobs := upd s.jobs j { s.job j with counters := (s.job j).counters.deliver b d.grade }
  places := upd s.places Place.arm.idx none
  notices := { s.notices with
    reports := s.notices.reports ++ [⟨{ d with dest := none }, some b, none, none⟩], reserved := false } }

theorem deliver_job {j : JobId} (hj : d.job = some j) (hres : s.notices.reserved = true) (b : OutBin) : s.deliver b =
    if b = .x then s.delivered d j b else (s.delivered d j b).checkTarget j := by
  have happend (t : State) (r : Report) (ht : t.notices.reserved = true) : t.appendReport true r = { t with
      notices := { t.notices with reports := t.notices.reports ++ [r], reserved := false } } := by
    rw [State.appendReport, ht]
    rfl
  have hcount : (s.countJob d.job fun c => c.deliver b d.grade).notices.reserved = true := by
    rw [hj]
    exact hres
  rw [State.deliver, hd]
  dsimp only
  rw [happend _ _ hcount]
  obtain ⟨tag, job, state, dest, port, pass, grade, metrics, serial, void, cause, lba⟩ := d
  obtain rfl : job = some j := hj
  exact congrArg (fun t : State => if b = .x then t else t.checkTarget j) rfl

end

/-- A good delivery that reaches the target takes the job to DRAINING; the arm, the reports and transport stand. -/
theorem checkTarget_facts (t : State) (j : JobId) : let u := t.checkTarget j
    MoveKept t u ∧ u.disc .arm = t.disc .arm ∧ (u.job j).counters = (t.job j).counters ∧
      u.notices.reports = t.notices.reports ∧
      ((t.job j).state = .running → (t.job j).target ≠ 0 → (t.job j).counters.delivered = (t.job j).target →
        (u.job j).state = .draining) := by
  intro u
  by_cases hc : (t.job j).state = .running ∧ (t.job j).target ≠ 0 ∧ (t.job j).counters.delivered = (t.job j).target
  · obtain ⟨v, hv, hframe, hdisc, -⟩ := enterDraining_spec t j
    have hu : u = v.withdraw (.waveReady j) := (if_pos hc).trans hv
    have hjob : u.job j = { t.job j with state := .draining } := by
      rw [hu, hframe]
      exact nth_upd_self _ _ _
    have hkept : MoveKept t u := by
      rw [hu, hframe]
      exact ⟨rfl, rfl, rfl, rfl⟩
    have hreports : u.notices.reports = t.notices.reports := by
      rw [hu, hframe]
      rfl
    refine ⟨hkept, ?_, by rw [hjob], hreports, fun _ _ _ => by rw [hjob]⟩
    rw [hu]
    exact hdisc .arm nofun
  · have hu : u = t := if_neg hc
    rw [hu]
    exact ⟨.of_transport rfl rfl rfl, rfl, rfl, rfl, fun hr ht hd => absurd ⟨hr, ht, hd⟩ hc⟩

/-! ## The end of a release (R144, R146) -/

section
variable {s : State} {m : Move}

theorem judgeRelease_fails (hg : s.sensors.gripPresent = true) :
    s.judgeRelease m false = (s.holdPort m).armFault .releaseFail (some m.dest) := by
  rw [State.judgeRelease, hg]
  rfl

theorem judgeRelease_lands (hg : s.sensors.gripPresent = false) (ht : ∀ n, m.dest ≠ .tray n) :
    s.judgeRelease m false = (s.land m).endMove := by
  rw [State.judgeRelease, hg, if_neg nofun]
  cases hm : m.dest with
  | tray n => exact absurd hm (ht n)
  | bin _ | shelf _ | platter | out _ => rfl

theorem judgeRelease_tray {n : PortId} (hg : s.sensors.gripPresent = false) (hm : m.dest = .tray n) :
    s.judgeRelease m false = (s.arrive (.tray n)).endMove.trayServed n := by
  rw [State.judgeRelease, hg, if_neg nofun, State.land]
  simp only [hm]
  rfl

theorem land_out {b : OutBin} (hm : m.dest = .out b) : s.land m = s.deliver b := by
  rw [State.land, hm]

theorem land_bin {i : BinId} (hm : m.dest = .bin i) : s.land m = s.returnDisc := by
  rw [State.land, hm]

theorem land_shelf {k : SlotId} (hm : m.dest = .shelf k) : s.land m = s.arrive (.shelf k) := by
  rw [State.land, hm]

/-- Only the ports held may change. -/
theorem holdPort_eq (s : State) (m : Move) : s.holdPort m =
    { s with transport := { s.transport with held := (s.holdPort m).transport.held } } := by
  unfold State.holdPort
  split
  · unfold State.modTransport
    dsimp only
    split <;> rfl
  · rfl

end

end Sys2Proof.Machine

namespace Sys2Proof.Machine

/-! ## The branches of a grip -/

section
variable {s : State} {m : Move}

/-- A double pick ends the move and leaves a SCRAP record at ARM (R145). -/
theorem doublePick_ended {p : PortId} {j : JobId} (ha : s.assigned p = some j) :
    let u := (s.pick p j true).endMove.doublePicked p
    let tag := s.freshTag
    MoveEnded s u ∧ u.tagCounter = tag + 1 ∧ u.jobs = s.pickedJobs j ∧ u.places = upd s.places Place.arm.idx
        (some { Disc.new tag (some j) .scrap with cause := some .doublePick, dest := some (.out .x) }) ∧
      let feeds := (s.port p).state = .trayOpen ∧ (s.port p).errand = .feed ∧ (s.job j).state = .running ∧
        ((s.job j).target = 0 ∨ (u.discsOf j).length + (s.job j).counters.deliveredPass
          + (s.job j).counters.deliveredMarginal + (s.job j).counters.deliveredUnverified
          + (s.transport.queue.filter fun r => r.kind.isFeedOf j).length < (s.job j).target)
      let has := ∃ r ∈ s.transport.queue, r.kind = .recover .arm tag
      (feeds → ¬ has → u.transport.queue = s.transport.queue ++ [⟨.feed p j, s.transport.arrival⟩,
          ⟨.recover .arm tag, s.transport.arrival + 1⟩]) ∧
        (¬ feeds → ¬ has → u.transport.queue = s.transport.queue ++ [⟨.recover .arm tag, s.transport.arrival⟩]) ∧
        (feeds → has → u.transport.queue = s.transport.queue ++ [⟨.feed p j, s.transport.arrival⟩]) ∧
        (¬ feeds → has → u.transport.queue = s.transport.queue) := by
  intro u tag
  have hkept : MoveKept s (s.pick p j true) := ⟨rfl, rfl, rfl, rfl⟩
  have honly := doublePicked_only (s.pick p j true).endMove p
  have hended : MoveEnded s u := hkept.ended.requests honly
  have hdisc : (s.pick p j true).endMove.disc .arm =
      some { Disc.new tag (some j) .scrap with cause := some .doublePick, dest := some (.out .x) } :=
    nth_upd_self _ _ _
  have hjob : (s.pick p j true).endMove.job j = { s.job j with counters := { (s.job j).counters with
      picked := satInc max32 (s.job j).counters.picked } } := nth_upd_self _ _ _
  have hqueue := doublePicked_queue (t := (s.pick p j true).endMove) (p := p) (j := j) rfl ha hdisc
  have hdiscs : u.discsOf j = (s.pick p j true).endMove.discsOf j := by
    unfold onlyRequests at honly
    change (State.doublePicked _ p).discsOf j = _
    rw [honly]
    rfl
  have hframe : u.tagCounter = tag + 1 ∧ u.jobs = s.pickedJobs j ∧ u.places = upd s.places Place.arm.idx
      (some { Disc.new tag (some j) .scrap with cause := some .doublePick, dest := some (.out .x) }) := by
    have hu : u = (s.pick p j true).endMove.doublePicked p := rfl
    unfold onlyRequests at honly
    rw [hu, honly]
    exact ⟨rfl, rfl, rfl⟩
  obtain ⟨htag, hjobs, hplaces⟩ := hframe
  rw [hjob, ← hdiscs] at hqueue
  exact ⟨hended, htag, hjobs, hplaces, hqueue⟩

/-- A disc lifted from a place whose port stands. -/
theorem gripAtPlace_stands {q : Place} {d : Disc} (hd : s.disc q = some d) (hg : s.sensors.gripPresent = true)
    (hq : q = .arm ∨ (∃ k, q = .shelf k) ∨ ∃ n, q = .tray n ∧ (s.port n).state = .faulted) :
    s.gripAtPlace m q false = { s with
      places := upd (upd s.places q.idx none) Place.arm.idx (some { d with dest := some m.dest })
      transport := { s.transport.without q with move := some { m with phase := .toDest, due := s.now + 6000 } }
      lines := { s.lines with arm := some (.goTo m.dest) } } := by
  have hserved : (s.liftDisc q m.dest).servedAt q = s.liftDisc q m.dest := by
    rw [liftDisc_eq hd]
    rcases hq with rfl | ⟨k, rfl⟩ | ⟨n, rfl, hn⟩
    · rfl
    · rfl
    · refine trayServed_not fun hopen => ?_
      have hsame : (s.port n).state = .trayOpen := hopen
      exact nomatch hn.symm.trans hsame
  have hne : q ≠ .platter := by
    rintro rfl
    rcases hq with hq | ⟨_, hq⟩ | ⟨_, hq, -⟩ <;> exact nomatch hq
  rw [gripAtPlace_lifted hg hne, hserved, toDest_eq, liftDisc_eq hd]

theorem gripAtTray_open {n : PortId} {d : Disc} (hd : s.disc (.tray n) = some d) (hg : s.sensors.gripPresent = true)
    (hn : (s.port n).state = .trayOpen) : s.gripAtPlace m (.tray n) false = { s with
      places := upd (upd s.places (Place.tray n).idx none) Place.arm.idx (some { d with dest := some m.dest })
      ports := upd s.ports n (Port.issue s.now s.timing .closeTray 0 { s.port n with state := .closing })
      transport := { s.transport with move := some { m with phase := .toDest, due := s.now + 6000 } }
      lines := { s.lines with arm := some (.goTo m.dest) } } := by
  have hopen : ((s.liftDisc (.tray n) m.dest).port n).state = .trayOpen := by
    rw [liftDisc_eq hd]
    exact hn
  have hne : Place.tray n ≠ .platter := nofun
  rw [gripAtPlace_lifted hg hne, State.servedAt, trayServed_open hopen, toDest_eq, liftDisc_eq hd,
    without_of_not_shelf _ (q := .tray n) nofun]
  rfl

theorem gripAtPlatter_idle {d : Disc} (hd : s.disc .platter = some d) (hg : s.sensors.gripPresent = true)
    (hp : ¬ s.printer.isPrinting) : s.gripAtPlace m .platter false = { s with
      places := upd (upd s.places Place.platter.idx none) Place.arm.idx (some { d with dest := some m.dest })
      printer := s.printer.emptied
      transport := { s.transport with move := some { m with phase := .toDest, due := s.now + 6000 } }
      lines := { s.lines with arm := some (.goTo m.dest) } } := by
  have hlift := liftDisc_eq hd m.dest
  rw [without_of_not_shelf _ (q := .platter) nofun] at hlift
  have hidle : ¬ (s.liftDisc .platter m.dest).printer.isPrinting := by
    rw [hlift]
    exact hp
  rw [gripAtPlatter_lifted hg, platterTaken_idle hidle, toDest_eq, hlift]

theorem gripAtPlatter_printing {d : Disc} (hd : s.disc .platter = some d) (hg : s.sensors.gripPresent = true)
    (hp : s.printer.isPrinting) (hc : d.cause = none) : s.gripAtPlace m .platter false = { s with
      places := upd (upd s.places Place.platter.idx none) Place.arm.idx (some { d with
        dest := some m.dest, state := .scrap, cause := some .printFault, lba := none, grade := none
        void := d.serial.isSome })
      printer := s.printer.spoiled
      notices := { s.notices with printer := s.notices.printer.raise .printerFault }
      transport := { s.transport with move := some { m with phase := .toDest, due := s.now + 6000 } }
      lines := { s.lines with arm := some (.goTo m.dest) } } := by
  have hlift := liftDisc_eq hd m.dest
  rw [without_of_not_shelf _ (q := .platter) nofun] at hlift
  have hprinting : (s.liftDisc .platter m.dest).printer.isPrinting := by
    rw [hlift]
    exact hp
  have harm : (s.liftDisc .platter m.dest).disc .arm = some { d with dest := some m.dest } := by
    rw [hlift]
    exact nth_upd_self _ _ _
  have hspoil : Disc.spoil { d with dest := some m.dest } = { d with
      dest := some m.dest, state := .scrap, cause := some .printFault, lba := none, grade := none
      void := d.serial.isSome } := by
    rw [Disc.spoil, scrap_fresh (d := { d with dest := some m.dest }) hc]
  rw [gripAtPlatter_lifted hg, platterTaken_printing hprinting, modDisc_some harm, hspoil, toDest_eq, hlift,
    State.setDisc, upd_upd]

/-- A record lost from the platter empties the printer or spoils its label (R165). -/
theorem voided_printer_idle (hp : ¬ s.printer.isPrinting) :
    (s.giveUpReservation.voided .platter).printer = s.printer.emptied ∧
      (s.giveUpReservation.voided .platter).notices.printer = s.notices.printer := by
  rw [State.voided, if_pos rfl, platterLost_idle (s := s.giveUpReservation) hp]
  exact ⟨rfl, rfl⟩

theorem voided_printer_printing (hp : s.printer.isPrinting) :
    (s.giveUpReservation.voided .platter).printer = s.printer.spoiled ∧
      (s.giveUpReservation.voided .platter).notices.printer = s.notices.printer.raise .printerFault := by
  rw [State.voided, if_pos rfl, platterLost_printing (s := s.giveUpReservation) hp]
  exact ⟨rfl, rfl⟩

/-! ## The branches of a release -/

/-- A delivery for a job: its counter, its report and perhaps the end of the job's run (R5, R122, R125). -/
theorem deliver_ended {d : Disc} {j : JobId} (hd : s.disc .arm = some d) (hj : d.job = some j)
    (hres : s.notices.reserved = true) (b : OutBin) : let u := (s.deliver b).endMove
    MoveEnded s u ∧ u.disc .arm = none ∧ (u.job j).counters = (s.job j).counters.deliver b d.grade ∧
      (b ≠ .x → (s.job j).state = .running → (s.job j).target ≠ 0 →
        (u.job j).counters.delivered = (s.job j).target → (u.job j).state = .draining) ∧
      u.notices.reports = s.notices.reports ++ [⟨{ d with dest := none }, some b, none, none⟩] := by
  intro u
  have hjob : (s.delivered d j b).job j = { s.job j with counters := (s.job j).counters.deliver b d.grade } :=
    nth_upd_self _ _ _
  have harm : (s.delivered d j b).disc .arm = none := nth_upd_self _ _ _
  have hkept : MoveKept s (s.delivered d j b) := .of_transport rfl rfl rfl
  have hdeliver := deliver_job hd hj hres b
  have hu : u = (s.deliver b).endMove := rfl
  by_cases hb : b = .x
  · rw [if_pos hb] at hdeliver
    rw [hu, hdeliver]
    exact ⟨hkept.ended, harm, congrArg Job.counters hjob, fun hx => absurd hb hx, rfl⟩
  · rw [if_neg hb] at hdeliver
    obtain ⟨hmove, hdisc, hcount, hreports, hdrain⟩ := checkTarget_facts (s.delivered d j b) j
    rw [hjob] at hcount hdrain
    rw [hu, hdeliver]
    generalize (s.delivered d j b).checkTarget j = t at hmove hdisc hcount hreports hdrain ⊢
    refine ⟨(hkept.trans hmove).ended, hdisc.trans harm, hcount, fun _ hr ht hsum => hdrain hr ht ?_, hreports⟩
    exact (congrArg Counters.delivered hcount).symm.trans hsum

theorem releaseTray_ended {d : Disc} (hd : s.disc .arm = some d) (n : PortId) :
    let u := (s.arrive (.tray n)).endMove.trayServed n
    MoveEnded s u ∧ u.disc .arm = none ∧ u.disc (.tray n) = some { d with dest := none, port := some n } ∧
      ((s.port n).state = .trayOpen →
        u.port n = Port.issue s.now s.timing .closeTray 0 { s.port n with state := .closing }) ∧
      ((s.port n).state = .faulted → u.port n = s.port n) := by
  intro u
  have hu : u = (s.arrive (.tray n)).endMove.trayServed n := rfl
  have hport := trayServed_port (s.arrive (.tray n)).endMove n n
  have harrive := arrive_tray hd n
  have hended : MoveEnded s (s.arrive (.tray n)).endMove := by
    rw [harrive]
    exact MoveKept.ended ⟨rfl, rfl, rfl, rfl⟩
  have harm : (s.arrive (.tray n)).endMove.disc .arm = none := by
    have hne : Place.arm ≠ .tray n := nofun
    rw [harrive]
    exact (nth_upd_ne _ _ fun h => hne (Place.idx_inj h)).trans (nth_upd_self _ _ _)
  have htray : (s.arrive (.tray n)).endMove.disc (.tray n) = some { d with dest := none, port := some n } := by
    rw [harrive]
    exact nth_upd_self _ _ _
  have hsame : (s.arrive (.tray n)).endMove.port n = s.port n := by
    rw [harrive]
    rfl
  have hclock : (s.arrive (.tray n)).endMove.now = s.now ∧ (s.arrive (.tray n)).endMove.timing = s.timing := by
    rw [harrive]
    exact ⟨rfl, rfl⟩
  obtain ⟨hnow, htiming⟩ := hclock
  rw [← hu, hsame, hnow, htiming] at hport
  rw [trayServed_only] at hu
  refine ⟨?_, ?_, ?_, fun hopen => hport.trans (if_pos ⟨rfl, hopen⟩), fun hf => hport.trans (if_neg fun hc => ?_)⟩
  · rw [hu]
    exact ⟨hended.now, hended.move, hended.pause, hended.reserved, hended.sensors, hended.state⟩
  · rw [hu]
    exact harm
  · rw [hu]
    exact htray
  · exact nomatch hf.symm.trans hc.2

end

end Sys2Proof.Machine

namespace Sys2Proof.Machine

/-- Settles O46: the end of a phase is `judgeGrip` or `judgeRelease` at its time (`phaseEnds`), and each branch of
either has a lemma of its own. -/
theorem movesGoThroughTheirPhases : Obligations.MovesGoThroughTheirPhases := by
  unfold Obligations.MovesGoThroughTheirPhases
  intro s m hr hm hs goes
  refine ⟨armArrived_source hm hr hs, armArrived_dest hm hr hs, fun c now hc => ?_⟩
  obtain ⟨hgrip, hrelease⟩ := phaseEnds hm hr hc
  intro fresh picked stops lost printing emptied spoiled
  have becomes {u v : State} (he : exec c s = .next (State.settle s u)) (h : u = v) :
      exec c s = .next (State.settle s v) := h ▸ he
  have ends {u v : State} (he : exec c s = .next (State.settle s u)) (h : u = v)
      (hend : MoveEnded { s with now := now } v) : stops v :=
    ⟨becomes he h, hend.now, hend.move, hend.pause, hend.reserved, hend.sensors, hend.state⟩
  refine ⟨?_, ?_, ?_, ?_, ?_, ?_, ?_, ?_, ?_, ?_, ?_, ?_, ?_, ?_, ?_⟩
  · intro i p j hp hsrc hk hg hd
    refine ⟨s.freshTag, freshTag_next s, becomes (hgrip hp) ?_⟩
    rw [judgeGrip_bin hsrc hk, gripAtBin_single (s := { s with now := now }) hg hd, pick_single, toDest_eq]
    rfl
  · intro i p j hp hsrc hk hg hd ha
    obtain ⟨hend, htag, hjobs, hplaces, hqueue⟩ := doublePick_ended (s := { s with now := now }) ha
    exact ⟨s.freshTag, _, freshTag_next s,
      ends (hgrip hp) ((judgeGrip_bin hsrc hk).trans (gripAtBin_double hg hd)) hend, htag, hjobs, hplaces, hqueue⟩
  · intro i p j hp hsrc hk hg
    obtain ⟨hend, hmark, hreq, hnotice, hplaces, hjobs⟩ := binEmpty_ended { s with now := now } i m.req
    exact ⟨_, ends (hgrip hp) ((judgeGrip_bin hsrc hk).trans (gripAtBin_empty hg)) hend, hmark, hreq, hnotice, hplaces,
      hjobs⟩
  · intro n d hp hsrc hd hg hn
    exact becomes (hgrip hp) ((judgeGrip_place hsrc).trans (gripAtTray_open hd hg hn))
  · intro q d hp hsrc hq hd hg
    exact becomes (hgrip hp) ((judgeGrip_place hsrc).trans (gripAtPlace_stands hd hg hq))
  · intro d hp hsrc hd hg lifted
    exact ⟨fun hidle => becomes (hgrip hp) ((judgeGrip_place hsrc).trans (gripAtPlatter_idle hd hg hidle)),
      fun hprint hcause =>
        becomes (hgrip hp) ((judgeGrip_place hsrc).trans (gripAtPlatter_printing hd hg hprint hcause))⟩
  · intro q d hp hsrc hq hd hg
    obtain ⟨hend, hself, hother, hlost, hport, -⟩ := gripMissing_ended (s := { s with now := now }) hd
    rw [lostAs_same d fun h => hq h.1] at hlost
    exact ⟨_, ends (hgrip hp) ((judgeGrip_place hsrc).trans (gripAtPlace_missing hg)) hend, hself, hother, hlost, hport⟩
  · intro d hp hsrc hd hg
    obtain ⟨hend, hself, hother, hlost, -, hprinter, hnotices⟩ := gripMissing_ended (s := { s with now := now }) hd
    refine ⟨_, ends (hgrip hp) ((judgeGrip_place hsrc).trans (gripAtPlace_missing hg)) hend, hself, hother,
      fun hidle => ?_, fun hprint => ?_⟩
    · rw [lostAs_same (s := { s with now := now }) d fun h => hidle h.2] at hlost
      obtain ⟨hempty, -⟩ := voided_printer_idle (s := { s with now := now }) hidle
      exact ⟨hprinter.trans hempty, hlost⟩
    · rw [State.lostAs, if_pos ⟨rfl, hprint⟩] at hlost
      obtain ⟨hspoil, hraise⟩ := voided_printer_printing (s := { s with now := now }) hprint
      exact ⟨hprinter.trans hspoil, hlost, hnotices.trans hraise⟩
  · intro b d j hp hdest hd hj hg hres
    have hne : ∀ n, m.dest ≠ .tray n := fun n h => nomatch hdest.symm.trans h
    obtain ⟨hend, harm, hcount, hdrain, hreports⟩ := deliver_ended (s := { s with now := now }) hd hj hres b
    have hrow := judgeRelease_lands (s := { s with now := now }) hg hne
    rw [land_out hdest] at hrow
    refine ⟨_, ends (hrelease hp) hrow hend, harm, hcount.trans ?_, hdrain, hreports⟩
    cases b <;> rfl
  · intro b d hp hdest hd hj hg hres
    have hne : ∀ n, m.dest ≠ .tray n := fun n h => nomatch hdest.symm.trans h
    have hrow := judgeRelease_lands (s := { s with now := now }) hg hne
    rw [land_out hdest, deliver_jobless (s := { s with now := now }) hd hj hres b] at hrow
    exact ⟨_, ends (hrelease hp) hrow (MoveKept.ended (.of_transport rfl rfl rfl)), rfl, rfl, rfl⟩
  · intro i d j hp hdest hd hj hg
    have hne : ∀ n, m.dest ≠ .tray n := fun n h => nomatch hdest.symm.trans h
    have hrow := judgeRelease_lands (s := { s with now := now }) hg hne
    rw [land_bin hdest, returnDisc_eq (s := { s with now := now }) hd hj] at hrow
    exact ⟨_, ends (hrelease hp) hrow (MoveKept.ended (.of_transport rfl rfl rfl)), rfl, rfl, rfl, rfl⟩
  · intro n d hp hdest hd hg
    obtain ⟨hend, harm, htray, hopen, hfaulted⟩ := releaseTray_ended (s := { s with now := now }) hd n
    exact ⟨_, ends (hrelease hp) (judgeRelease_tray hg hdest) hend, harm, htray, hopen, hfaulted⟩
  · intro k d hp hdest hd hg
    have hne : ∀ n, m.dest ≠ .tray n := fun n h => nomatch hdest.symm.trans h
    have hrow := judgeRelease_lands (s := { s with now := now }) hg hne
    rw [land_shelf hdest, arrive_shelf (s := { s with now := now }) hd k] at hrow
    exact ⟨_, ends (hrelease hp) hrow (MoveKept.ended ⟨rfl, rfl, rfl, rfl⟩), rfl, rfl, rfl, rfl⟩
  · intro d hp hdest hd hg laid
    have hne : ∀ n, m.dest ≠ .tray n := fun n h => nomatch hdest.symm.trans h
    have hrow := judgeRelease_lands (s := { s with now := now }) hg hne
    refine ⟨fun hgraded => ?_, fun hgraded hprint => ?_⟩
    · rw [landPlatter_graded (s := { s with now := now }) hd hdest hgraded] at hrow
      exact ⟨_, ends (hrelease hp) hrow (MoveKept.ended (.of_transport rfl rfl rfl)), rfl, rfl, rfl, rfl⟩
    · rw [landPlatter_else (s := { s with now := now }) hd hdest hgraded hprint] at hrow
      exact ⟨_, ends (hrelease hp) hrow (MoveKept.ended (.of_transport rfl rfl rfl)), rfl, rfl, rfl⟩
  · intro hp hg
    have hrow := judgeRelease_fails (s := { s with now := now }) (m := m) hg
    rw [holdPort_eq, armFault_eq] at hrow
    exact ⟨_, becomes (hrelease hp) hrow, rfl, rfl, rfl, rfl, rfl, rfl⟩

end Sys2Proof.Machine

namespace Sys2Proof.Machine

/-! ## A bin sensor's cause is acknowledged (R148, R174) -/

section
variable {s : State} {k : BinSensor} {v : Bool}

theorem acknowledged_sensor (s : State) (k : BinSensor) (v : Bool) : s.acknowledged (k.notice v) = s.compareSensor k := by
  cases k <;> cases v <;> rfl

/-- A quiet sensor unlike its latch latches its live state and raises the cause of it (R148). -/
theorem compareSensor_latches (hq : s.quiet k = true) (hd : s.differs k) : s.compareSensor k = { s with
    transport := { s.transport with latched := s.transport.latched.set k (s.sensors.bins.get k) }
    notices := { s.notices with transport := s.notices.transport.raise (k.notice (s.sensors.bins.get k)) } } := by
  unfold State.compareSensor
  dsimp only
  rw [hq, Bool.true_and, decide_eq_true hd, if_pos rfl, raise_transport _ (notice_cls k _)]
  rfl

theorem compareSensor_stands (h : ¬ s.differs k ∨ ¬ s.quiet k = true) : s.compareSensor k = s := by
  refine if_neg fun hc => ?_
  rw [Bool.and_eq_true, decide_eq_true_iff] at hc
  exact h.elim (· hc.2) (· hc.1)

theorem pendingPair_sensor (s : State) (k : BinSensor) (v : Bool) :
    s.pendingPair (k.notice v) = true ↔ k.notice v ∈ s.notices.transport.set := by
  rw [State.pendingPair, notice_cls, decide_eq_true_iff]
  rfl

theorem mem_withoutPair {x : Notice} : x ∈ (s.withoutPair .transport (k.notice v)).notices.transport.set ↔
    x ∈ s.notices.transport.set ∧ x ≠ k.notice v := by
  rw [State.withoutPair]
  exact List.mem_filter.trans (and_congr_right' decide_eq_true_iff)

/-- A sensor whose cause is removed is quiet unless its other cause is pending. -/
theorem withoutPair_quiet : (s.withoutPair .transport (k.notice v)).quiet k = true ↔
    k.notice (!v) ∉ s.notices.transport.set := by
  have hother : k.notice (!v) ≠ k.notice v := fun h => Bool.not_ne_self v (notice_inj h).2
  have hgone : ¬ k.notice v ∈ (s.withoutPair .transport (k.notice v)).notices.transport.set :=
    fun h => (mem_withoutPair.mp h).2 rfl
  have hstays : k.notice (!v) ∈ (s.withoutPair .transport (k.notice v)).notices.transport.set ↔
      k.notice (!v) ∈ s.notices.transport.set := mem_withoutPair.trans (and_iff_left hother)
  rw [quiet_iff, ← Bool.not_eq_true, ← Bool.not_eq_true, pendingPair_sensor, pendingPair_sensor, ← hstays]
  cases v with
  | true => exact and_iff_right hgone
  | false => exact and_iff_left hgone

/-- A quiet sensor has neither cause pending, so a raise puts its cause into the set (R170). -/
theorem raise_of_quiet (hq : s.quiet k = true) (w : Bool) : s.notices.transport.raise (k.notice w) =
    { s.notices.transport with set := insertRanked (k.notice w) s.notices.transport.set } := by
  obtain ⟨htrue, hfalse⟩ := quiet_iff.mp hq
  refine if_neg fun hmem => ?_
  rw [← pendingPair_sensor] at hmem
  cases w with
  | true => exact nomatch htrue.symm.trans hmem
  | false => exact nomatch hfalse.symm.trans hmem

end

/-- Settles O16: the pair removed, its owner is the sensor, which compares; it is quiet unless its other cause is pending. -/
theorem sensorAcknowledgementCompares : Obligations.SensorAcknowledgementCompares := by
  unfold Obligations.SensorAcknowledgementCompares
  intro h cls cause obj s k v ht hl hc ho hcause hobj
  refine exec_settled ht hl rfl ((ackNotice_pair (s := s.countGood) (c := .transport) hc ho hcause hobj).trans ?_)
  have hquiet : (s.countGood.withoutPair .transport (k.notice v)).quiet k = true ↔
      k.notice (!v) ∉ s.notices.transport.set := withoutPair_quiet
  rw [acknowledged_sensor]
  split
  · next hstands =>
    rw [compareSensor_stands (hstands.imp (fun he hd => hd he) fun hmem hq => hquiet.mp hq hmem)]
    rfl
  · next hlatches =>
    obtain ⟨hdiffers, hsilent⟩ := not_or.mp hlatches
    rw [compareSensor_latches (hquiet.mpr hsilent) hdiffers, raise_of_quiet (hquiet.mpr hsilent)]
    rfl

end Sys2Proof.Machine

namespace Sys2Proof.Machine

/-! ## The rows of a stall and of a drop (R144, R146) -/

section
variable {s : State} {m : Move} (hm : s.transport.move = some m) (hr : s.resetHeld = false)
include hm hr

theorem armStalled_move (hs : s.transport.state ≠ .homing) :
    exec .armStalled s = .next (State.settle s (s.stall m)) := by
  have hh : s.homing = false := decide_eq_false hs
  have hrow : exec .armStalled s = .next (s.eventIf (s.homing || s.transport.move.isSome) fun s =>
    if s.homing then s.homingFailed else s.onMove fun m s => s.stall m) := rfl
  rw [hrow, eventIf_run hr (by rw [hm]; exact Bool.or_true _), hh, if_neg nofun, onMove_some hm]

/-- A travel timeout is a stall at its own time (log 1). -/
theorem travelTimeout_move (hp : m.phase = .toSource ∨ m.phase = .toDest) :
    exec .travelTimeout s = .next (State.settle s (State.stall { s with now := max s.now m.due } m)) := by
  have hin := inPhase_self hm
  have hrow : exec .travelTimeout s = .next (s.eventIf (s.inPhase .toSource || s.inPhase .toDest) fun s =>
    s.untilMove.onMove fun m s => s.stall m) := rfl
  have htravels : (s.inPhase .toSource || s.inPhase .toDest) = true := by
    rcases hp with hp | hp <;> rw [hp] at hin <;> rw [hin]
    · rfl
    · exact Bool.or_true _
  rw [hrow, eventIf_run hr htravels, untilMove_some hm, onMove_some (s := { s with now := max s.now m.due }) hm]

theorem travel_stalls (hs : s.transport.state ≠ .homing) {c : Instr} (hc : c = .armStalled ∨ c = .travelTimeout)
    (hp : m.phase = .toSource ∨ m.phase = .toDest) :
    ∃ now, exec c s = .next (State.settle s (State.stall { s with now := now } m)) := by
  rcases hc with rfl | rfl
  · exact ⟨s.now, armStalled_move hm hr hs⟩
  · exact ⟨_, travelTimeout_move hm hr hp⟩

/-- The gripper sensor clears while the disc is carried (R146). -/
theorem gripperClears_drop (hp : m.phase = .toDest) (hg : s.sensors.gripPresent = true) :
    exec (.gripperSensorChange .present false) s = .next (State.settle s ((s.gripLevel false).drop m)) := by
  have hchanges : s.gripperChanges false = (s.gripLevel false).drop m := by
    have hmove : (s.modSensors fun x => { x with gripPresent := false }).transport.move = some m := hm
    rw [State.gripperChanges, if_neg (by rw [hg]; exact nofun)]
    simp only [hmove, hp, and_self, if_true]
    rfl
  have hrow : exec (.gripperSensorChange .present false) s = .next (if s.resetHeld then
      s.modSensors fun x => { x with gripPresent := false } else s.event fun s => s.gripperChanges false) := rfl
  rw [hrow, if_neg (ne_true_of_eq_false hr), event_run hr, hchanges]

end

/-! ## A move that ends in a fault (R146) -/

section
variable {s t u v : State} {m : Move} {st : Option Station}

theorem holdPort_holds {p : PortId} {j : JobId} (hk : m.req.kind = .feed p j) :
    p ∈ (s.holdPort m).transport.held := by
  unfold State.holdPort State.modTransport
  rw [hk]
  dsimp only
  split
  · next hheld => exact hheld
  · exact List.mem_append_right _ (List.mem_singleton_self p)

theorem holdPort_fault_eq (s : State) (m : Move) (c : TransportCause) (st : Option Station) :
    (s.holdPort m).armFault c st = { s with
      transport := { s.transport with
        state := .fault, cause := some c, station := st, move := none, pausePending := false
        held := (s.holdPort m).transport.held }
      notices := { s.notices with
        transport := s.notices.transport.raise (.transportFault st), reserved := false } } := by
  rw [armFault_eq, holdPort_eq]

theorem closeMove_stalled (s : State) (m : Move) (st : Option Station) : s.closeMove m true st = { s with
    transport := { s.transport with
      state := .fault, cause := some .armStall, station := st, move := none, pausePending := false
      held := (s.holdPort m).transport.held }
    notices := { s.notices with
      transport := s.notices.transport.raise (.transportFault st), reserved := false } } :=
  holdPort_fault_eq s m .armStall st

/-- The move `m` has ended in a stall at a station: what holds then whatever the phase's sensors decided. -/
structure MoveStalled (s : State) (m : Move) (st : Option Station) (u : State) : Prop where
  state : u.transport.state = .fault
  cause : u.transport.cause = some .armStall
  station : u.transport.station = st
  move : u.transport.move = none
  pause : u.transport.pausePending = false
  reserved : u.notices.reserved = false
  sensors : u.sensors = s.sensors
  held : ∀ p j, m.req.kind = .feed p j → p ∈ u.transport.held
  pending : u.pendingPair (.transportFault st) = true

theorem closeMove_ended (h : t.sensors = s.sensors) : MoveStalled s m st (t.closeMove m true st) := by
  have hpending : (t.closeMove m true st).pendingPair (.transportFault st) = true :=
    (pendingPair_raise _ _ _).mpr (.inr rfl)
  rw [closeMove_stalled] at hpending ⊢
  exact ⟨rfl, rfl, rfl, rfl, rfl, rfl, h, fun _ _ hk => holdPort_holds hk, hpending⟩

theorem closeMove_pending {x : Notice} (h : t.pendingPair x = true) :
    (t.closeMove m true st).pendingPair x = true := by
  have hheld : (t.holdPort m).pendingPair x = true := by
    rw [holdPort_eq]
    exact h
  exact (pendingPair_raise _ _ _).mpr (.inl hheld)

theorem MoveStalled.requests (h : MoveStalled s m st u) (hv : onlyRequests u v) : MoveStalled s m st v := by
  unfold onlyRequests at hv
  rw [hv]
  exact ⟨h.state, h.cause, h.station, h.move, h.pause, h.reserved, h.sensors, h.held, h.pending⟩

theorem returnRequest_only (s : State) (r : Request) : onlyRequests s (s.returnRequest r) := rfl

/-! ## A loss with the entry reserved for the move (R127, R146) -/

/-- A loss has its report where the move's reservation or a free entry takes it. -/
theorem lose_reported {q : Place} {d : Disc} {b : Bool} (hd : s.disc q = some d) (cause : LossCause)
    (h : if s.notices.reserved then b = true else s.notices.reports.length < Config.reportRoom) :
    (s.lose q cause b).notices.reports = s.notices.reports ++ [lossReport d cause q] := by
  rw [lose_eq hd, State.appendReport]
  dsimp only
  by_cases hres : s.notices.reserved = true
  · rw [if_pos hres] at h
    rw [if_pos (by rw [h, hres]; rfl)]
    rfl
  · rw [if_neg hres] at h
    rw [if_neg fun hc => hres (Bool.and_eq_true .. ▸ hc).2, if_neg hres, Nat.add_zero, if_pos h]
    rfl

theorem drop_eq (s : State) (m : Move) : s.drop m =
    ((s.lose .arm .dropped m.reserved).holdPort m).armFault .dropped (some m.dest) := rfl

/-- What the loss of the record at ARM leaves alone of ports, requests and the transport's notices. -/
theorem loseArm_kept {d : Disc} (hd : s.disc .arm = some d) (cause : LossCause) (b : Bool) :
    let t := s.lose .arm cause b
    t.transport = s.transport ∧ t.ports = s.ports ∧ t.sensors = s.sensors ∧
      t.notices.transport = s.notices.transport := by
  intro t
  have ht : t = _ := lose_eq hd cause b
  rw [appendReport_notices, without_of_not_shelf _ (q := .arm) nofun] at ht
  rw [ht]
  exact ⟨rfl, rfl, rfl, rfl⟩

end

/-! ## A stall, by its phase (R144, R146) -/

section
variable {s : State} {m : Move} {i : BinId} {p : PortId} {j : JobId} {q : Place} {d : Disc}

theorem stall_toSource (hp : m.phase = .toSource) :
    s.stall m = (s.armFault .armStall m.source.station).returnRequest m.req := by
  rw [State.stall, hp]

theorem stall_toDest (hp : m.phase = .toDest) : s.stall m = s.closeMove m true (some m.dest) := by
  rw [State.stall, hp]

theorem stall_grip (hp : m.phase = .grip) : s.stall m = s.judgeGrip m true := by
  rw [State.stall, hp]

theorem stall_release (hp : m.phase = .release) : s.stall m = s.judgeRelease m true := by
  rw [State.stall, hp]

theorem stall_bin (hp : m.phase = .grip) (hs : m.source = .bin i) (hk : m.req.kind = .feed p j) :
    s.stall m = s.gripAtBin m i p j true := by
  rw [stall_grip hp, State.judgeGrip, hs, hk]

theorem stall_place (hp : m.phase = .grip) (hs : m.source = .place q) : s.stall m = s.gripAtPlace m q true := by
  rw [stall_grip hp, State.judgeGrip, hs]

/-! ## A stall in GRIP at an input bin (R145) -/

theorem stallAtBin_empty (hg : s.sensors.gripPresent = false) : s.gripAtBin m i p j true =
    (((s.mark i true).raise (.binEmpty i)).closeMove m true (some (.bin i))).returnRequest m.req := by
  rw [State.gripAtBin, hg]
  rfl

/-- No blank at the grip: the bin is marked EMPTY and the request returns (R145, R149). -/
theorem binEmpty_stalled (s : State) (m : Move) (i : BinId) :
    let u := (((s.mark i true).raise (.binEmpty i)).closeMove m true (some (.bin i))).returnRequest m.req
    MoveStalled s m (some (.bin i)) u ∧ nth u.transport.marks i = true ∧
      u.transport.queue = s.transport.requeue m.req ∧ u.pendingPair (.binEmpty i) = true ∧ u.places = s.places ∧
      u.ports = s.ports ∧ u.jobs = s.jobs := by
  intro u
  have hu : u = (((s.mark i true).raise (.binEmpty i)).closeMove m true (some (.bin i))).returnRequest m.req := rfl
  have hraise := raise_transport (s.mark i true) (x := .binEmpty i) rfl
  have hclosed : MoveStalled s m (some (.bin i))
      (((s.mark i true).raise (.binEmpty i)).closeMove m true (some (.bin i))) :=
    closeMove_ended (by rw [hraise]; rfl)
  have hpending : u.pendingPair (.binEmpty i) = true :=
    closeMove_pending ((pendingPair_raise (s.mark i true) _ _).mpr (.inr rfl))
  refine ⟨hclosed.requests (returnRequest_only _ _), ?_, ?_, hpending, ?_, ?_, ?_⟩ <;> rw [hu, hraise, closeMove_stalled]
  · exact nth_upd_self _ _ _
  all_goals rfl

theorem stallAtBin_single (hg : s.sensors.gripPresent = true) (hd : s.sensors.gripDouble = false) :
    s.gripAtBin m i p j true = (s.pick p j false).closeMove m true (some (.bin i)) := by
  rw [State.gripAtBin, hg, hd]
  rfl

theorem stallAtBin_double (hg : s.sensors.gripPresent = true) (hd : s.sensors.gripDouble = true) :
    s.gripAtBin m i p j true = ((s.pick p j true).closeMove m true (some (.bin i))).doublePicked p := by
  rw [State.gripAtBin, hg, hd]
  rfl

/-- A double pick has its RECOVER request then (R145). -/
theorem doublePicked_recovers {t : State} (hm : t.transport.move = none) (hd : t.disc .arm = some d) (p : PortId) :
    ∃ r ∈ (t.doublePicked p).transport.queue, r.kind = .recover .arm d.tag := by
  unfold State.doublePicked
  split
  · have honly := createFeed_only t p
    unfold onlyRequests at honly
    exact createRecover_has (by rw [honly]; exact hd) (by rw [honly]; exact hm)
  · exact createRecover_has hd hm

/-- A double pick under a stall: the SCRAP record is at ARM, with its RECOVER request (R145, log 18). -/
theorem doublePick_stalled (s : State) (m : Move) (i : BinId) (p : PortId) (j : JobId) :
    let u := ((s.pick p j true).closeMove m true (some (.bin i))).doublePicked p
    MoveStalled s m (some (.bin i)) u ∧ u.tagCounter = s.freshTag + 1 ∧ u.ports = s.ports ∧ u.jobs = s.pickedJobs j ∧
      u.places = upd s.places Place.arm.idx (some { Disc.new s.freshTag (some j) .scrap with
        cause := some .doublePick, dest := some (.out .x) }) ∧
      ∃ r ∈ u.transport.queue, r.kind = .recover .arm s.freshTag := by
  intro u
  have hu : u = ((s.pick p j true).closeMove m true (some (.bin i))).doublePicked p := rfl
  have hclosed : MoveStalled s m (some (.bin i)) ((s.pick p j true).closeMove m true (some (.bin i))) :=
    closeMove_ended rfl
  have hdisc : ((s.pick p j true).closeMove m true (some (.bin i))).disc .arm =
      some { Disc.new s.freshTag (some j) .scrap with cause := some .doublePick, dest := some (.out .x) } := by
    rw [closeMove_stalled]
    exact nth_upd_self _ _ _
  have hrecovers := doublePicked_recovers hclosed.move hdisc p
  have honly := doublePicked_only ((s.pick p j true).closeMove m true (some (.bin i))) p
  have hended : MoveStalled s m (some (.bin i)) u := hclosed.requests honly
  unfold onlyRequests at honly
  rw [honly, closeMove_stalled] at hu
  refine ⟨hended, ?_, ?_, ?_, ?_, hrecovers⟩
  all_goals
    rw [hu]
    rfl

/-! ## A stall in GRIP at a place (R144, R146) -/

/-- The disc is lifted: an open tray closes, the printer is left without its disc (R80, R165). -/
def State.liftFrom (s : State) (q : Place) (st : Station) : State :=
  if q = .platter then (s.liftDisc .platter st).platterTaken else (s.liftDisc q st).servedAt q

theorem liftFrom_platter (s : State) (st : Station) :
    s.liftFrom .platter st = (s.liftDisc .platter st).platterTaken := if_pos rfl

theorem liftFrom_ne (hq : q ≠ .platter) (s : State) (st : Station) :
    s.liftFrom q st = (s.liftDisc q st).servedAt q := if_neg hq

theorem stallAtPlace_lifted (hg : s.sensors.gripPresent = true) :
    s.gripAtPlace m q true = (s.liftFrom q m.dest).closeMove m true q.station := by
  rw [State.gripAtPlace, hg, if_pos rfl]
  cases q with
  | tray _ | shelf _ | platter | arm => rfl

theorem stallAtPlace_missing (hg : s.sensors.gripPresent = false) : s.gripAtPlace m q true =
    (((s.giveUpReservation.voided q).lose q .discMissing false).servedAt q).closeMove m true q.station := by
  rw [State.gripAtPlace, hg, if_neg nofun]
  cases q with
  | tray _ | shelf _ | platter | arm => rfl

/-- Only the printer, its pending set and the lifted record may change. -/
theorem platterTaken_frame (s : State) : s.platterTaken = { s with
    places := s.platterTaken.places, printer := s.platterTaken.printer
    notices := { s.notices with printer := s.platterTaken.notices.printer } } := by
  by_cases hp : s.printer.isPrinting
  · rw [platterTaken_printing hp]
    rfl
  · rw [platterTaken_idle hp]

theorem liftFrom_frame (hd : s.disc q = some d) (st : Station) : s.liftFrom q st = { s with
    places := (s.liftFrom q st).places, ports := ((s.liftDisc q st).servedAt q).ports
    printer := (s.liftFrom q st).printer
    notices := { s.notices with printer := (s.liftFrom q st).notices.printer }
    transport := s.transport.without q } := by
  by_cases hq : q = .platter
  · subst hq
    rw [liftFrom_platter, platterTaken_frame, liftDisc_eq hd]
    rfl
  · rw [liftFrom_ne hq, servedAt_only, liftDisc_eq hd]

/-- A disc lifted from anywhere but the platter leaves the printer alone. -/
theorem liftFrom_elsewhere (hd : s.disc q = some d) (hq : q ≠ .platter) (st : Station) :
    (s.liftFrom q st).places = upd (upd s.places q.idx none) Place.arm.idx (some { d with dest := some st }) ∧
      (s.liftFrom q st).printer = s.printer := by
  rw [liftFrom_ne hq, servedAt_only, liftDisc_eq hd]
  exact ⟨rfl, rfl⟩

theorem liftFrom_port (hd : s.disc q = some d) (st : Station) (n : PortId) : (s.liftFrom q st).port n =
    if q = .tray n ∧ (s.port n).state = .trayOpen
      then Port.issue s.now s.timing .closeTray 0 { s.port n with state := .closing } else s.port n := by
  have hport := servedAt_port (s.liftDisc q st) q n
  rw [liftFrom_frame hd]
  refine Eq.trans hport ?_
  rw [liftDisc_eq hd]
  rfl

/-- What a lifted disc leaves alone but for the shelf slot it frees (R132). -/
theorem liftFrom_kept (hd : s.disc q = some d) (st : Station) : let t := s.liftFrom q st
    t.sensors = s.sensors ∧ t.transport.queue = s.transport.queue ∧ t.jobs = s.jobs ∧
      t.notices.reports = s.notices.reports ∧
      t.transport.shelfOrder = s.transport.shelfOrder.filter fun k => decide (q ≠ .shelf k) := by
  intro t
  have ht : t = _ := liftFrom_frame hd st
  rw [ht]
  exact ⟨rfl, rfl, rfl, rfl, rfl⟩

theorem liftFrom_idle (hd : s.disc .platter = some d) (hg : s.sensors.gripPresent = true)
    (hp : ¬ s.printer.isPrinting) : (s.liftFrom .platter m.dest).places =
        upd (upd s.places Place.platter.idx none) Place.arm.idx (some { d with dest := some m.dest }) ∧
      (s.liftFrom .platter m.dest).printer = s.printer.emptied := by
  have hgrip := gripAtPlatter_idle (m := m) hd hg hp
  rw [gripAtPlatter_lifted hg] at hgrip
  rw [liftFrom_platter]
  exact ⟨congrArg State.places hgrip, congrArg State.printer hgrip⟩

theorem liftFrom_printing (hd : s.disc .platter = some d) (hg : s.sensors.gripPresent = true)
    (hp : s.printer.isPrinting) (hc : d.cause = none) :
    (s.liftFrom .platter m.dest).printer = s.printer.spoiled ∧ (s.liftFrom .platter m.dest).places =
      upd (upd s.places Place.platter.idx none) Place.arm.idx (some { d with
        dest := some m.dest, state := .scrap, cause := some .printFault, lba := none, grade := none
        void := d.serial.isSome }) := by
  have hgrip := gripAtPlatter_printing (m := m) hd hg hp hc
  rw [gripAtPlatter_lifted hg] at hgrip
  rw [liftFrom_platter]
  exact ⟨congrArg State.printer hgrip, congrArg State.places hgrip⟩

/-- A record that the grip does not find leaves the queue alone. -/
theorem gripMissing_queue (hd : s.disc q = some d) :
    (((s.giveUpReservation.voided q).lose q .discMissing false).servedAt q).transport.queue = s.transport.queue := by
  have hframe := missing_frame (s := s.giveUpReservation) hd
  dsimp only at hframe
  rw [servedAt_only, hframe]
  rfl

/-! ## A stall in RELEASE (R144, R146) -/

/-- What the end of a phase does to the rest leaves the sensors and the queue alone. -/
structure PhaseWork (s t : State) : Prop where
  sensors : t.sensors = s.sensors
  queue : t.transport.queue = s.transport.queue

theorem stall_release_held (hp : m.phase = .release) (hg : s.sensors.gripPresent = true) :
    s.stall m = s.closeMove m true (some m.dest) := by
  rw [stall_release hp, State.judgeRelease, if_pos hg, if_pos rfl]

theorem stall_release_gone (hp : m.phase = .release) (hg : s.sensors.gripPresent = false) :
    s.stall m = (s.land m).closeMove m true (some m.dest) := by
  rw [stall_release hp, State.judgeRelease, if_neg (by rw [hg]; exact nofun), if_pos rfl]

theorem land_tray {n : PortId} (hm : m.dest = .tray n) : s.land m = s.arrive (.tray n) := by
  rw [State.land, hm]

theorem checkTarget_phaseWork (s : State) (j : JobId) : PhaseWork s (s.checkTarget j) := by
  unfold State.checkTarget
  dsimp only
  split
  · obtain ⟨t, hdrain, hframe, -⟩ := enterDraining_spec s j
    rw [hdrain, hframe]
    exact ⟨rfl, rfl⟩
  · exact ⟨rfl, rfl⟩

theorem PhaseWork.trans {s t u : State} (h : PhaseWork s t) (k : PhaseWork t u) : PhaseWork s u where
  sensors := k.sensors.trans h.sensors
  queue := k.queue.trans h.queue

section
variable (hd : s.disc .arm = some d)
include hd

theorem deliver_phaseWork (b : OutBin) : PhaseWork s (s.deliver b) := by
  have hgone (r : Report) :
      PhaseWork s (((s.countJob d.job fun c => c.deliver b d.grade).appendReport true r).setDisc .arm none) := by
    obtain ⟨v, hv⟩ := countJob_jobs s d.job fun c => c.deliver b d.grade
    rw [hv, appendReport_frame]
    exact ⟨rfl, rfl⟩
  rw [State.deliver, hd]
  dsimp only
  split
  · exact hgone _
  · split
    · exact hgone _
    · exact (hgone _).trans (checkTarget_phaseWork _ _)

/-- A delivery through the entry reserved for it: the record's counter, its report, ARM free (R122, R127). -/
theorem deliver_reserved (hres : s.notices.reserved = true) (b : OutBin) :
    (s.deliver b).disc .arm = none ∧ (d.job = none → (s.deliver b).jobs = s.jobs) ∧
      (∀ j, d.job = some j → ((s.deliver b).job j).counters = (s.job j).counters.deliver b d.grade) ∧
      (s.deliver b).notices.reports = s.notices.reports ++ [⟨{ d with dest := none }, some b, none, none⟩] := by
  obtain hj | ⟨j, hj⟩ := Option.eq_none_or_eq_some d.job
  · rw [deliver_jobless hd hj hres b]
    exact ⟨nth_upd_self _ _ _, fun _ => rfl, fun j hk => (nomatch hj.symm.trans hk), rfl⟩
  · obtain ⟨-, harm, hcount, -, hreports⟩ := deliver_ended hd hj hres b
    refine ⟨harm, fun hk => (nomatch hj.symm.trans hk), fun k hk => ?_, hreports⟩
    obtain rfl := Option.some.inj (hj.symm.trans hk)
    exact hcount

theorem returnDisc_frame : s.returnDisc = { s with
    places := upd s.places Place.arm.idx none, jobs := s.returnDisc.jobs } := by
  obtain ⟨v, hv⟩ := countJob_jobs s d.job fun c => { c with returned := satInc max32 c.returned }
  rw [State.returnDisc, hd]
  dsimp only
  rw [hv]
  rfl

/-- A record that arrives on the platter changes its place, the printer and the print line at most (R161). -/
theorem landPlatter_frame (hm : m.dest = .platter) : s.land m = { s with
    places := (s.land m).places, printer := (s.land m).printer, lines := (s.land m).lines } := by
  have harrive : s.arrive .platter = { s with places := (s.arrive .platter).places } := by
    rw [State.arrive, hd]
    rfl
  rw [State.land, hm]
  dsimp only
  generalize s.arrive .platter = t at harrive
  rw [harrive]
  split
  · split <;> rfl
  · rfl

theorem land_phaseWork (m : Move) : PhaseWork s (s.land m) := by
  cases hm : m.dest with
  | out b => rw [land_out hm]; exact deliver_phaseWork hd b
  | bin i => rw [land_bin hm, returnDisc_frame hd]; exact ⟨rfl, rfl⟩
  | tray n => rw [land_tray hm, arrive_tray hd]; exact ⟨rfl, rfl⟩
  | shelf k => rw [land_shelf hm, arrive_shelf hd]; exact ⟨rfl, rfl⟩
  | platter => rw [landPlatter_frame hd hm]; exact ⟨rfl, rfl⟩

end

end

end Sys2Proof.Machine

namespace Sys2Proof.Machine

/-- Settles O47: a stall is `armFault` in TO_SOURCE, and in each other phase `closeMove` of what the phase's sensors decide,
which leaves FAULT behind whatever they decide (`closeMove_ended`); a drop is the loss of the record at ARM. -/
theorem movesFail : Obligations.MovesFail := by
  unfold Obligations.MovesFail
  intro s m hr hm hs faults
  refine ⟨fun c hc => ⟨fun hp => ?_, fun hp => ?_⟩, fun hp hg d hd => ?_, ?_⟩
  · obtain ⟨now, hrow⟩ := travel_stalls hm hr hs hc (.inl hp)
    rw [stall_toSource hp] at hrow
    exact ⟨_, hrow, rfl, rfl, rfl, rfl, rfl, rfl, rfl, rfl, fun _ => ⟨rfl, rfl, rfl⟩, fun _ => rfl,
      fun h => nomatch hp.symm.trans h⟩
  · obtain ⟨now, hrow⟩ := travel_stalls hm hr hs hc (.inr hp)
    have hheld {p j} := holdPort_holds (s := { s with now := now }) (m := m) (p := p) (j := j)
    rw [stall_toDest hp, closeMove_stalled] at hrow
    exact ⟨_, hrow, rfl, rfl, rfl, rfl, rfl, rfl, rfl, rfl, fun _ => ⟨rfl, rfl, rfl⟩,
      fun h => (nomatch hp.symm.trans h), fun _ => ⟨rfl, fun _ _ hk => hheld hk⟩⟩
  · have hrow := gripperClears_drop hm hr hp hg
    obtain ⟨htransport, hports, hsensors, hnotices⟩ := loseArm_kept (s := s.gripLevel false) hd .dropped m.reserved
    have hself := lose_disc_self (s := s.gripLevel false) hd .dropped m.reserved
    have hother := fun q (hq : q ≠ Place.arm) => lose_disc_ne (s := s.gripLevel false) hd .dropped m.reserved hq
    have hreported := lose_reported (s := s.gripLevel false) (b := m.reserved) hd .dropped
    rw [drop_eq] at hrow
    generalize (s.gripLevel false).lose .arm .dropped m.reserved = t at *
    have hheld {p j} := holdPort_holds (s := t) (m := m) (p := p) (j := j)
    have hqueue := congrArg Transport.queue htransport
    rw [holdPort_fault_eq] at hrow
    refine ⟨⟨_, hrow, rfl, rfl, rfl, rfl, rfl, ?_, rfl, hports, False.elim, fun h => (nomatch hp.symm.trans h),
      fun _ => ⟨hqueue, fun _ _ hk => hheld hk⟩⟩, _, hrow, hself, hsensors, hother, hreported⟩
    exact congrArg (NoticeClass.raise · _) hnotices
  · intro stalls fresh lost printing emptied spoiled atTray
    have ends {u : State} {st : Option Station} (he : s.stall m = u) (h : MoveStalled s m st u) : stalls u st :=
      ⟨he ▸ armStalled_move hm hr hs, h.state, h.cause, h.station, h.move, h.pause, h.reserved, h.sensors, h.held,
        h.pending⟩
    refine ⟨fun i p j hp hsrc hk => ⟨fun hg => ?_, fun hg => ?_⟩, fun q d hp hsrc hd hg => ?_,
      fun q d hp hsrc hd hg => ?_, fun hp hg => ?_, fun d hp hg hd => ?_⟩
    · obtain ⟨hend, hempty⟩ := binEmpty_stalled s m i
      exact ⟨_, ends ((stall_bin hp hsrc hk).trans (stallAtBin_empty hg)) hend, hempty⟩
    · cases hdouble : s.sensors.gripDouble with
      | false =>
        refine ⟨s.freshTag, _, freshTag_next s,
          ends ((stall_bin hp hsrc hk).trans (stallAtBin_single hg hdouble)) (closeMove_ended rfl), ?_⟩
        rw [closeMove_stalled]
        exact ⟨rfl, rfl, rfl, fun _ => ⟨rfl, rfl⟩, nofun⟩
      | true =>
        obtain ⟨hend, htag, hports, hjobs, hplaces, hrecovers⟩ := doublePick_stalled s m i p j
        exact ⟨s.freshTag, _, freshTag_next s, ends ((stall_bin hp hsrc hk).trans (stallAtBin_double hg hdouble)) hend,
          htag, hports, hjobs, nofun, fun _ => ⟨hplaces, hrecovers⟩⟩
    · intro lifted
      obtain ⟨hsensors, hqueue, hjobs, hreports, horder⟩ := liftFrom_kept hd m.dest
      refine ⟨_, ends ((stall_place hp hsrc).trans (stallAtPlace_lifted hg)) (closeMove_ended hsensors), ?_⟩
      rw [closeMove_stalled]
      refine ⟨hqueue, hjobs, liftFrom_port hd m.dest, hreports, horder, fun hq => liftFrom_elsewhere hd hq m.dest, ?_, ?_⟩
      · rintro rfl hidle
        exact liftFrom_idle hd hg hidle
      · rintro rfl hprint hcause
        exact liftFrom_printing (d := d) hd hg hprint hcause
    · obtain ⟨hend, hself, hother, hlost, hport, hprinter, -⟩ := gripMissing_ended hd
      have hqueue := gripMissing_queue hd
      have hrow := (stall_place hp hsrc).trans (stallAtPlace_missing (q := q) hg)
      have hne (hq : q ≠ .platter) : (s.giveUpReservation.voided q).printer = s.printer := by rw [voided_ne hq]; rfl
      refine ⟨_, ends hrow (closeMove_ended hend.sensors), ?_⟩
      rw [closeMove_stalled]
      refine ⟨hqueue, hself, hother, hport, fun hq => ⟨?_, hprinter.trans (hne hq)⟩, ?_, ?_⟩
      · rw [lostAs_same d fun h => hq h.1] at hlost
        exact hlost
      · rintro rfl hidle
        rw [lostAs_same d fun h => hidle h.2] at hlost
        exact ⟨hlost, hprinter.trans (voided_printer_idle hidle).1⟩
      · rintro rfl hprint
        rw [State.lostAs, if_pos ⟨rfl, hprint⟩] at hlost
        exact ⟨hlost, hprinter.trans (voided_printer_printing hprint).1⟩
    · refine ⟨_, ends (stall_release_held hp hg) (closeMove_ended rfl), ?_⟩
      rw [closeMove_stalled]
      exact ⟨rfl, rfl, rfl, rfl, rfl⟩
    · intro laid
      have hwork := land_phaseWork hd m
      refine ⟨_, ends (stall_release_gone hp hg) (closeMove_ended hwork.sensors), ?_⟩
      rw [closeMove_stalled]
      refine ⟨hwork.queue, fun b hb hres => ?_, fun i hi => ?_, fun n hn => ?_, fun k hk => ?_, fun hpl => ?_⟩
      · obtain ⟨harm, hjobless, hcount, hreports⟩ := deliver_reserved hd hres b
        rw [land_out hb]
        refine ⟨harm, hjobless, fun j hj => (hcount j hj).trans ?_, hreports⟩
        cases b <;> rfl
      · rw [land_bin hi]
        refine ⟨?_, ?_, ?_, fun j hj => by rw [returnDisc_eq hd hj]⟩ <;> rw [returnDisc_frame hd]
      · rw [land_tray hn, arrive_tray hd]
        exact ⟨rfl, rfl, rfl, rfl⟩
      · rw [land_shelf hk, arrive_shelf hd]
        exact ⟨rfl, rfl, rfl, rfl⟩
      · have hframe := landPlatter_frame hd hpl
        have hports := congrArg State.ports hframe
        have hjobs := congrArg State.jobs hframe
        refine ⟨hports, hjobs, fun hgraded => ?_, fun hgraded hprint => ?_⟩
        · rw [landPlatter_graded hd hpl hgraded]
          exact ⟨rfl, rfl, rfl⟩
        · rw [landPlatter_else hd hpl hgraded hprint]
          exact ⟨rfl, rfl, rfl⟩

end Sys2Proof.Machine

namespace Sys2Proof.Machine

/-! ## LOAD TEMPLATE (R154) -/

/-- A byte of a raster after a chunk: the chunk's from its offset on, else what it was (R154). -/
theorem raster_setRaster (m : ImageMemory) (t k : TemplateId) (o a : Nat) (xs : List Byte) :
    (m.setRaster t o xs).raster k a =
      if k = t ∧ o ≤ a ∧ a < o + xs.length then xs.getD (a - o) 0 else m.raster k a := by
  rw [ImageMemory.raster, ImageMemory.setRaster, nth_upd]
  by_cases hk : k = t
  · subst hk
    rw [if_pos rfl, Cells.read_write]
    simp only [true_and]
    rfl
  · rw [if_neg hk, if_neg fun h => hk h.1]
    rfl

section
variable {s : State} (hp : ∀ p d, s.disc p = some d → d.state ≠ .printing)
include hp

/-- With no record in PRINTING no template is held (R154, R155). -/
theorem templateBusy_free (t : TemplateId) : s.templateBusy t = false := by
  refine List.any_eq_false.mpr fun d hd => ?_
  obtain ⟨p, hd⟩ := mem_discs.mp hd
  simp [hp p d hd]

/-- With no record in PRINTING the glyphs are not held (R156). -/
theorem printing_free : s.printing = false := by
  refine List.any_eq_false.mpr fun d hd => ?_
  obtain ⟨p, hd⟩ := mem_discs.mp hd
  simp [hp p d hd]

theorem loadGlyphs_taken (gs : Vector Glyph 16) : loadGlyphs gs s = State.accept { s with glyphs := gs } := by
  rw [loadGlyphs, printing_free hp]
  rfl

section
variable {b : Byte} {t : TemplateId} {o : Word} {ch : List Byte} (hb : b.toNat = t.val)
include hb

/-- LOAD TEMPLATE of a template that is not held: the chunk's length and its end decide (R154). -/
theorem loadTemplate_free : loadTemplate b o ch s =
    if ch.length = 0 ∨ 4096 < ch.length then s.refuse (.invalid 1)
    else if 131072 < o.toNat + ch.length then s.refuse (.invalid 1)
    else State.accept { s with memory := s.memory.setRaster t o.toNat ch } := by
  rw [loadTemplate, numbered_eq hb]
  exact if_neg (ne_true_of_eq_false (templateBusy_free hp t))

theorem loadTemplate_taken (h1 : 1 ≤ ch.length) (h2 : ch.length ≤ 4096) (h3 : o.toNat + ch.length ≤ 131072) :
    loadTemplate b o ch s = State.accept { s with memory := s.memory.setRaster t o.toNat ch } := by
  rw [loadTemplate_free hp hb, if_neg (by omega), if_neg (by omega)]

theorem loadTemplate_refused (h : ch.length = 0 ∨ 4096 < ch.length ∨ 131072 < o.toNat + ch.length) :
    loadTemplate b o ch s = s.refuse (.invalid 1) := by
  rw [loadTemplate_free hp hb]
  split_ifs with hlen hend
  · rfl
  · rfl
  · omega

end

end

/-! ## SET TEMPLATE (R155) -/

/-- R155's checks on a field entry for a template. -/
def goodField (s : State) (t : TemplateId) (f : FieldEntry) : Prop :=
  1 ≤ f.kind.toNat ∧ f.kind.toNat ≤ 5 ∧ f.x.toNat ≤ 1023 ∧ f.y.toNat ≤ 1023 ∧
    1 ≤ f.scale.toNat ∧ f.scale.toNat ≤ 4 ∧ 1 ≤ f.width.toNat ∧ f.width.toNat ≤ 16 ∧
    (f.kind = 1 → ∀ j, (s.job j).state ≠ .closed → (s.job j).template = some t →
      (s.job j).serialWidth ≤ f.width.toNat) ∧
    (f.kind = 3 → 1 ≤ f.count.toNat ∧ f.count.toNat ≤ f.width.toNat ∧
      ∀ g ∈ f.glyphs.toList.take f.count.toNat, g.toNat ≤ 15)

/-- The kind of field a code from 1 to 5 names (11.2). -/
def kindNamed (c : Nat) : FieldKind :=
  match c with
  | 1 => .serial
  | 2 => .grade
  | 3 => .text
  | 4 => .pass
  | _ => .tag

theorem fieldKindOf_eq (c : Nat) : fieldKindOf c = if 1 ≤ c ∧ c ≤ 5 then some (kindNamed c) else none := by
  match c with
  | 0 | 1 | 2 | 3 | 4 | 5 => rfl
  | n + 6 => exact (if_neg (by omega)).symm

theorem kindNamed_iff {c : Byte} (h : 1 ≤ c.toNat ∧ c.toNat ≤ 5) (k : FieldKind) :
    kindNamed c.toNat = k ↔ c = byteOf k.code := by
  rw [← BitVec.toNat_inj]
  generalize c.toNat = n at h ⊢
  obtain rfl | rfl | rfl | rfl | rfl : n = 1 ∨ n = 2 ∨ n = 3 ∨ n = 4 ∨ n = 5 := by omega
  all_goals cases k <;> decide

theorem serialTooNarrow_iff {s : State} {t : TemplateId} {w : Nat} : s.serialTooNarrow t w = true ↔
    ∃ j, (s.job j).state ≠ .closed ∧ (s.job j).template = some t ∧ w < (s.job j).serialWidth := by
  simp only [State.serialTooNarrow, List.any_eq_true, decide_eq_true_eq]
  constructor
  · rintro ⟨x, hx, h⟩
    obtain ⟨j, rfl⟩ := exists_nth_of_mem hx
    exact ⟨j, h⟩
  · rintro ⟨j, h⟩
    exact ⟨s.job j, nth_mem_toList _ _, h⟩

/-- The merge field that an entry which passes gives (R155). -/
def mergedField (f : FieldEntry) : MergeField :=
  ⟨kindNamed f.kind.toNat, f.x.toNat, f.y.toNat, f.scale.toNat, f.width.toNat, FieldEntry.indices f⟩

section
variable {s : State} {t : TemplateId} {f : FieldEntry}

theorem fieldOf_good (h : goodField s t f) : fieldOf s t f = some (mergedField f) := by
  obtain ⟨hk1, hk5, hx, hy, hs1, hs4, hw1, hw16, hserial, htext⟩ := h
  have hkind := And.intro hk1 hk5
  rw [fieldOf, fieldKindOf_eq, if_pos hkind]
  dsimp only
  rw [if_neg (by omega), if_neg, if_neg]
  · rfl
  · rintro ⟨hk, hn⟩
    obtain ⟨j, hopen, htmpl, hnarrow⟩ := serialTooNarrow_iff.mp hn
    exact Nat.not_le.mpr hnarrow (hserial ((kindNamed_iff hkind .serial).mp hk) j hopen htmpl)
  · rintro ⟨hk, hn⟩
    obtain ⟨hc1, hcw, hg⟩ := htext ((kindNamed_iff hkind .text).mp hk)
    rcases hn with hn | hn | hn
    · omega
    · omega
    · obtain ⟨g, hmem, hbig⟩ := List.any_eq_true.mp hn
      exact Nat.not_le.mpr (of_decide_eq_true hbig) (hg g hmem)

theorem fieldOf_bad (h : ¬ goodField s t f) : fieldOf s t f = none := by
  rw [fieldOf, fieldKindOf_eq]
  by_cases hkind : 1 ≤ f.kind.toNat ∧ f.kind.toNat ≤ 5
  · rw [if_pos hkind]
    dsimp only
    split_ifs with hbox htext hserial
    · rfl
    · rfl
    · rfl
    · refine absurd ⟨hkind.1, hkind.2, by omega, by omega, by omega, by omega, by omega, by omega,
        fun hk j hopen htmpl => ?_, fun hk => ?_⟩ h
      · by_contra hn
        exact hserial ⟨(kindNamed_iff hkind .serial).mpr hk, serialTooNarrow_iff.mpr ⟨j, hopen, htmpl, Nat.not_le.mp hn⟩⟩
      · have hpass := fun hc => htext ⟨(kindNamed_iff hkind .text).mpr hk, hc⟩
        refine ⟨by_contra fun hn => hpass (.inl (by omega)), by_contra fun hn => hpass (.inr (.inl (by omega))),
          fun g hg => by_contra fun hn => hpass (.inr (.inr ?_))⟩
        exact List.any_eq_true.mpr ⟨g, hg, decide_eq_true (Nat.not_le.mp hn)⟩
  · rw [if_neg hkind]

theorem firstBadField_none {fs : List FieldEntry} (h : ∀ f ∈ fs, goodField s t f) (i : Nat) :
    firstBadField s t i fs = none := by
  induction fs generalizing i with
  | nil => rfl
  | cons f fs ih =>
    rw [firstBadField, fieldOf_good (h f (by simp))]
    exact ih (fun g hg => h g (by simp [hg])) (i + 1)

theorem firstBadField_some {fs : List FieldEntry} {n : Nat} (hn : fs[n]? = some f) (hf : ¬ goodField s t f)
    (hlt : ∀ k e, k < n → fs[k]? = some e → goodField s t e) (i : Nat) : firstBadField s t i fs = some (i + n) := by
  induction fs generalizing n i with
  | nil => simp at hn
  | cons e fs ih =>
    cases n with
    | zero =>
      obtain rfl : e = f := by simpa using hn
      rw [firstBadField, fieldOf_bad hf]
      rfl
    | succ n =>
      rw [firstBadField, fieldOf_good (hlt 0 e (by omega) rfl), if_neg (by simp),
        ih hn (fun k g hk hg => hlt (k + 1) g (by omega) hg)]
      congr 1; omega

/-- Entries that all pass become merge fields one by one (R155). -/
theorem filterMap_fieldOf {fs : List FieldEntry} (h : ∀ f ∈ fs, goodField s t f) :
    fs.filterMap (fieldOf s t) = fs.map mergedField := by
  rw [List.filterMap_congr fun f hf => fieldOf_good (h f hf), List.filterMap_eq_map']

end

section
variable {s : State} (hp : ∀ p d, s.disc p = some d → d.state ≠ .printing)
  {b : Byte} {t : TemplateId} {i o : Half} {fs : List FieldEntry} (hb : b.toNat = t.val)
include hp hb

/-- SET TEMPLATE of a template that is not held: the radii, the number of fields and the fields decide in turn (R155). -/
theorem setTemplate_free : setTemplate b i o fs s =
    if min 511 o.toNat ≤ i.toNat then s.refuse (.invalid 2)
    else if 8 < fs.length then s.refuse (.invalid 3)
    else (firstBadField s t 4 fs).elim
      (State.accept { s with
        templates := upd s.templates t ⟨i.toNat, min 511 o.toNat, fs.filterMap (fieldOf s t)⟩ })
      fun n => s.refuse (.invalid n) := by
  rw [setTemplate, numbered_eq hb]
  refine (if_neg (ne_true_of_eq_false (templateBusy_free hp t))).trans ?_
  cases firstBadField s t 4 fs <;> rfl

theorem setTemplate_badRadii (hr : min 511 o.toNat ≤ i.toNat) : setTemplate b i o fs s = s.refuse (.invalid 2) := by
  rw [setTemplate_free hp hb, if_pos hr]

theorem setTemplate_tooMany (hr : i.toNat < min 511 o.toNat) (hl : 8 < fs.length) :
    setTemplate b i o fs s = s.refuse (.invalid 3) := by
  rw [setTemplate_free hp hb, if_neg (Nat.not_le.mpr hr), if_pos hl]

theorem setTemplate_badField {n : Nat} {f : FieldEntry} (hr : i.toNat < min 511 o.toNat) (hl : fs.length ≤ 8)
    (hn : fs[n]? = some f) (hf : ¬ goodField s t f) (hlt : ∀ k e, k < n → fs[k]? = some e → goodField s t e) :
    setTemplate b i o fs s = s.refuse (.invalid (4 + n)) := by
  rw [setTemplate_free hp hb, if_neg (Nat.not_le.mpr hr), if_neg (Nat.not_lt.mpr hl), firstBadField_some hn hf hlt]
  rfl

theorem setTemplate_taken (hr : i.toNat < min 511 o.toNat) (hl : fs.length ≤ 8) (hg : ∀ f ∈ fs, goodField s t f) :
    setTemplate b i o fs s = State.accept { s with
      templates := upd s.templates t ⟨i.toNat, min 511 o.toNat, fs.map mergedField⟩ } := by
  rw [setTemplate_free hp hb, if_neg (Nat.not_le.mpr hr), if_neg (Nat.not_lt.mpr hl), firstBadField_none hg,
    filterMap_fieldOf hg]
  rfl

end

/-- Settles O50: with no record in PRINTING the three commands go through their checks in order; what a raster then holds
is `raster_setRaster`, and the fields that pass are `mergedField`. -/
theorem labelTablesAreLoaded : Obligations.LabelTablesAreLoaded := by
  unfold Obligations.LabelTablesAreLoaded
  intro h s ht hprint
  have hp : ∀ p d, s.countGood.disc p = some d → d.state ≠ .printing := hprint
  refine ⟨fun b t o ch hb hl => ⟨fun h1 h2 h3 => ?_, fun hbad => ?_⟩, fun b t i o fs hb hl => ?_, fun gs hl => ?_⟩
  · obtain ⟨w, hw, hr⟩ := exec_posted (c := .loadTemplate h b o ch) ht hl rfl (loadTemplate_taken hp hb h1 h2 h3)
    exact ⟨_, w, hw, hr, rfl, rfl, rfl, fun k a => raster_setRaster _ t k o.toNat a ch⟩
  · exact exec_refused ht hl rfl rfl (loadTemplate_refused hp hb hbad)
  · intro good
    refine ⟨fun hr hn hg => ?_, fun hr => ?_, fun hr hn => ?_, fun n f hr hn hf hbad hlt => ?_⟩
    · obtain ⟨w, hw, hrep⟩ := exec_posted (c := .setTemplate h b i o fs) ht hl rfl (setTemplate_taken hp hb hr hn hg)
      refine ⟨fs.map mergedField, w, hw, hrep, List.length_map _, fun n f x hf hx => ?_⟩
      obtain rfl : mergedField f = x := by simpa [hf] using hx
      exact ⟨rfl, rfl, rfl, rfl, rfl, fun _ => rfl⟩
    · exact exec_refused ht hl rfl rfl (setTemplate_badRadii hp hb hr)
    · exact exec_refused ht hl rfl rfl (setTemplate_tooMany hp hb hr hn)
    · exact exec_refused ht hl rfl rfl (setTemplate_badField hp hb hr hn hf hbad hlt)
  · exact exec_posted ht hl rfl (loadGlyphs_taken hp gs)

end Sys2Proof.Machine

namespace Sys2Proof.Machine

/-! ## A pair of the pending set is withdrawn (R170) -/

theorem mem_withdraw {c : NoticeClass} {x y : Notice} :
    y ∈ (c.withdraw x).set ↔ y ∈ c.set ∧ (c.outstanding = some x ∨ y ≠ x) := by
  unfold NoticeClass.withdraw
  split
  · next h => simp [h]
  · next h => simp [h]

@[simp] theorem raise_outstanding (c : NoticeClass) (x : Notice) : (c.raise x).outstanding = c.outstanding := by
  unfold NoticeClass.raise
  split <;> rfl

/-! ## The commit of a label (R162) -/

/-- The job's next serial passes the end of its width (R162). -/
abbrev Job.wraps (x : Job) : Prop := 10 ^ x.serialWidth ≤ x.serialNext + x.serialStep

/-- The printer's notice class once a job's serial has moved on (R162). -/
def NoticeClass.serialTaken (c : NoticeClass) (x : Job) : NoticeClass := if x.wraps then c.raise .serialWrap else c

theorem mem_serialTaken_of_ne {c : NoticeClass} {x : Job} {y : Notice} (hy : y ≠ .serialWrap) :
    y ∈ (c.serialTaken x).set ↔ y ∈ c.set := by
  unfold NoticeClass.serialTaken
  split
  · exact mem_raise.trans (or_iff_left hy)
  · rfl

theorem serialTaken_outstanding (c : NoticeClass) (x : Job) : (c.serialTaken x).outstanding = c.outstanding := by
  unfold NoticeClass.serialTaken
  split
  · exact raise_outstanding c _
  · rfl

section
variable {s : State} {d : Disc} (hd : s.disc .platter = some d)
include hd

theorem modDisc_platter (f : Disc → Disc) :
    s.modDisc .platter f = { s with places := upd s.places Place.platter.idx (some (f d)) } := by
  rw [State.modDisc, hd]
  rfl

/-- R162 step 1: the record takes serial next, which moves on modulo the width. -/
theorem commitSerial_eq (j : JobId) : s.commitSerial j = { s with
    places := upd s.places Place.platter.idx (some { d with serial := some (s.job j).serialNext, void := false })
    jobs := upd s.jobs j { s.job j with
      serialNext := ((s.job j).serialNext + (s.job j).serialStep) % 10 ^ (s.job j).serialWidth }
    printer := { s.printer with lastWrap := if (s.job j).wraps then some j else s.printer.lastWrap }
    notices := { s.notices with printer := s.notices.printer.serialTaken (s.job j) } } := by
  unfold State.commitSerial NoticeClass.serialTaken
  dsimp only
  rw [modDisc_platter hd]
  by_cases hw : (s.job j).wraps
  · rw [if_pos hw, if_pos hw, if_pos hw, raise_printer _ rfl]
    rfl
  · rw [if_neg hw, if_neg hw, if_neg hw]
    rfl

variable {j : JobId} {t : TemplateId}

/-- R162 step 1 is done when the template has a SERIAL field. -/
def State.serialFixed (s : State) (j : JobId) (t : TemplateId) : State :=
  if (s.template t).hasSerial then s.commitSerial j else s

theorem serialFixed_printer : (s.serialFixed j t).printer =
    { s.printer with lastWrap := (s.serialFixed j t).printer.lastWrap } := by
  unfold State.serialFixed
  split
  · rw [commitSerial_eq hd]
  · rfl

theorem serialFixed_frame : (s.serialFixed j t).templates = s.templates ∧ (s.serialFixed j t).now = s.now := by
  unfold State.serialFixed
  split
  · rw [commitSerial_eq hd]; exact ⟨rfl, rfl⟩
  · exact ⟨rfl, rfl⟩

variable (hj : d.job = some j) (ht : (s.job j).template = some t)
include hj ht

/-- R162: serial first, then the cells from the record and the job as they then stand, and the print begins. -/
theorem commitLabel_eq : s.commitLabel =
    let u := s.serialFixed j t
    { u with printer := { u.printer with
      ribbon := u.printer.ribbon - 1, state := .printing, rows := 0, timerDue := some (u.now + 60000)
      label := some ⟨t, (u.template t).fields.map (fieldCells (u.job j) ((u.disc .platter).getD d))⟩ } } := by
  have hnames : (d.job.bind fun j => (s.job j).template.map fun t => (j, t)) = some (j, t) := by
    rw [hj, Option.bind_some, ht]; rfl
  simp only [State.commitLabel, hd, hnames]
  rfl

/-- The printer at the commit: one label of the ribbon is used, and the print runs from row 0 (R160, R162). -/
theorem commitLabel_printer : let u := s.commitLabel
    u.printer = { s.printer with
      ribbon := s.printer.ribbon - 1, state := .printing, rows := 0, timerDue := some (s.now + 60000)
      label := some ⟨t, (s.template t).fields.map (fieldCells (u.job j) ((u.disc .platter).getD d))⟩
      lastWrap := u.printer.lastWrap } := by
  obtain ⟨htemplates, hnow⟩ := serialFixed_frame hd (j := j) (t := t)
  have htemplate : (s.serialFixed j t).template t = s.template t := congrArg (nth · t) htemplates
  intro u
  have hu : u = _ := commitLabel_eq hd hj ht
  rw [hu]
  dsimp only
  rw [htemplate, hnow, serialFixed_printer hd]
  rfl

/-- A label without a SERIAL field leaves the record and the series (R162). -/
theorem commitLabel_plain (hs : (s.template t).hasSerial = false) : let u := s.commitLabel
    u.jobs = s.jobs ∧ u.places = s.places ∧ u.printer.lastWrap = s.printer.lastWrap ∧ u.notices = s.notices := by
  have hfixed : s.serialFixed j t = s := if_neg (ne_true_of_eq_false hs)
  dsimp only
  rw [commitLabel_eq hd hj ht, hfixed]
  exact ⟨rfl, rfl, rfl, rfl⟩

/-- A label with a SERIAL field takes serial next for its record, and the series moves on (R162). -/
theorem commitLabel_serial (hs : (s.template t).hasSerial = true) : let u := s.commitLabel
    u.disc .platter = some { d with serial := some (s.job j).serialNext, void := false } ∧
    u.jobs = upd s.jobs j { s.job j with
      serialNext := ((s.job j).serialNext + (s.job j).serialStep) % 10 ^ (s.job j).serialWidth } ∧
    u.printer.lastWrap = (if (s.job j).wraps then some j else s.printer.lastWrap) ∧
    u.notices.printer = s.notices.printer.serialTaken (s.job j) := by
  have hfixed : s.serialFixed j t = s.commitSerial j := if_pos hs
  dsimp only
  rw [commitLabel_eq hd hj ht, hfixed, commitSerial_eq hd]
  exact ⟨nth_upd_self _ _ _, rfl, rfl, rfl⟩

/-- The commit of a label raises no cause but SERIAL_WRAP, and makes none outstanding (R162, R170). -/
theorem commitLabel_notices : let c := s.commitLabel.notices.printer
    c.outstanding = s.notices.printer.outstanding ∧
      ∀ x, x ≠ .serialWrap → (x ∈ c.set ↔ x ∈ s.notices.printer.set) := by
  dsimp only
  cases hs : (s.template t).hasSerial with
  | false =>
    obtain ⟨-, -, -, hnotices⟩ := commitLabel_plain hd hj ht hs
    rw [hnotices]
    exact ⟨rfl, fun _ _ => Iff.rfl⟩
  | true =>
    obtain ⟨-, -, -, hnotices⟩ := commitLabel_serial hd hj ht hs
    rw [hnotices]
    exact ⟨serialTaken_outstanding _ _, fun x hx => mem_serialTaken_of_ne hx⟩

end

/-! ## RIBBON LOAD and PRINTER RESUME (R163, R166) -/

/-- The ribbon counter is set to a count (R163). -/
def State.ribbonSet (s : State) (n : Half) : State := { s with printer := { s.printer with ribbon := n.toNat } }

section
variable {s : State} {n : Half}

theorem ribbonLoad_counts (h : s.printer.state ≠ .waitRibbon ∨ n = 0) : ribbonLoad n s = (s.ribbonSet n).accept :=
  if_neg fun hc => h.elim (fun hs => hs hc.1) fun hn => hc.2 hn

theorem ribbonLoad_commits (hs : s.printer.state = .waitRibbon) (hn : n ≠ 0) :
    ribbonLoad n s = ((s.ribbonSet n).commitLabel.withdraw .ribbonOut).accept :=
  if_pos ⟨hs, hn⟩

theorem printerResume_empties (hs : s.printer.state = .fault) (hd : s.disc .platter = none)
    (hp : s.sensors.platter = false) : printerResume s = State.accept { s with
      printer := { s.printer with state := .empty, tag := none, timerDue := none } } := by
  have hfree : s.platterFree = true := by simp [State.platterFree, hd, hp]
  rw [printerResume, if_neg (not_not_intro hs), if_neg (by simp [hfree])]
  rfl

theorem printerResume_wrongState (hs : s.printer.state ≠ .fault) : printerResume s = s.refuse .state := if_pos hs

end

theorem mem_ribbonWithdrawn {u : State} {x : Notice} : x ∈ (u.withdraw .ribbonOut).notices.printer.set ↔
    x ∈ u.notices.printer.set ∧ (u.notices.printer.outstanding = some .ribbonOut ∨ x ≠ .ribbonOut) := mem_withdraw

theorem hasSerial_eq_false {t : Template} (h : t.fields.all (fun f => decide (f.kind ≠ .serial)) = true) :
    t.hasSerial = false := by
  simpa [Template.hasSerial] using h

/-- Settles O51: RIBBON LOAD sets the counter, then commits a waiting label (`commitLabel_printer`, `commitLabel_serial`)
and withdraws RIBBON_OUT; PRINTER RESUME is decided by the printer's state, then by the platter. -/
theorem ribbonLoadAndPrinterResume : Obligations.RibbonLoadAndPrinterResume := by
  unfold Obligations.RibbonLoadAndPrinterResume
  intro h s ht
  refine ⟨fun n hl => ⟨fun hw => ?_, fun d j t hs hn hd hj htm => ?_⟩, fun hl => ⟨fun hs hd hp => ?_, fun hs hp => ?_,
    fun hs => ?_⟩⟩
  · exact exec_settled ht hl rfl (ribbonLoad_counts (s := s.countGood) hw)
  · have hplatter : (s.countGood.ribbonSet n).disc .platter = some d := hd
    have htemplate : ((s.countGood.ribbonSet n).job j).template = some t := htm
    obtain ⟨hout, hset⟩ := commitLabel_notices hplatter hj htemplate
    refine ⟨_, _, exec_settled ht hl rfl (ribbonLoad_commits (s := s.countGood) hs hn),
      commitLabel_printer hplatter hj htemplate, List.length_map _, rfl, ?_, fun hser => ?_, fun hser => ?_⟩
    · rw [mem_ribbonWithdrawn, hout, hset .ribbonOut nofun, or_iff_left (not_not_intro rfl), and_comm]
      rfl
    · obtain ⟨hjobs, hplaces, hwrap, -⟩ := commitLabel_plain hplatter hj htemplate (hasSerial_eq_false hser)
      exact ⟨hjobs, hplaces, hwrap⟩
    · obtain ⟨hrecord, hjobs, hlast, hnotices⟩ := commitLabel_serial hplatter hj htemplate hser
      refine ⟨hrecord, hjobs, fun hwrap => ⟨hlast.trans (if_pos hwrap), mem_ribbonWithdrawn.mpr ⟨?_, .inr nofun⟩⟩⟩
      rw [hnotices.trans (if_pos hwrap)]
      exact mem_raise.mpr (.inr rfl)
  · exact exec_settled ht hl rfl (printerResume_empties (s := s.countGood) hs hd hp)
  · exact exec_refused ht hl rfl rfl (printerResume_busy (s := s.countGood) hs (platterFree_of_taken hp))
  · exact exec_refused ht hl rfl rfl (printerResume_wrongState (s := s.countGood) hs)

end Sys2Proof.Machine

namespace Sys2Proof.Machine

/-! ## Decimal digits (R158) -/

/-- The last `k` decimal digits of a number, the most significant first. -/
def lastDigits (k n : Nat) : List Nat := (List.range k).map fun i => n / 10 ^ (k - 1 - i) % 10

theorem lastDigits_succ (k n : Nat) : lastDigits (k + 1) n = lastDigits k (n / 10) ++ [n % 10] := by
  have hshift : ∀ i ∈ List.range k, n / 10 ^ (k + 1 - 1 - i) % 10 = n / 10 / 10 ^ (k - 1 - i) % 10 := fun i hi => by
    have hlt := List.mem_range.mp hi
    rw [Nat.div_div_eq_div_mul, ← Nat.pow_succ', show k + 1 - 1 - i = (k - 1 - i).succ by omega]
  rw [lastDigits, List.range_succ, List.map_append, List.map_congr_left hshift]
  simp [lastDigits]

/-- Without the leading zeros these are the number's digits. -/
theorem dropWhile_lastDigits {k : Nat} : ∀ {n : Nat}, n < 10 ^ k →
    (lastDigits k n).dropWhile (· = 0) = (Nat.digits 10 n).reverse := by
  induction k with
  | zero =>
    intro n hn
    obtain rfl : n = 0 := by simpa using hn
    rfl
  | succ k ih =>
    intro n hn
    have htens : n / 10 < 10 ^ k := by rw [Nat.div_lt_iff_lt_mul (by omega), ← Nat.pow_succ]; exact hn
    rw [lastDigits_succ, List.dropWhile_append, ih htens]
    rcases Nat.eq_zero_or_pos n with rfl | hpos
    · rfl
    · rw [Nat.digits_def' (by omega) hpos, List.reverse_cons]
      split
      · next hnil =>
        have hsmall : n / 10 = 0 := by simpa [Nat.digits_eq_nil_iff_eq_zero] using hnil
        have hdigit : n % 10 ≠ 0 := by omega
        simp [hsmall, hdigit]
      · rfl

/-- R158: a number of at most ten digits is written in full, 0 as one digit. -/
theorem decimal_eq {n : Nat} (hn : n < 10 ^ 10) : decimal n = if n = 0 then [0] else (Nat.digits 10 n).reverse := by
  have hdigits : ((List.range 10).map fun i => n / 10 ^ (9 - i) % 10).dropWhile (· = 0) = (Nat.digits 10 n).reverse :=
    dropWhile_lastDigits hn
  rw [decimal, hdigits]
  split_ifs with h
  · subst h; rfl
  · have hne : (Nat.digits 10 n).reverse ≠ [] := by simpa [Nat.digits_eq_nil_iff_eq_zero] using h
    split
    · next hnil => exact absurd hnil hne
    · rfl

theorem decimal_half (h : Half) : decimal h.toNat = if h.toNat = 0 then [0] else (Nat.digits 10 h.toNat).reverse :=
  decimal_eq (h.isLt.trans (by decide))

/-! ## The cells of a field (R158) -/

section
variable {x : Job} {d : Disc} {f : MergeField}

theorem fieldCells_serial {n : Nat} (hf : f.kind = .serial) (hs : d.serial = some n) :
    fieldCells x d f = rightJustified f.width (paddedSerial x n) := by
  simp only [fieldCells, hf, hs]; rfl

theorem fieldCells_pass {n : Half} (hf : f.kind = .pass) (hp : d.pass = some n) :
    fieldCells x d f = rightJustified f.width ((decimal n.toNat).map some) := by
  simp only [fieldCells, hf, hp]; rfl

theorem fieldCells_tag (hf : f.kind = .tag) :
    fieldCells x d f = rightJustified f.width ((decimal d.tag.toNat).map some) := by
  simp only [fieldCells, hf]

theorem fieldCells_grade {g : Grade} (hf : f.kind = .grade) (hg : d.grade = some g) :
    fieldCells x d f = rightJustified f.width (gradeGlyph (some g)) := by
  simp only [fieldCells, hf, hg]

theorem fieldCells_text (hf : f.kind = .text) : fieldCells x d f =
    f.glyphs.map (fun g => some g.toNat) ++ List.replicate (f.width - f.glyphs.length) none := by
  simp only [fieldCells, hf]

end

/-! ## The dots of a label (R157, R159) -/

/-- Read from the end, a list shows the last element that meets a condition. -/
theorem find?_reverse_last {l : List α} {p : α → Bool} {i : Nat} {a : α} (ha : l[i]? = some a) (hp : p a = true)
    (hlater : ∀ k b, i < k → l[k]? = some b → p b = false) : l.reverse.find? p = some a := by
  obtain ⟨hi, ha⟩ := List.getElem?_eq_some_iff.mp ha
  have hsplit : l = l.take i ++ a :: l.drop (i + 1) := by rw [← ha]; simp
  have hdrop : (l.drop (i + 1)).reverse.find? p = none := List.find?_eq_none.mpr fun b hb => by
    obtain ⟨k, hk⟩ := List.mem_iff_getElem?.mp (List.mem_reverse.mp hb)
    rw [List.getElem?_drop] at hk
    simp [hlater _ b (by omega) hk]
  rw [hsplit, List.reverse_append, List.reverse_cons, List.find?_append, List.find?_append]
  simp [hdrop, hp]

theorem inRing_iff {t : Template} {x y : Nat} : inRing t x y = true ↔
    (t.inner : Int) ^ 2 ≤ ((x : Int) - 512) ^ 2 + ((y : Int) - 512) ^ 2 ∧
      ((x : Int) - 512) ^ 2 + ((y : Int) - 512) ^ 2 ≤ (t.outer : Int) ^ 2 := by
  simp only [inRing, decide_eq_true_eq, Nat.cast_mul, pow_two]

theorem covers_iff {f : MergeField} {x y : Nat} : f.covers x y = true ↔
    f.x ≤ x ∧ x < f.x + 16 * f.scale * f.width ∧ f.y ≤ y ∧ y < f.y + 24 * f.scale := decide_eq_true_iff

theorem glyphDot_eq (gs : Vector Glyph 16) (g : Fin 16) (gx : Nat) (gy : Fin 24) :
    glyphDot gs g gx gy = (nth (nth gs g) gy).getLsbD (15 - gx) := by
  simp [glyphDot, nth]

theorem glyphDot_beyond (gs : Vector Glyph 16) {g : Nat} (hg : 16 ≤ g) (gx gy : Nat) : glyphDot gs g gx gy = false := by
  simp [glyphDot, Vector.getElem?_eq_none hg]

/-- The row of its glyphs that a field shows at a line of its box. -/
theorem glyphRow_lt {f : MergeField} {x y : Nat} (hc : f.covers x y = true) : (y - f.y) / f.scale < 24 := by
  obtain ⟨-, -, hy, hlt⟩ := covers_iff.mp hc
  have hscale : 0 < f.scale := Nat.pos_of_ne_zero fun h0 => by rw [h0] at hlt; omega
  exact (Nat.div_lt_iff_lt_mul hscale).mpr (by omega)

/-- A field shows at a dot of its box the dot of its cell's glyph; a cell without a glyph shows none (R156, R157). -/
theorem dot_iff {gs : Vector Glyph 16} {f : MergeField} {cells : List (Option Nat)} {x y : Nat}
    (hc : f.covers x y = true) : f.dot gs cells x y = true ↔ ∃ (g : Fin 16) (gy : Fin 24),
      cells[(x - f.x) / (16 * f.scale)]? = some (some g.val) ∧ gy.val = (y - f.y) / f.scale ∧
      (nth (nth gs g) gy).getLsbD (15 - (x - f.x) % (16 * f.scale) / f.scale) = true := by
  constructor
  · intro hdot
    unfold MergeField.dot at hdot
    split at hdot
    · next g hcell =>
      have hg : g < 16 := by
        by_contra hn
        rw [glyphDot_beyond gs (Nat.not_lt.mp hn)] at hdot
        exact Bool.false_ne_true hdot
      exact ⟨⟨g, hg⟩, ⟨_, glyphRow_lt hc⟩, hcell, rfl, (glyphDot_eq gs ⟨g, hg⟩ _ ⟨_, glyphRow_lt hc⟩) ▸ hdot⟩
    · exact absurd hdot Bool.false_ne_true
  · rintro ⟨g, gy, hcell, hrow, hdot⟩
    simp only [MergeField.dot, hcell]
    rw [← hrow, glyphDot_eq]
    exact hdot

section
variable {raster : Nat → Byte} {gs : Vector Glyph 16} {t : Template} {cells : List (List (Option Nat))} {x y : Nat}

/-- A dot that no field covers is the raster's (R157). -/
theorem labelDot_bare (h : ∀ f ∈ t.fields, ¬ f.covers x y = true) :
    labelDot raster gs t cells x y = (inRing t x y && rasterDot raster x y) := by
  have hnone : (t.fields.zip cells).reverse.find? (fun c => c.1.covers x y) = none :=
    List.find?_eq_none.mpr fun c hc => h c.1 (List.of_mem_zip (List.mem_reverse.mp hc)).1
  rw [labelDot, hnone]

/-- A dot that a field covers is that of the last such field (R157). -/
theorem labelDot_covered {i : Nat} {f : MergeField} {cs : List (Option Nat)} (hf : t.fields[i]? = some f)
    (hcs : cells[i]? = some cs) (hc : f.covers x y = true)
    (hlater : ∀ (k : Nat) (g : MergeField), i < k → t.fields[k]? = some g → ¬ g.covers x y = true) :
    labelDot raster gs t cells x y = (inRing t x y && f.dot gs cs x y) := by
  have hfound : (t.fields.zip cells).reverse.find? (fun c => c.1.covers x y) = some (f, cs) :=
    find?_reverse_last (List.getElem?_zip_eq_some.mpr ⟨hf, hcs⟩) hc fun k c hk hc' =>
      Bool.eq_false_iff.mpr (hlater k c.1 hk (List.getElem?_zip_eq_some.mp hc').1)
  rw [labelDot, hfound]

end

/-- The first `n` of eight dots packed: the last of them in bit 0 (R154). -/
theorem packDots_bit (dot : Nat → Bool) (i : Nat) : ∀ n, n ≤ 8 → ∀ m, m < n →
    ((List.range n).foldl (fun (b : Byte) k => (b <<< 1) ||| (if dot (8 * i + k) then 1 else 0)) 0).getLsbD m =
      dot (8 * i + (n - 1 - m)) := by
  intro n
  induction n with
  | zero => intro _ m hm; omega
  | succ n ih =>
    intro hn m hm
    rw [List.range_succ, List.foldl_append, List.foldl_cons, List.foldl_nil, BitVec.getLsbD_or,
      BitVec.getLsbD_shiftLeft]
    cases m with
    | zero => cases hdot : dot (8 * i + n) <;> simp [hdot]
    | succ m =>
      rw [Nat.add_sub_cancel, ih (by omega) m (by omega), show n + 1 - 1 - (m + 1) = n - 1 - m by omega]
      cases dot (8 * i + n) <;> simp <;> omega

/-- A packed byte holds the dot of the lowest x in its most significant bit (R154). -/
theorem packByte_bit (dot : Nat → Bool) (i k : Nat) (hk : k < 8) :
    (packByte dot i).getLsbD (7 - k) = dot (8 * i + k) := by
  rw [packByte, packDots_bit dot i 8 (Nat.le_refl 8) (7 - k) (by omega)]
  congr 1; omega

/-! ## The printer's reports (R161 to R165) -/

section
variable {c : Instr} {s u : State} {guard : Bool} {f : State → State}

/-- A row of an event that occurs: its work, then every block's. -/
theorem exec_occurs (hr : s.resetHeld = false) (he : exec c s = .next (s.eventIf guard f)) (hg : guard = true)
    (hf : f s = u) : exec c s = .next (State.settle s u) := by
  rw [he, eventIf_run hr hg, hf]

/-- A row of an event that cannot occur in the state it meets leaves the state (R165, log 3). -/
theorem exec_discarded (he : exec c s = .next (s.eventIf guard f)) (hg : guard = false) : exec c s = .next s := by
  rw [he, hg]
  rfl

end

theorem printerIn_iff {s : State} {p : PrinterState} : s.printerIn p = true ↔ s.printer.state = p := decide_eq_true_iff

theorem inProgress_iff {p : PrinterState} : p.inProgress = true ↔ p ∈ [PrinterState.loaded, .waitRibbon, .printing] := by
  cases p <;> decide

theorem proceedLabel_waits {s : State} (hr : s.printer.ribbon = 0) : s.proceedLabel = State.raise
    { s with printer := { s.printer with state := .waitRibbon, timerDue := none } } .ribbonOut := if_pos hr

theorem proceedLabel_commits {s : State} (hr : s.printer.ribbon ≠ 0) : s.proceedLabel = s.commitLabel := if_neg hr

/-- R121, R164: the record spoiled, its serial void. -/
theorem spoil_fresh {d : Disc} (hc : d.cause = none) : d.spoil = { d with
    state := .scrap, cause := some .printFault, lba := none, grade := none, void := d.serial.isSome } := by
  rw [Disc.spoil, scrap_fresh hc]

section
variable {s : State} {d : Disc} (hd : s.disc .platter = some d)
include hd

theorem unloadPlatter_eq : s.unloadPlatter = s.createRequest (.printUnload d.tag) := by
  rw [State.unloadPlatter, hd]

/-- R164: the record is finished, and its PRINT_UNLOAD is asked for. -/
theorem finishPrint_eq : s.finishPrint = { s with
    places := upd s.places Place.platter.idx (some { d with state := .finished })
    printer := { s.printer with state := .done, timerDue := none, label := none }
    transport := { s.transport with
      queue := s.transport.queue ++ [⟨.printUnload d.tag, s.transport.arrival⟩]
      arrival := s.transport.arrival + 1 } } := by
  rw [State.finishPrint, unloadPlatter_eq (d := { d with state := .finished }), modDisc_platter hd]
  · rfl
  · exact (disc_modDisc_self s .platter _).trans (by rw [hd]; rfl)

/-- R164: the record is scrap with its serial void, the printer in FAULT, and the PRINT_UNLOAD is asked for. -/
theorem spoilPrint_eq (hc : d.cause = none) : s.spoilPrint = State.raise { s with
    places := upd s.places Place.platter.idx (some { d with
      state := .scrap, cause := some .printFault, lba := none, grade := none, void := d.serial.isSome })
    printer := { s.printer with state := .fault, timerDue := none, label := none }
    transport := { s.transport with
      queue := s.transport.queue ++ [⟨.printUnload d.tag, s.transport.arrival⟩]
      arrival := s.transport.arrival + 1 } } .printerFault := by
  have hspoilt : (s.modDisc .platter Disc.spoil).printerFault.disc .platter = some d.spoil :=
    (disc_modDisc_self s .platter _).trans (by rw [hd]; rfl)
  rw [State.spoilPrint, unloadPlatter_eq hspoilt, modDisc_platter hd, spoil_tag, spoil_fresh hc]
  rfl

end

section
variable {s : State} (hr : s.resetHeld = false)
include hr

/-- R162: the row leaves as the label gives it, and is counted. -/
theorem printRowSent_row {l : Label} (hs : s.printer.state = .printing) (hrows : s.printer.rows < 1024)
    (hl : s.printer.label = some l) : exec .printRowSent s = .next { s with
      printer := { s.printer with rows := s.printer.rows + 1 }
      lines := { s.lines with print := some (.row s.printer.rows (labelRow s l s.printer.rows)) } } := by
  have hguard : (s.printerIn .printing && decide (s.printer.rows < labelRows)) = true := by
    rw [printerIn_iff.mpr hs, Bool.true_and]
    exact decide_eq_true hrows
  have hrow : exec .printRowSent s = .next s.sendRow := congrArg _ (quietIf_run hr hguard _)
  rw [hrow, State.sendRow, hl]
  rfl

/-- The three rows that spoil a print: DONE before the last row, a FAULT report, and the print timer (R161, R164). -/
theorem exec_spoils {c : Instr} {now : Nat}
    (hrow : (s.printer.state = .printing ∧ s.printer.rows ≠ 1024 ∧ c = .printerDone ∧ now = s.now) ∨
      (s.printer.state ∈ [.loaded, .waitRibbon, PrinterState.printing] ∧ c = .printerFaultReport ∧ now = s.now) ∨
      (s.printer.state ∈ [.loaded, PrinterState.printing] ∧ c = .printTimerExpiry ∧
        now = max s.now (s.printer.timerDue.getD 0))) :
    exec c s = .next (State.settle s (State.spoilPrint { s with now := now })) := by
  rcases hrow with ⟨hs, hrows, rfl, rfl⟩ | ⟨hs, rfl, rfl⟩ | ⟨hs, rfl, rfl⟩
  · exact exec_occurs hr rfl (printerIn_iff.mpr hs) (if_neg hrows)
  · exact exec_occurs hr rfl (inProgress_iff.mpr hs) rfl
  · have hguard : (s.printerIn .loaded || s.printerIn .printing) = true := by
      simpa [printerIn_iff] using hs
    exact exec_occurs hr rfl hguard rfl

end

/-- Settles O52: the digits of a number (`decimal_eq`) give a field's cells, the last field that covers a dot gives it
(`labelDot_covered`), and each report, in a state that awaits it, does the work that its `_eq` lemma spells. -/
theorem printerReports : Obligations.PrinterReports := by
  unfold Obligations.PrinterReports
  refine ⟨fun x d f => ?_, fun raster gs t cells x y => ?_, packByte_bit, fun s hr => ⟨fun hs => ?_, fun hs => ?_,
    fun hs => ?_⟩, fun s d hr hd => ?_⟩
  · intro digits fit
    refine ⟨fun n hf hs hn => ?_, fun n hf hp => ?_, fun hf => ?_, fun g hf hg hfail => ?_, fieldCells_text⟩
    · rw [fieldCells_serial hf hs, paddedSerial, decimal_eq (hn.trans (by decide))]
      rfl
    · rw [fieldCells_pass hf hp, decimal_half]
      rfl
    · rw [fieldCells_tag hf, decimal_half]
      rfl
    · rw [fieldCells_grade hf hg]
      cases g with
      | fail => exact absurd rfl hfail
      | pass | marginal | unverified => rfl
  · intro covers r inside
    refine ⟨fun h => ?_, fun i f cs hf hcs hc hlater => ?_⟩
    · rw [labelDot_bare fun f hf => covers_iff.not.mpr (h f hf), Bool.and_eq_true, inRing_iff]
      rfl
    · have hcovers : f.covers x y = true := covers_iff.mpr hc
      rw [labelDot_covered hf hcs hcovers fun k g hk hg => covers_iff.not.mpr (hlater k g hk hg), Bool.and_eq_true,
        inRing_iff, dot_iff hcovers]
  · exact exec_discarded rfl (decide_eq_false hs)
  · exact exec_discarded rfl (decide_eq_false hs)
  · exact exec_discarded rfl (Bool.eq_false_iff.mpr (inProgress_iff.not.mpr hs))
  · refine ⟨fun hs hrib => ?_, fun j t hs hrib hj ht => ?_, fun l hs hrows hl => printRowSent_row hr hs hrows hl,
      fun hs hrows => ?_, fun c now hrow hc => ?_⟩
    · exact exec_occurs hr rfl (printerIn_iff.mpr hs) (proceedLabel_waits hrib)
    · exact ⟨_, _, exec_occurs hr rfl (printerIn_iff.mpr hs) (proceedLabel_commits hrib),
        commitLabel_printer hd hj ht, rfl, fun hser => (commitLabel_serial hd hj ht hser).1⟩
    · exact exec_occurs hr rfl (printerIn_iff.mpr hs) ((if_pos hrows).trans (finishPrint_eq hd))
    · have hplatter : ({ s with now := now } : State).disc .platter = some d := hd
      rw [exec_spoils hr hrow, spoilPrint_eq hplatter hc]

end Sys2Proof.Machine

namespace Sys2Proof.Machine

/-! ## PART RESET taken and performed (R176, R189, R190) -/

/-- A command frame of its required length that only the link acts after is performed and answered, whatever its answer
carries (R185, R186). -/
theorem hear_take_posted {s : State} {h : CmdHdr} {n : Nat} {perform : State → State × AnswerEntry} (ht : s.takes)
    (hl : h.len = n) : s.hear (State.take h n .post perform) =
      State.outbound s.countGood ((perform s.countGood).1.answer (perform s.countGood).2) := by
  obtain ⟨hheld, hstage, hsynced, hroom⟩ := ht
  have hunsent : ¬ Config.answerRoom ≤ s.countGood.link.unsent := by rw [countGood_unsent]; exact hroom.not_ge
  rw [hear_synced hheld hstage hsynced, State.take, if_neg hunsent, if_neg (not_not.mpr hl)]

theorem partReset_taken {s : State} {h : CmdHdr} (ht : s.takes) (hl : h.len = 4) :
    ∃ t, exec (.partReset h) s = .next t ∧
      State.replies { s.countGood with link := { s.countGood.link with stage := .taken } } t ⟨h.tag, .ok 0, [], true⟩ :=
  ⟨_, congrArg Host.Outcome.next (hear_take_posted ht hl), outbound_replies _ _ _⟩

/-- The treatment of the sensors at the release of reset depends on nothing but the sensors' levels, latches, marks and
causes (R132). -/
theorem sensorsAtRelease_view_congr {s t : State} (hs : t.sensors = s.sensors)
    (hv : ∀ k, t.sensorView k = s.sensorView k) :
    t.sensorsAtRelease.transport.latched = s.sensorsAtRelease.transport.latched ∧
      t.sensorsAtRelease.transport.marks = s.sensorsAtRelease.transport.marks := by
  refine ⟨binSensors_ext fun k => ?_, Vector.ext fun i hi => ?_⟩
  · obtain ⟨hl, -, -, hq⟩ := sensorView_eq (hv k)
    simp only [sensorsAtRelease_latched, State.differs, hs, hl, hq]
  · obtain ⟨hl, hm, -, -⟩ := sensorView_eq (hv (.input ⟨i, hi⟩))
    have hmark : t.sensorsAtRelease.markOf (.input ⟨i, hi⟩) = s.sensorsAtRelease.markOf (.input ⟨i, hi⟩) := by
      simp only [sensorsAtRelease_mark, State.differs, hs, hl, hm]
    exact hmark

/-- The part at its reset values with the receiver kept and RESET_DONE COMMAND raised, its sensors not yet treated (R176,
R189). -/
def State.restarted (s : State) : State :=
  { s.fresh with link := { Link.reset with receiver := s.link.receiver, firstSync := false } }.raise (.resetDone .command)

theorem resetPerformed_starts {s : State} (hr : s.resetHeld = false) (hs : s.link.stage = .answered) :
    exec .resetPerformed s = .next s.restarted.start := by
  have hdue : ¬ (s.resetHeld ∨ s.link.stage ≠ .answered) := by simp [hr, hs]
  have hvalues : s.resetValues = s.fresh := by rw [State.resetValues, hr]; rfl
  have hrow : exec .resetPerformed s = .next (if s.resetHeld ∨ s.link.stage ≠ .answered then s else (State.raise
    { s.resetValues with link := { Link.reset with receiver := s.link.receiver, firstSync := false } }
    (.resetDone .command)).start) := rfl
  rw [hrow, if_neg hdue, hvalues]
  rfl

section
variable (s : State)

/-- The raise of RESET_DONE touches no sensor. -/
theorem restarted_view (k : BinSensor) : s.restarted.sensorView k = s.fresh.sensorView k := by
  cases k <;> rfl

theorem restarted_work : SensorWork s.restarted s.restarted.sensorsAtRelease := sensorsAtRelease_work s.restarted

theorem restarted_link : s.restarted.sensorsAtRelease.link =
    { Link.reset with receiver := s.link.receiver, firstSync := false } := by
  rw [restarted_work]; rfl

theorem restarted_system : s.restarted.sensorsAtRelease.notices.get .system = ⟨[.resetDone .command], none⟩ := by
  rw [restarted_work]; rfl

/-- What the bin sensors raise at power-on they raise here too, behind RESET_DONE COMMAND (R132, R189). -/
theorem restarted_pending (x : Notice) : s.restarted.sensorsAtRelease.pendingPair x = true ↔
    x ∈ [Notice.resetDone .command] ∨ ∃ k : BinSensor, s.sensors.bins.get k = true ∧ x = k.notice true := by
  obtain ⟨-, -, -, -, -, hfresh⟩ := fresh_startedFrom s
  have hraised : s.restarted.pendingPair x = true ↔ s.fresh.pendingPair x = true ∨ x = .resetDone .command :=
    pendingPair_raise _ _ _
  have hsensors : (∃ k, s.restarted.differs k ∧ s.restarted.quiet k = true ∧
      x = k.notice (s.restarted.sensors.bins.get k)) ↔
      ∃ k, s.fresh.differs k ∧ s.fresh.quiet k = true ∧ x = k.notice (s.fresh.sensors.bins.get k) :=
    exists_congr fun k => by rw [(sensorView_eq (restarted_view s k)).2.2.2]; rfl
  rw [sensorsAtRelease_pending, hraised, hsensors, or_right_comm, ← sensorsAtRelease_pending, ← fresh_outbound, hfresh,
    or_iff_right List.not_mem_nil, or_comm, List.mem_singleton]

/-- The blocks of a part just reset ask the link for nothing but notices. -/
theorem restarted_start :
    s.restarted.start = s.restarted.sensorsAtRelease.enqueue s.restarted.sensorsAtRelease.noticesAsked := by
  have hstage : s.restarted.sensorsAtRelease.link.stage ≠ .answered := by rw [restarted_link]; exact ResetStage.noConfusion
  have hcredits : State.creditsAsked s.restarted s.restarted.sensorsAtRelease = [] := by
    rw [State.creditsAsked, List.map_eq_nil_iff, List.filter_eq_nil_iff]
    intro j _
    have hpass : s.restarted.sensorsAtRelease.pass j = none := by rw [restarted_work]; exact reset_pass j
    rw [creditChanged, hpass]
    exact Bool.false_ne_true
  have hreport : s.restarted.sensorsAtRelease.reportAsked = [] := by rw [restarted_work]; rfl
  rw [State.start, outbound_eq hstage, hcredits, hreport, List.nil_append, List.append_nil]

/-- A class of which nothing is pending is not ready, so only SYSTEM and TRANSPORT ask (R172). -/
theorem restarted_asks {e : OutEntry} (he : e ∈ s.restarted.sensorsAtRelease.noticesAsked) :
    e = .notice .system ∨ e = .notice .transport := by
  obtain ⟨c, hc, rfl⟩ := List.mem_map.mp he
  obtain ⟨-, hasks⟩ := List.mem_filter.mp hc
  obtain ⟨hready, -⟩ := Bool.and_eq_true_iff.mp hasks
  rw [restarted_work] at hready
  cases c with
  | system => exact .inl rfl
  | transport => exact .inr rfl
  | pass | port | printer => exact nomatch hready

/-- In SYNCED the notice of RESET_DONE COMMAND is the first entry (R176, R187). -/
theorem restarted_asksSystem (hs : s.link.receiver = .synced) :
    s.restarted.sensorsAtRelease.noticesAsked.head? = some (.notice .system) := by
  have hready : (s.restarted.sensorsAtRelease.classReady .system &&
      decide (OutEntry.notice .system ∉ s.restarted.sensorsAtRelease.link.queue)) = true := by
    rw [State.classReady, restarted_system, restarted_link, hs]
    rfl
  simp only [State.noticesAsked, causeClasses, List.filter_cons, hready, if_true, List.map_cons, List.head?_cons]

theorem restarted_startedFrom : State.startedFrom s s.restarted.start
    { Link.reset with receiver := s.link.receiver, firstSync := false, queue := s.restarted.start.link.queue }
    [.resetDone .command] := by
  have hw := restarted_work s
  have hpending := restarted_pending s
  obtain ⟨hlatched, hmarks⟩ := sensorsAtRelease_view_congr (s := s.fresh) (t := s.restarted) rfl (restarted_view s)
  rw [fresh_latched] at hlatched
  rw [fresh_marks] at hmarks
  rw [restarted_start]
  generalize s.restarted.sensorsAtRelease.noticesAsked = asks
  generalize s.restarted.sensorsAtRelease = t at *
  refine ⟨?_, fun c => ?_, ?_, ?_, ?_, hpending⟩
  · rw [hw, hlatched, hmarks]; rfl
  · rw [hw]; cases c <;> rfl
  · rw [hw]; rfl
  · rw [hw]; rfl
  · rw [hw]; rfl

end

/-- Settles O11: PART RESET's answer carries the reset; when it is performed, the sensors are treated as at power-on, and
the link is asked for the notices of what is pending then. -/
theorem partResetIsTakenAndPerformed : Obligations.PartResetIsTakenAndPerformed := by
  unfold Obligations.PartResetIsTakenAndPerformed
  refine ⟨fun h s ht hl => partReset_taken ht hl, fun s hr hs => ⟨s.restarted.start, resetPerformed_starts hr hs,
    restarted_startedFrom s, ?_, fun hsynced => ?_, fun e he => ?_⟩⟩
  · rw [restarted_start]
    exact restarted_system s
  · have hqueue : s.restarted.start.link.queue = s.restarted.sensorsAtRelease.noticesAsked := by
      rw [restarted_start, State.enqueue, restarted_link]; rfl
    rw [hqueue]
    exact restarted_asksSystem s hsynced
  · rw [restarted_start, State.enqueue, restarted_link] at he
    exact restarted_asks s he

end Sys2Proof.Machine

namespace Sys2Proof.Machine

/-! ## ACK NOTICE refused (R173, R175) -/

section
variable {s : State} {cls cause : Byte} {obj : Half}

theorem ackNotice_noClass (hc : 6 ≤ cls.toNat) : ackNotice cls cause obj s = s.refuse (.invalid 0) := by
  obtain ⟨n, hn⟩ := Nat.exists_eq_add_of_le' hc
  rw [ackNotice, hn]
  rfl

theorem ackNotice_disc (hc : cls.toNat = 5) : ackNotice cls cause obj s = ackReport cause obj s := by
  rw [ackNotice, hc]
  rfl

theorem ackCause_otherCause {c : CauseClass}
    (hcause : ∀ x, (s.notices.get c).outstanding = some x → cause.toNat ≠ x.cause) :
    ackCause c cause obj s = s.refuse (.invalid 1) := by
  rw [ackCause]
  cases ho : (s.notices.get c).outstanding with
  | none => rfl
  | some x => exact if_pos (hcause x ho)

theorem ackCause_otherObject {c : CauseClass} {x : Notice} (ho : (s.notices.get c).outstanding = some x)
    (hcause : cause.toNat = x.cause) (hobj : (obj.extractLsb' 0 8).toNat ≠ x.objectCode) :
    ackCause c cause obj s = s.refuse (.invalid 2) := by
  rw [ackCause, ho]
  exact (if_neg (not_not.mpr hcause)).trans (if_pos hobj)

theorem ackReport_otherCause (h : s.notices.reports = [] ∨ s.notices.reportOut = false ∨ cause.toNat ≠ 1) :
    ackReport cause obj s = s.refuse (.invalid 1) := by
  rw [ackReport]
  cases hr : s.notices.reports with
  | nil => rfl
  | cons r rs =>
    have hwrong : s.notices.reportOut = false ∨ cause.toNat ≠ 1 := h.resolve_left (by rw [hr]; exact List.cons_ne_nil r rs)
    exact if_pos (by rwa [Bool.not_eq_true'])

theorem ackReport_otherObject {r : Report} {rs : List Report} (hr : s.notices.reports = r :: rs)
    (ho : s.notices.reportOut = true) (hcause : cause.toNat = 1) (hobj : obj ≠ r.disc.tag) :
    ackReport cause obj s = s.refuse (.invalid 2) := by
  rw [ackReport, hr]
  exact (if_neg (by simp [ho, hcause])).trans (if_pos hobj)

end

/-- Settles O14: the class is judged first, then the cause, then the object, each by the branch of its lemma. -/
theorem wrongAcknowledgementIsRefused : Obligations.WrongAcknowledgementIsRefused := by
  unfold Obligations.WrongAcknowledgementIsRefused
  intro h cls cause obj s ht hl
  have refused {i : Nat} (hp : ackNotice cls cause obj s.countGood = s.countGood.refuse (.invalid i)) :
      ∃ t, exec (.ackNotice h cls cause obj) s = .next t ∧ State.replies s.countGood t ⟨h.tag, .invalid i, [], false⟩ :=
    exec_refused ht hl rfl rfl hp
  refine ⟨fun hc => refused (ackNotice_noClass hc), fun c hc hcause => refused ?_,
    fun c x hc ho hcause hobj => refused ?_, fun hc hwrong => refused ?_, fun r rs hc hr ho hcause hobj => refused ?_⟩
  · exact (ackNotice_cause hc).trans (ackCause_otherCause hcause)
  · exact (ackNotice_cause hc).trans (ackCause_otherObject ho hcause hobj)
  · exact (ackNotice_disc hc).trans (ackReport_otherCause hwrong)
  · exact (ackNotice_disc hc).trans (ackReport_otherObject hr ho hcause hobj)

end Sys2Proof.Machine

namespace Sys2Proof.Machine

/-! ## Raise and withdrawal of a pair (R170) -/

section
variable {c : NoticeClass} {x : Notice}

theorem length_insertRanked (x : Notice) (l : List Notice) : (insertRanked x l).length = l.length + 1 := by
  induction l with
  | nil => rfl
  | cons y l ih =>
    unfold insertRanked
    split
    · rfl
    · exact congrArg (· + 1) ih

theorem raise_of_mem (hx : x ∈ c.set) : c.raise x = c := if_pos hx

theorem raise_of_not_mem (hx : x ∉ c.set) : c.raise x = { c with set := insertRanked x c.set } := if_neg hx

theorem withdraw_of_outstanding (ho : c.outstanding = some x) : c.withdraw x = c := if_pos ho

theorem withdraw_outstanding (c : NoticeClass) (x : Notice) : (c.withdraw x).outstanding = c.outstanding := by
  unfold NoticeClass.withdraw
  split <;> rfl

end

/-- Settles O13: what a raise inserts and a withdrawal filters is read by membership. -/
theorem raiseAndWithdraw : Obligations.RaiseAndWithdraw := by
  unfold Obligations.RaiseAndWithdraw
  intro c x
  refine ⟨raise_of_mem, fun hx => ⟨raise_outstanding c x, ?_, fun y => mem_raise.trans or_comm⟩,
    withdraw_of_outstanding, fun ho => ⟨withdraw_outstanding c x, fun y => ?_⟩⟩
  · rw [raise_of_not_mem hx]
    exact length_insertRanked x c.set
  · exact mem_withdraw.trans (and_congr_right fun _ => or_iff_right ho)

end Sys2Proof.Machine

namespace Sys2Proof.Machine

/-! ## Frames as they are heard (R182, R185, R189) -/

section
variable {c : Instr} {h : CmdHdr} {s : State}

/-- Every command row is the command taker's work on its frame, with the length that the row requires. -/
theorem exec_commandRow (hh : c.header = some h) : ∃ n after perform, (∀ k, c.requiredLength = some k → k = n) ∧
    ∀ s, exec c s = .next (s.hear (State.take h n after perform)) := by
  cases c <;> cases hh <;> refine ⟨_, _, _, fun _ hk => ?_, fun _ => rfl⟩
  case unknownCommand => cases hk
  all_goals exact (Option.some.inj hk).symm

/-- A good frame is heard, but for the rows that cannot occur in SYNCED (log 3). -/
theorem exec_goodFrame (hc : isGoodFrame c = true ∨ c = .huntGoodFrame) (s : State) :
    (∃ f, exec c s = .next (s.hear f)) ∨ s.link.receiver = .synced ∧ exec c s = .next s := by
  rcases hc with hc | rfl
  · by_cases hh : c.header.isSome
    · obtain ⟨h, hh⟩ := Option.isSome_iff_exists.mp hh
      obtain ⟨_, _, _, -, hexec⟩ := exec_commandRow hh
      exact .inl ⟨_, hexec s⟩
    · cases c
      case commandDropped =>
        by_cases hroom : s.link.receiver = .synced ∧ s.link.unsent < Config.answerRoom
        · exact .inr ⟨hroom.1, congrArg _ (if_pos hroom)⟩
        · exact .inl ⟨_, congrArg _ (if_neg hroom)⟩
      case otherKindFrame => exact .inl ⟨_, rfl⟩
      case imageFrame => exact .inl ⟨_, rfl⟩
      all_goals exact absurd hc hh
  · by_cases hhunt : s.link.receiver = .hunt
    · exact .inl ⟨_, congrArg _ (if_pos hhunt)⟩
    · refine .inr ⟨?_, congrArg _ (if_neg hhunt)⟩
      cases hr : s.link.receiver with
      | hunt => exact absurd hr hhunt
      | synced => rfl

theorem hear_duringReset (hs : s.link.stage ≠ .none) (f : State → State) : s.hear f = s :=
  if_pos (by simp [hs])

theorem hear_hunt (hr : s.resetHeld = false) (hs : s.link.stage = .none) (hh : s.link.receiver = .hunt)
    (f : State → State) : s.hear f = s.huntGood := by
  simp [State.hear, hr, hs, hh]

/-- In HUNT every good frame is judged alike, whatever its row (R182). -/
theorem exec_goodFrame_hunt (hc : isGoodFrame c = true ∨ c = .huntGoodFrame) (hr : s.resetHeld = false)
    (hs : s.link.stage = .none) (hh : s.link.receiver = .hunt) : exec c s = .next s.huntGood := by
  rcases exec_goodFrame hc s with ⟨f, hf⟩ | ⟨hsynced, -⟩
  · rw [hf, hear_hunt hr hs hh]
  · rw [hh] at hsynced; cases hsynced

/-! ## Commands that are not performed (R185, R186) -/

theorem hear_take_wrongLength {n : Nat} {after : After} {perform : State → State × AnswerEntry} (ht : s.takes)
    (hl : h.len ≠ n) : s.hear (State.take h n after perform) =
      State.outbound s.countGood (s.countGood.answer (answerTo h (.invalid 255))) := by
  obtain ⟨hheld, hstage, hsynced, hroom⟩ := ht
  have hunsent : ¬ Config.answerRoom ≤ s.countGood.link.unsent := by rw [countGood_unsent]; exact hroom.not_ge
  rw [hear_synced hheld hstage hsynced, State.take, if_neg hunsent, if_pos hl]

/-- A command that finds no answer room is counted as dropped (R185). -/
theorem exec_noRoom (hc : c.header.isSome ∨ c = .commandDropped) (hr : s.resetHeld = false)
    (hs : s.link.stage = .none) (hy : s.link.receiver = .synced) (hfull : Config.answerRoom ≤ s.link.unsent) :
    exec c s = .next (s.countGood.modLink fun l => { l with dropped := satInc max32 l.dropped }) := by
  rcases hc with hc | rfl
  · obtain ⟨h, hh⟩ := Option.isSome_iff_exists.mp hc
    obtain ⟨n, after, perform, -, hexec⟩ := exec_commandRow hh
    rw [hexec, hear_synced hr hs hy, State.take, if_pos (by rw [countGood_unsent]; exact hfull)]
  · have hfull : ¬ (s.link.receiver = .synced ∧ s.link.unsent < Config.answerRoom) := fun hroom => hfull.not_gt hroom.2
    exact congrArg _ ((if_neg hfull).trans (hear_synced hr hs hy))

end

/-- Settles O5: a wrong length is judged by the command taker before the command's own work; an unknown command's work
is its answer. -/
theorem wrongLengthOrCodeIsRefused : Obligations.WrongLengthOrCodeIsRefused := by
  unfold Obligations.WrongLengthOrCodeIsRefused
  refine ⟨fun c h n s hh hn hl ht => ?_, fun h s ht => ?_⟩
  · obtain ⟨m, after, perform, hm, hexec⟩ := exec_commandRow hh
    rw [hm n hn] at hl
    exact ⟨_, (hexec s).trans (congrArg _ (hear_take_wrongLength ht hl)), outbound_replies _ _ _⟩
  · exact ⟨_, congrArg Host.Outcome.next (hear_take_posted ht rfl), outbound_replies _ _ _⟩

/-- Settles O7: a frame of another kind is dispatched to nothing; after PART RESET no row hears a frame. -/
theorem framesThatDoNothing : Obligations.FramesThatDoNothing := by
  unfold Obligations.FramesThatDoNothing
  refine ⟨fun k s hr hs hy => congrArg _ (hear_synced hr hs hy), fun s => rfl, fun c s hc hs => ?_⟩
  have heard (hc : isGoodFrame c = true ∨ c = .huntGoodFrame) : exec c s = .next s := by
    rcases exec_goodFrame hc s with ⟨f, hf⟩ | ⟨-, hstands⟩
    · rw [hf, hear_duringReset hs]
    · exact hstands
  rcases hc with hc | hc | rfl
  · exact heard (.inl hc)
  · exact heard (.inr hc)
  · exact congrArg _ (if_neg (by simpa using hs))

/-! ## The counts of the receiver (R181 to R183) -/

section
variable {s : State}

/-- In HUNT an event that grants no credit asks the link for nothing (R172, R175). -/
theorem outbound_hunt {s0 : State} (hs : s.link.stage = .none) (hh : s.link.receiver = .hunt)
    (hp : s.passes = s0.passes) : State.outbound s0 s = s := by
  have hcredits : State.creditsAsked s0 s = [] := by
    simp [State.creditsAsked, creditChanged, State.creditOf, State.pass, hp]
  have hnotices : s.noticesAsked = [] := by simp [State.noticesAsked, State.classReady, hh]
  have hreport : s.reportAsked = [] := by simp [State.reportAsked, State.reportReady, hh]
  rw [outbound_eq (by simp [hs]), hcredits, hnotices, hreport]
  exact enqueue_nil s

theorem huntGood_first (hs : s.link.stage = .none) (hh : s.link.receiver = .hunt) (hn : s.link.run = 0) :
    s.huntGood = { s with link := { s.link with good := satInc max32 s.link.good, run := 1 } } := by
  rw [State.huntGood]
  simp only [State.modLink, hn]
  exact outbound_hunt hs hh rfl

theorem badFrame_hunt (hh : s.link.receiver = .hunt) : s.badFrame =
    { s with link := { s.link with bad := satInc max32 s.link.bad, run := 0 } } := by
  simp only [State.badFrame, hh, State.modLink]

theorem badFrame_counted (hy : s.link.receiver = .synced) (hb : s.link.consecBad < 3) : s.badFrame =
    { s with link := { s.link with bad := satInc max32 s.link.bad, consecBad := s.link.consecBad + 1 } } := by
  have hfew : s.link.consecBad + 1 < 4 := by omega
  simp only [State.badFrame, hy, State.modLink, if_pos hfew]

theorem badFrame_fourth (hy : s.link.receiver = .synced) (hb : s.link.consecBad = 3) : s.badFrame = State.linkLost
    { s with link := { s.link with bad := satInc max32 s.link.bad, consecBad := 4 } } := by
  simp only [State.badFrame, hy, State.modLink, hb, Nat.reduceAdd, Nat.lt_irrefl, if_false]

theorem exec_badFrame (hr : s.resetHeld = false) (hs : s.link.stage = .none) :
    exec .badFrame s = .next (State.settle s s.badFrame) :=
  congrArg Host.Outcome.next (eventIf_run hr (decide_eq_true hs) State.badFrame)

theorem exec_laneLoss_hunt (hr : s.resetHeld = false) (hh : s.link.receiver = .hunt) (lane : Fin 4) :
    exec (.laneSignalLoss lane) s = .next { s with link := { s.link with run := 0 } } := by
  refine congrArg Host.Outcome.next ?_
  split
  · exact quietIf_run hr rfl _
  · next hy => rw [hh] at hy; cases hy

theorem exec_laneLoss_synced (hr : s.resetHeld = false) (hy : s.link.receiver = .synced) (lane : Fin 4) :
    exec (.laneSignalLoss lane) s = .next (State.settle s s.linkLost) := by
  refine congrArg Host.Outcome.next ?_
  split
  · next hh => rw [hy] at hh; cases hh
  · exact event_run hr _

end

/-- Settles O8: the counts as each row moves them in the receiver's state. -/
theorem framesAreCounted : Obligations.FramesAreCounted := by
  unfold Obligations.FramesAreCounted
  refine ⟨fun c s hc hr hs hh hn => ?_, fun s hr => ⟨fun hs hh => ?_, fun hs hy hb => ?_,
    fun lane hh => exec_laneLoss_hunt hr hh lane⟩⟩
  · rw [exec_goodFrame_hunt hc hr hs hh, huntGood_first hs hh hn]
  · rw [exec_badFrame hr hs, badFrame_hunt hh]
  · rw [exec_badFrame hr hs, badFrame_counted hy hb]

end Sys2Proof.Machine

namespace Sys2Proof.Machine

/-! ## The entry to SYNCED (R182, R184) -/

/-- An entry that is wanted stands in the queue once every wanted entry that it lacks has been appended. -/
theorem mem_of_asked {α : Type} {e : α → OutEntry} {want : α → Bool} {q : List OutEntry} {l : List α} {a : α}
    (hl : a ∈ l) (hw : want a = true) :
    e a ∈ q ++ (l.filter fun a => want a && decide (e a ∉ q)).map e := by
  by_cases hq : e a ∈ q
  · exact List.mem_append_left _ hq
  · exact List.mem_append_right _ (List.mem_map_of_mem (List.mem_filter.mpr ⟨hl, by simp [hw, hq]⟩))

section
variable {s : State}

theorem notice_asked {k : CauseClass} (h : s.classReady k = true) :
    OutEntry.notice k ∈ s.link.queue ++ s.noticesAsked :=
  mem_of_asked (want := s.classReady) (by cases k <;> decide) h

theorem report_asked (h : s.reportReady = true) : OutEntry.report ∈ s.link.queue ++ s.reportAsked := by
  rw [State.reportAsked]
  by_cases hq : OutEntry.report ∈ s.link.queue
  · exact List.mem_append_left _ hq
  · rw [if_pos ⟨h, hq⟩]
    exact List.mem_append_right _ List.mem_cons_self

/-- The CREDIT entries of the live passes that the queue lacks (R184). -/
def State.liveCredits (s : State) : List OutEntry :=
  ((numbers 4).filter fun j => (s.pass j).any Pass.live && decide (OutEntry.credit j ∉ s.link.queue)).map OutEntry.credit

/-- The receiver in SYNCED, nothing asked of the link yet (R184). -/
def State.synced (s : State) : State := { s with
  notices := (if s.link.firstSync then s.raise (.resetDone .pin) else s).notices.clearOutstanding
  link := { s.link with receiver := .synced, consecBad := 0, firstSync := false } }

theorem enterSynced_eq (s : State) : s.enterSynced = s.synced.enqueue s.liveCredits := by
  have hbase : (if s.link.firstSync then
      State.raise (s.modLink fun l => { l with receiver := .synced, consecBad := 0, firstSync := false }) (.resetDone .pin)
    else s.modLink fun l => { l with receiver := .synced, consecBad := 0, firstSync := false }).modNotices
      Notices.clearOutstanding = s.synced := by
    unfold State.synced
    split <;> rfl
  have hfold := foldl_requests (want := fun s j => (s.pass j).any Pass.live) (e := OutEntry.credit)
    (fun _ _ hx => OutEntry.credit.inj hx) (numbers 4) s.synced (numbers_nodup 4) fun _ _ => rfl
  rw [State.enterSynced, hbase]
  exact hfold

/-- What the entry to SYNCED appends to the outbound queue: its CREDIT entries, then what the blocks ask for. -/
def State.syncedAsks (s s0 : State) : List OutEntry :=
  let u := s.synced.enqueue s.liveCredits
  s.liveCredits ++ (State.creditsAsked s0 u ++ u.noticesAsked ++ u.reportAsked)

/-- The state in which a good frame of HUNT has been counted (R182). -/
def State.huntCounted (s : State) : State :=
  { s with link := { s.link with good := satInc max32 s.link.good, run := s.link.run + 1 } }

theorem huntGood_second (hs : s.link.stage = .none) (hn : 1 ≤ s.link.run) :
    s.huntGood = s.huntCounted.synced.enqueue (s.huntCounted.syncedAsks s) := by
  have hlong : ¬ s.huntCounted.link.run < 2 := Nat.not_lt.mpr (Nat.succ_le_succ hn)
  have hstage : (s.huntCounted.synced.enqueue s.huntCounted.liveCredits).link.stage ≠ .answered := by
    have hkeeps : (s.huntCounted.synced.enqueue s.huntCounted.liveCredits).link.stage = s.link.stage := rfl
    rw [hkeeps, hs]
    exact ResetStage.noConfusion
  calc s.huntGood = State.outbound s (if s.huntCounted.link.run < 2 then s.huntCounted else s.huntCounted.enterSynced) := rfl
    _ = _ := by rw [if_neg hlong, enterSynced_eq, outbound_eq hstage, enqueue_enqueue]; rfl

theorem syncedAsks_noAnswer (s s0 : State) {e : OutEntry} (he : e ∈ s.syncedAsks s0) : e.isAnswer = false := by
  have hmap {α : Type} {f : α → OutEntry} {l : List α} (hf : ∀ a, (f a).isAnswer = false) (he : e ∈ l.map f) :
      e.isAnswer = false := by
    obtain ⟨a, -, rfl⟩ := List.mem_map.mp he
    exact hf a
  rcases List.mem_append.mp he with he | he
  · exact hmap (fun _ => rfl) he
  rcases List.mem_append.mp he with he | he
  · rcases List.mem_append.mp he with he | he
    · exact hmap (fun _ => rfl) he
    · exact hmap (fun _ => rfl) he
  · rw [State.reportAsked] at he
    split at he
    · rw [List.mem_singleton.mp he]; rfl
    · cases he

/-- Every live pass has its CREDIT entry (R184). -/
theorem credit_synced (s0 : State) {j : JobId} {p : Pass} (hp : s.pass j = some p) (hl : p.live = true) :
    OutEntry.credit j ∈ s.link.queue ++ s.syncedAsks s0 := by
  have hmem : OutEntry.credit j ∈ s.link.queue ++ s.liveCredits :=
    mem_of_asked (want := fun j => (s.pass j).any Pass.live) (mem_numbers j) (by rw [hp]; exact hl)
  rw [State.syncedAsks, ← List.append_assoc]
  exact List.mem_append_left _ hmem

/-- No pair is outstanding at the entry to SYNCED, so a class with anything pending is ready (R172, R176). -/
theorem synced_classReady {k : CauseClass} (h : (s.notices.get k).set ≠ [] ∨ (k = .system ∧ s.link.firstSync = true)) :
    (s.synced.enqueue s.liveCredits).classReady k = true := by
  have hclass : s.synced.notices.get k =
      ⟨((if s.link.firstSync then s.raise (.resetDone .pin) else s).notices.get k).set, none⟩ := by
    cases k <;> rfl
  have hset : ((if s.link.firstSync then s.raise (.resetDone .pin) else s).notices.get k).set ≠ [] := by
    by_cases hfirst : s.link.firstSync = true
    · rw [if_pos hfirst]
      cases k with
      | system => exact List.ne_nil_of_mem (mem_raise.mpr (.inr rfl))
      | pass | port | transport | printer => exact h.resolve_right fun hsys => nomatch hsys.1
    · rw [if_neg hfirst]
      exact h.resolve_right fun hsys => hfirst hsys.2
  have hnotices : (s.synced.enqueue s.liveCredits).notices = s.synced.notices := rfl
  have hreceiver : (s.synced.enqueue s.liveCredits).link.receiver = .synced := rfl
  simp [State.classReady, hnotices, hclass, hreceiver, hset]

theorem notice_synced (s0 : State) {k : CauseClass}
    (h : (s.notices.get k).set ≠ [] ∨ (k = .system ∧ s.link.firstSync = true)) :
    OutEntry.notice k ∈ s.link.queue ++ s.syncedAsks s0 := by
  have hmem := notice_asked (synced_classReady h)
  have hqueue : (s.synced.enqueue s.liveCredits).link.queue = s.link.queue ++ s.liveCredits := rfl
  rw [hqueue] at hmem
  simp only [State.syncedAsks, List.mem_append] at hmem ⊢
  tauto

theorem report_synced (s0 : State) (h : s.notices.reports ≠ []) :
    OutEntry.report ∈ s.link.queue ++ s.syncedAsks s0 := by
  have hreports : (s.synced.enqueue s.liveCredits).notices.reports = s.notices.reports := by
    rw [State.synced]
    split <;> rfl
  have hout : (s.synced.enqueue s.liveCredits).notices.reportOut = false := rfl
  have hreceiver : (s.synced.enqueue s.liveCredits).link.receiver = .synced := rfl
  have hmem := report_asked (s := s.synced.enqueue s.liveCredits)
    (by simp [State.reportReady, hreports, hout, hreceiver, h])
  have hqueue : (s.synced.enqueue s.liveCredits).link.queue = s.link.queue ++ s.liveCredits := rfl
  rw [hqueue] at hmem
  simp only [State.syncedAsks, List.mem_append] at hmem ⊢
  tauto

end

/-- Settles O9: the second good frame counts, sets the receiver and the notice unit, and appends what is asked of the link. -/
theorem secondGoodFrameEntersSynced : Obligations.SecondGoodFrameEntersSynced := by
  unfold Obligations.SecondGoodFrameEntersSynced
  intro c s hc hr hs hh hn
  refine ⟨s.huntCounted.syncedAsks s, ?_, fun e he => syncedAsks_noAnswer _ _ he,
    fun j p hp hl => credit_synced (s := s.huntCounted) s hp hl, fun k hk => notice_synced (s := s.huntCounted) s hk,
    fun hreports => report_synced (s := s.huntCounted) s hreports⟩
  have hnotices : (if s.huntCounted.link.firstSync then s.huntCounted.raise (.resetDone .pin) else s.huntCounted).notices =
      (if s.link.firstSync then s.raise (.resetDone .pin) else s).notices :=
    by rw [apply_ite State.notices, apply_ite State.notices]; rfl
  rw [exec_goodFrame_hunt hc hr hs hh, huntGood_second hs hn, State.synced, hnotices]
  rfl

/-! ## The loss of the link (R176, R183) -/

section
variable {s t u : State} {j k : JobId} {p : Pass}

/-- What the aborts of a lost link leave: the link, the queues of reports, image memory, the tables, transport and printer. -/
structure LossFrame (s t : State) : Prop where
  link : t.link = s.link
  reports : t.notices.reports = s.notices.reports
  memory : t.memory = s.memory
  printer : t.printer = s.printer
  transport : t.transport = s.transport
  profiles : t.profiles = s.profiles
  length : ∀ j, (t.job j).length = (s.job j).length

theorem LossFrame.refl (s : State) : LossFrame s s := ⟨rfl, rfl, rfl, rfl, rfl, rfl, fun _ => rfl⟩

theorem LossFrame.trans (h : LossFrame s t) (g : LossFrame t u) : LossFrame s u :=
  ⟨g.link.trans h.link, g.reports.trans h.reports, g.memory.trans h.memory, g.printer.trans h.printer,
    g.transport.trans h.transport, g.profiles.trans h.profiles, fun j => (g.length j).trans (h.length j)⟩

/-- An abort leaves every job's image (R13, R64). -/
theorem abortPass_length (s : State) (j k : JobId) (c : AbortCause) (lba : Option Nat) :
    ((s.abortPass j c lba).job k).length = (s.job k).length := by
  have htables : ((s.abortPass j c lba).job k).tables = (s.job k).tables :=
    congrFun (congrArg Fixed.tables (abortPass_fixed s j c lba)) k
  have hmap : ((s.abortPass j c lba).job k).map = (s.job k).map := congrArg JobTables.map htables
  rw [Job.length, hmap, Job.length]

theorem abortPass_lossFrame (hp : s.pass j = some p) (hl : p.live = true) (c : AbortCause) (lba : Option Nat) :
    LossFrame s (s.abortPass j c lba) := by
  obtain ⟨-, -, hframe⟩ := abortPass_spec hp hl c lba
  exact ⟨by rw [hframe], by rw [hframe]; rfl, by rw [hframe], by rw [hframe], by rw [hframe], by rw [hframe],
    fun k => abortPass_length s j k c lba⟩

/-- The link's loss aborts the job's pass: it is live and its ingress incomplete (R183). -/
abbrev State.losesPass (s : State) (j : JobId) (p : Pass) : Prop :=
  s.pass j = some p ∧ p.live = true ∧ p.comp.head ≠ (s.job j).length

theorem losePass_aborts (h : s.losesPass j p) : s.losePass j = s.abortPass j .linkLost none := by
  obtain ⟨hp, hl, hhead⟩ := h
  exact if_pos (by simp [hp, hl, Pass.complete, hhead])

theorem losePass_stands (h : ∀ p, s.pass j = some p → p.live = false ∨ p.comp.head = (s.job j).length) :
    s.losePass j = s := by
  refine if_neg fun hany => ?_
  obtain ⟨p, hp, hloses⟩ := (Option.any_eq_true _ _).mp hany
  obtain ⟨hl, hhead⟩ := Bool.and_eq_true_iff.mp hloses
  rcases h p hp with hdead | hcomplete
  · rw [hl] at hdead; cases hdead
  · simp [Pass.complete, hcomplete] at hhead

theorem losePass_cases (s : State) (j : JobId) : s.losePass j = s ∨ ∃ p, s.losesPass j p := by
  by_cases h : ∃ p, s.losesPass j p
  · exact .inr h
  · refine .inl (losePass_stands fun p hp => ?_)
    by_contra hno
    rw [not_or, Bool.not_eq_false] at hno
    exact h ⟨p, hp, hno⟩

theorem losePass_lossFrame (s : State) (j : JobId) : LossFrame s (s.losePass j) := by
  rcases losePass_cases s j with h | ⟨p, h⟩
  · rw [h]; exact .refl s
  · rw [losePass_aborts h]
    obtain ⟨hp, hl, -⟩ := h
    exact abortPass_lossFrame hp hl _ _

theorem losePass_pass_ne (s : State) (j k : JobId) (hk : k ≠ j) : (s.losePass j).pass k = s.pass k := by
  rcases losePass_cases s j with h | ⟨p, h⟩
  · rw [h]
  · rw [losePass_aborts h]
    obtain ⟨hp, hl, -⟩ := h
    obtain ⟨-, hothers, -⟩ := abortPass_spec hp hl .linkLost none
    exact hothers k hk

/-- The aborts of the four jobs, before the receiver leaves SYNCED. -/
def State.losePasses (s : State) : State := (numbers 4).foldl State.losePass s

/-- The four jobs in turn: what becomes of a job's pass is what `losePass` does to it, each job's image standing. -/
theorem losePasses_visit (s : State) (j : JobId) :
    ∃ t, LossFrame s t ∧ t.pass j = s.pass j ∧ s.losePasses.pass j = (t.losePass j).pass j := by
  obtain ⟨t, hframe, hpass, -, hres⟩ := foldl_visit (f := State.losePass) (obs := State.pass) LossFrame.refl
    LossFrame.trans losePass_lossFrame losePass_pass_ne (numbers_nodup 4) (mem_numbers j) s
  exact ⟨t, hframe, hpass, hres⟩

theorem losePasses_aborts (hp : s.pass j = some p) (hl : p.live = true) (hhead : p.comp.head ≠ (s.job j).length) :
    ∃ q, s.losePasses.pass j = some q ∧ q.state = .aborted ∧ q.cause = some .linkLost ∧ q.number = p.number ∧
      q.comp.credits = p.comp.credits ∧ q.comp.head = p.comp.head := by
  obtain ⟨t, hframe, hpass, hres⟩ := losePasses_visit s j
  have hpt : t.pass j = some p := hpass.trans hp
  obtain ⟨⟨q, hq, hstate, hcause, hnumber, -, hcomp⟩, -, -⟩ := abortPass_spec hpt hl .linkLost none
  refine ⟨q, ?_, hstate, hcause, hnumber, by rw [hcomp], by rw [hcomp]⟩
  rw [hres, losePass_aborts ⟨hpt, hl, by rwa [hframe.length]⟩, hq]

theorem losePasses_stands (h : ∀ p, s.pass j = some p → p.live = false ∨ p.comp.head = (s.job j).length) :
    s.losePasses.pass j = s.pass j := by
  obtain ⟨t, hframe, hpass, hres⟩ := losePasses_visit s j
  rw [hres, losePass_stands fun p hp => by rw [hframe.length]; exact h p (hpass ▸ hp), hpass]

/-- The entries of the outbound queue that stay when the link is lost: answers and CREDIT entries (R176, R183). -/
def OutEntry.outlastsLink : OutEntry → Bool
  | .notice _ | .report => false
  | .answer _ | .credit _ => true

theorem losePasses_lossFrame (s : State) : LossFrame s s.losePasses :=
  foldl_rel LossFrame.refl LossFrame.trans losePass_lossFrame (numbers 4) s

theorem linkLost_eq (s : State) : s.linkLost = { s.losePasses with
    link := { s.link with receiver := .hunt, run := 0, queue := s.link.queue.filter OutEntry.outlastsLink } } := by
  rw [← (losePasses_lossFrame s).link]
  rfl

/-- The state in which the link is lost: a bad frame has been counted, a lane's loss counts nothing (R183). -/
def State.lossCounted (s : State) (c : Instr) (consec : Nat) : State := { s with link := { s.link with
  bad := if c = .badFrame then satInc max32 s.link.bad else s.link.bad, consecBad := consec } }

/-- The rows that take the receiver from SYNCED to HUNT (R183). -/
theorem exec_linkLost {c : Instr} (hr : s.resetHeld = false) (hy : s.link.receiver = .synced)
    (hc : (c = .badFrame ∧ s.link.stage = .none ∧ s.link.consecBad = 3) ∨ ∃ lane, c = .laneSignalLoss lane) :
    ∃ n, exec c s = .next (State.settle s (s.lossCounted c n).linkLost) := by
  rcases hc with ⟨rfl, hs, hbad⟩ | ⟨lane, rfl⟩
  · refine ⟨4, ?_⟩
    rw [exec_badFrame hr hs, badFrame_fourth hy hbad]
    rfl
  · exact ⟨s.link.consecBad, exec_laneLoss_synced hr hy lane⟩

end

/-- Settles O10: both rows come to `linkLost` of a state with its count; the jobs are visited one by one, no abort touching
another job's pass. -/
theorem linkLossAbortsIncompletePasses : Obligations.LinkLossAbortsIncompletePasses := by
  unfold Obligations.LinkLossAbortsIncompletePasses
  intro c s hr hy hc
  obtain ⟨n, hexec⟩ := exec_linkLost hr hy hc
  have hframe := losePasses_lossFrame (s.lossCounted c n)
  have haborts {j : JobId} {p : Pass} := losePasses_aborts (s := s.lossCounted c n) (j := j) (p := p)
  have hstands {j : JobId} := losePasses_stands (s := s.lossCounted c n) (j := j)
  refine ⟨_, hexec, ?_⟩
  rw [linkLost_eq]
  generalize (s.lossCounted c n).losePasses = t at *
  exact ⟨rfl, rfl, rfl, rfl, rfl, fun j p hp hl hhead => haborts hp hl hhead, fun j hj => hstands hj, hframe.memory,
    hframe.printer, hframe.transport, hframe.profiles, hframe.reports⟩

end Sys2Proof.Machine

namespace Sys2Proof.Machine

/-! ## READ (R188, R193) -/

section
variable {α : Type}

/-- Runs of `k` cut one after another from a list make up its beginning. -/
theorem flatten_runs (k : Nat) (d : List α) (n : Nat) :
    ((List.range n).map fun i => (d.drop (k * i)).take k).flatten = d.take (k * n) := by
  induction n with
  | zero => simp
  | succ n ih => rw [List.range_succ, List.map_append, List.flatten_append, ih, Nat.mul_succ, List.take_add]; simp

end

theorem readFrames_length (d : List Byte) : (readFrames d).length = (d.length + 2047) / 2048 := by
  simp [readFrames]

theorem readFrames_flatten (d : List Byte) : (readFrames d).flatten = d := by
  rw [readFrames, flatten_runs]
  exact List.take_of_length_le (by omega)

theorem length_of_mem_readFrames {d f : List Byte} (hf : f ∈ readFrames d) : f.length ≤ 2048 := by
  obtain ⟨i, -, rfl⟩ := List.mem_map.mp hf
  exact List.length_take_le _ _

/-- Data that one frame holds leave in one frame. -/
theorem readFrames_single {d : List Byte} (h0 : 0 < d.length) (h1 : d.length ≤ 2048) : readFrames d = [d] := by
  have hcount : (d.length + 2047) / 2048 = 1 := by omega
  simp [readFrames, hcount, List.take_of_length_le h1]

section
variable {h : CmdHdr} {a : ReadArgs} {s : State}

theorem readClear_unasked (hc : a.clear ≠ 1) : readClear s a = s := if_pos hc

theorem readClear_roster (hc : a.clear = 1) (hk : a.kind.toNat = 4) : readClear s a = { s with unreported := 0 } := by
  rw [readClear, if_neg (not_not.mpr hc), if_pos hk]

theorem readClear_link (hc : a.clear = 1) (hk : a.kind.toNat = 18) : readClear s a =
    { s with link := { s.link with good := 0, bad := 0, stray := 0, dropped := 0 } } := by
  have hroster : ¬ a.kind.toNat = 4 := by omega
  rw [readClear, if_neg (not_not.mpr hc), if_neg hroster, if_pos hk]
  rfl

theorem readClear_otherKind (h4 : a.kind.toNat ≠ 4) (h18 : a.kind.toNat ≠ 18) : readClear s a = s := by
  by_cases hc : a.clear = 1
  · rw [readClear, if_neg (not_not.mpr hc), if_neg h4, if_neg h18]
  · exact readClear_unasked hc

/-- The row of READ: `readObject` is performed and answered, and only the link acts after it. -/
theorem exec_read_replies (ht : s.takes) (hl : h.len = 24) {u : State} {e : AnswerEntry}
    (hp : readObject h a s.countGood = (u, e)) : ∃ t, exec (.read h a) s = .next t ∧ State.replies u t e := by
  refine ⟨_, congrArg Host.Outcome.next (hear_take_posted ht hl), ?_⟩
  rw [hp]
  exact outbound_replies _ _ _

theorem readObject_data {d : List Byte} (hd : readData s a = .ok d) (hn : d.length ≤ maxAnswer) : readObject h a s =
    (readClear s a, ⟨h.tag, .ok (halfOf ((d.length + 2047) / 2048)), readFrames d, false⟩) := by
  rw [readObject, hd, ← readFrames_length]
  exact if_neg hn.not_gt

theorem readObject_refused {i : Nat} (hd : readData s a = .error i) :
    readObject h a s = (s, answerTo h (.invalid i)) := by
  rw [readObject, hd]

/-! ### The objects' data -/

theorem readData_link (hk : a.kind = 18) (h0 : a.number.extractLsb' 0 8 = 0) : readData s a = .ok (linkSlots s) := by
  rw [readData, hk, h0]
  rfl

theorem readData_noKind (hk : 18 < a.kind.toNat) : readData s a = .error 0 := by
  obtain ⟨n, hn⟩ := Nat.exists_eq_add_of_le' hk
  rw [readData, hn]
  rfl

theorem readData_noJob (hk : a.kind = 0 ∨ a.kind = 1 ∨ a.kind = 12 ∨ a.kind = 14 ∨ a.kind = 17)
    (hj : 4 ≤ (a.number.extractLsb' 0 8).toNat) : readData s a = .error 0 := by
  rw [readData, numbered_none hj]
  rcases hk with hk | hk | hk | hk | hk <;> rw [hk] <;> rfl

theorem readData_badDigest (hk : a.kind = 14) (hj : (a.number.extractLsb' 0 8).toNat < 4)
    (hf : 131072 ≤ a.first.toNat) : readData s a = .error 1 := by
  rw [readData, numbered_eq (i := ⟨_, hj⟩) rfl, hk]
  exact if_pos (.inl hf)

theorem slot_length (n : Nat) : (slot n).length = 4 := rfl

/-- The link statistics in their order (R188). -/
theorem linkSlots_eq (s : State) : linkSlots s =
    slot s.link.good ++ slot s.link.bad ++ slot s.link.stray ++ slot s.link.dropped ++ slot s.link.receiver.code
      ++ slot s.link.run ++ slot s.link.consecBad := by
  simp only [linkSlots, slots, List.flatMap_cons, List.flatMap_nil, List.append_nil, List.append_assoc]

/-- READ of the link statistics is answered in one frame, the READ's own frame counted. -/
theorem readObject_link (hy : s.link.receiver = .synced) (hk : a.kind = 18) (h0 : a.number.extractLsb' 0 8 = 0) :
    readObject h a s.countGood = (readClear s.countGood a, ⟨h.tag, .ok 1,
      [slot (satInc max32 s.link.good) ++ slot s.link.bad ++ slot s.link.stray ++ slot s.link.dropped ++ slot 1
        ++ slot s.link.run ++ slot 0], false⟩) := by
  have hlength : (linkSlots s.countGood).length = 28 := by
    simp only [linkSlots_eq, List.length_append, slot_length]
  have hslots : linkSlots s.countGood = slot (satInc max32 s.link.good) ++ slot s.link.bad ++ slot s.link.stray
      ++ slot s.link.dropped ++ slot 1 ++ slot s.link.run ++ slot 0 := by
    have hcode : s.countGood.link.receiver.code = 1 := congrArg Receiver.code hy
    rw [linkSlots_eq, hcode]
    rfl
  rw [readObject_data (readData_link hk h0) (by rw [hlength]; decide),
    readFrames_single (by omega) (by omega), hlength, hslots]
  rfl

end

/-- Settles O17: READ's work is its object's data or a refusal, one equation for each kind that the statement names. -/
theorem readAnswersWithData : Obligations.ReadAnswersWithData := by
  unfold Obligations.ReadAnswersWithData
  refine ⟨⟨fun h a s d ht hl hd hn => exec_read_replies ht hl (readObject_data hd hn), fun d =>
    ⟨readFrames_flatten d, readFrames_length d, fun f hf => length_of_mem_readFrames hf⟩, fun a s =>
    ⟨readClear_unasked, readClear_roster, readClear_link, readClear_otherKind⟩⟩, fun h a s ht hl => ?_⟩
  have ⟨_, _, hy, _⟩ := ht
  refine ⟨fun hk h0 => exec_read_replies ht hl (readObject_link hy hk h0),
    fun hwrong => exec_read_replies ht hl (readObject_refused ?_),
    fun hk hj hf => exec_read_replies ht hl (readObject_refused (readData_badDigest hk hj hf))⟩
  rcases hwrong with hk | ⟨hk, hj⟩
  · exact readData_noKind hk
  · exact readData_noJob hk hj

end Sys2Proof.Machine

namespace Sys2Proof.Machine

/-! ## A COMMAND payload reads as what was written into it (R192) -/

/-- A payload reads as the bytes `q` from offset `o` on. -/
def Carries (p : List Byte) (o : Nat) (q : List Byte) : Prop := ∀ r < q.length, byteAt p (o + r) = byteAt q r

section
variable {α : Type} {p : List Byte} {o : Nat}

theorem carries_self (p : List Byte) : Carries p 0 p := fun r _ => by rw [Nat.zero_add]

theorem carries_append {a b : List Byte} :
    Carries p o (a ++ b) ↔ Carries p o a ∧ Carries p (o + a.length) b := by
  have left {r : Nat} (hr : r < a.length) : byteAt (a ++ b) r = byteAt a r := List.getD_append a b 0 r hr
  have right (r : Nat) : byteAt (a ++ b) (a.length + r) = byteAt b r := by
    rw [byteAt, List.getD_append_right a b 0 _ (Nat.le_add_right _ _), Nat.add_sub_cancel_left, byteAt]
  constructor
  · refine fun h => ⟨fun r hr => ?_, fun r hr => ?_⟩
    · rw [h r (by rw [List.length_append]; omega), left hr]
    · rw [Nat.add_assoc, h _ (by rw [List.length_append]; omega), right]
  · rintro ⟨ha, hb⟩ r hr
    by_cases hlt : r < a.length
    · rw [ha r hlt, left hlt]
    · obtain ⟨k, rfl⟩ := Nat.exists_eq_add_of_le (not_lt.mp hlt)
      rw [List.length_append] at hr
      rw [← Nat.add_assoc, hb k (by omega), right]

theorem carries_cons {b : Byte} {q : List Byte} : Carries p o (b :: q) ↔ byteAt p o = b ∧ Carries p (o + 1) q := by
  have hone : Carries p o [b] ↔ byteAt p o = b :=
    ⟨fun h => h 0 Nat.one_pos, fun h r hr => by rw [Nat.lt_one_iff.mp hr]; exact h⟩
  rw [← List.singleton_append, carries_append, hone]
  rfl

/-! ### The fields that a payload is made of -/

theorem slotByte_length (b : Byte) : (slotByte b).length = 4 := rfl
theorem slotHalf_length (w : Half) : (slotHalf w).length = 4 := rfl
theorem halfBytes_length (w : Half) : (halfBytes w).length = 2 := rfl
theorem wordBytes_length (w : Word) : (wordBytes w).length = 4 := rfl

theorem byteAt_slotByte {b : Byte} (h : Carries p o (slotByte b)) : byteAt p o = b := (carries_cons.mp h).1

theorem half_halfBytes {w : Half} (h : Carries p o (halfBytes w)) : half p o = w := by
  rw [halfBytes_eq, carries_cons, carries_cons] at h
  obtain ⟨hlo, hhi, -⟩ := h
  rw [half, hlo, hhi, hiByte_loByte]

theorem half_slotHalf {w : Half} (h : Carries p o (slotHalf w)) : half p o = w :=
  half_halfBytes (carries_append.mp h).1

theorem word_wordBytes {w : Word} (h : Carries p o (wordBytes w)) : word p o = w := by
  rw [wordBytes, carries_cons, carries_cons, carries_cons, carries_cons] at h
  obtain ⟨h0, h1, h2, h3, -⟩ := h
  rw [word, h0, h1, h2, h3, BitVec.extractLsb'_append_extractLsb'_eq_extractLsb' (by rfl),
    BitVec.extractLsb'_append_extractLsb'_eq_extractLsb' (by rfl),
    BitVec.extractLsb'_append_extractLsb'_eq_extractLsb' (by rfl)]
  exact BitVec.extractLsb'_eq_self

/-- Entry `i` of entries of one size stands at `i` times the size. -/
theorem carries_flatMap {f : α → List Byte} {k : Nat} (hk : ∀ x, (f x).length = k) {xs : List α} :
    ∀ {o : Nat}, Carries p o (xs.flatMap f) → ∀ (i : Nat) (hi : i < xs.length), Carries p (o + k * i) (f xs[i]) := by
  induction xs with
  | nil => intro o _ i hi; exact absurd hi (Nat.not_lt_zero i)
  | cons x xs ih =>
    intro o h i hi
    rw [List.flatMap_cons, carries_append, hk] at h
    obtain ⟨hx, hxs⟩ := h
    cases i with
    | zero => exact hx
    | succ i =>
      have hnext := ih hxs i (Nat.lt_of_succ_lt_succ hi)
      rwa [Nat.add_assoc, Nat.add_comm k, ← Nat.mul_succ] at hnext

/-- A counted list reads as its entries. -/
theorem decodeList_encodeList {enc : α → List Byte} {dec : List Byte → Nat → α} {k : Nat} {xs : List α}
    (hk : ∀ x, (enc x).length = k) (hdec : ∀ {o x}, Carries p o (enc x) → dec p o = x) (hn : countFits xs.length = true)
    (h : Carries p o (encodeList enc xs)) : decodeList dec k p o = xs := by
  obtain ⟨hcount, hentries⟩ := carries_append.mp h
  have hlength : (half p o).toNat = xs.length := by
    rw [half_slotHalf hcount, halfOf, BitVec.toNat_ofNat]
    exact Nat.mod_eq_of_lt (of_decide_eq_true hn)
  rw [decodeList, hlength]
  refine List.ext_getElem (by simp) fun i hi hi' => ?_
  rw [List.getElem_map, List.getElem_range]
  exact hdec (carries_flatMap hk hentries i hi')

/-- Bytes one after another read as a vector of them. -/
theorem carries_bytes {q : List Byte} (h : Carries p o q) (i : Nat) (hi : i < q.length) : byteAt p (o + i) = q[i] := by
  rw [h i hi, byteAt, List.getD_eq_getElem _ _ hi]

end

/-! ### The entries of chapter 11.2 -/

section
variable {p : List Byte} {o : Nat}

theorem decodeExtent_encodeExtent {e : ExtentEntry} (h : Carries p o (encodeExtent e)) : decodeExtent p o = e := by
  simp only [encodeExtent, carries_append, carries_cons, List.length_cons, List.length_nil, Nat.reduceAdd,
    and_assoc] at h
  obtain ⟨hkind, hfill, -, -, -, hlength⟩ := h
  rw [decodeExtent, hkind, hfill, word_wordBytes hlength]

theorem decodeProfile_encodeProfile {e : ProfileEntry} (h : Carries p o (encodeProfile e)) :
    decodeProfile p o = e := by
  simp only [encodeProfile, carries_append, carries_cons, List.length_append, List.length_cons, List.length_nil,
    halfBytes_length, Nat.add_assoc, Nat.reduceAdd, and_assoc] at h
  obtain ⟨hmode, hstride, hweight, -, -, hpw, hpf, hmw, hmf, hdest, hprint, -⟩ := h
  rw [decodeProfile, hmode, hstride, hweight, hdest, hprint, half_halfBytes hpw, half_halfBytes hpf,
    half_halfBytes hmw, half_halfBytes hmf]

theorem decodeField_encodeField {e : FieldEntry} (h : Carries p o (encodeField e)) : decodeField p o = e := by
  simp only [encodeField, carries_append, carries_cons, List.length_append, List.length_cons, List.length_nil,
    halfBytes_length, Nat.add_assoc, Nat.reduceAdd, and_assoc] at h
  obtain ⟨hkind, hscale, hwidth, hcount, -, hx, hy, hglyphs⟩ := h
  have hvector : (Vector.ofFn fun i : Fin 16 => byteAt p (o + 8 + i.val)) = e.glyphs :=
    Vector.ext fun i hi => by
      rw [Vector.getElem_ofFn, carries_bytes hglyphs i (by simpa using hi), Vector.getElem_toList]
  rw [decodeField, hkind, hscale, hwidth, hcount, half_halfBytes hx, half_halfBytes hy, hvector]

theorem decodeGlyph_encodeGlyph {g : Glyph} (h : Carries p o (encodeGlyph g)) : decodeGlyph p o = g := by
  refine Vector.ext fun y hy => ?_
  have hrow := carries_flatMap (k := 2) (fun _ => rfl) h y (by simpa using hy)
  rw [carries_cons, carries_cons, Vector.getElem_toList] at hrow
  obtain ⟨hhi, hlo, -⟩ := hrow
  rw [decodeGlyph, Vector.getElem_ofFn, hhi, hlo]
  exact hiByte_loByte g[y]

theorem decodeTiming_encodeTiming {e : TimingEntry} (h : Carries p 4 (encodeTiming e)) : decodeTiming p = e := by
  simp only [encodeTiming, carries_append, List.length_append, slotHalf_length, slotByte_length, Nat.reduceAdd,
    and_assoc] at h
  obtain ⟨hprobe, htray, hcheck, hwrite, hsync, hclose, hread, hwake, hretry, hpause, hstandby⟩ := h
  rw [decodeTiming, half_slotHalf hprobe, half_slotHalf htray, half_slotHalf hcheck, half_slotHalf hwrite,
    half_slotHalf hsync, half_slotHalf hclose, half_slotHalf hread, half_slotHalf hwake, byteAt_slotByte hretry,
    half_slotHalf hpause, byteAt_slotByte hstandby]

theorem decodeGlyphs_encodeGlyphs {gs : Vector Glyph 16} (h : Carries p 4 (gs.toList.flatMap encodeGlyph)) :
    (Vector.ofFn fun g : Fin 16 => decodeGlyph p (4 + 48 * g.val)) = gs := by
  refine Vector.ext fun g hg => ?_
  have hglyph := carries_flatMap Laws.CommandForm.encodeGlyph_length h g (by simpa using hg)
  rw [Vector.getElem_ofFn, decodeGlyph_encodeGlyph hglyph, Vector.getElem_toList]

end

/-! ### Commands -/

section
variable {p fs : List Byte} {k : Nat} {c : Instr} {h : CmdHdr}

/-- A payload that is a command's begins with its code and reserved bytes; its fields stand from byte 4 on. -/
theorem encodeCommand_carries (he : encodeCommand c = some p) (hf : commandFields c = some (k, fs)) (hk : k < 65536) :
    ¬ p.length < 2 ∧ (half p 0).toNat = k ∧ Carries p 4 fs := by
  rw [encodeCommand, hf] at he
  cases he
  obtain ⟨hcode, hfields⟩ := carries_append.mp (carries_self (slotHalf (halfOf k) ++ fs))
  refine ⟨?_, ?_, hfields⟩
  · rw [List.length_append, slotHalf_length]; omega
  · rw [half_slotHalf hcode, halfOf, BitVec.toNat_ofNat]
    exact Nat.mod_eq_of_lt hk

/-- The decoder reads back every command that it was given the payload of, its lists counted in two bytes (R192). -/
theorem decodeCommand_encodeCommand (hw : c.wf = true) (hh : c.header = some h) (he : encodeCommand c = some p)
    (hl : h.len = p.length) : decodeCommand h.tag p = c := by
  have hheader : (⟨h.tag, p.length⟩ : CmdHdr) = h := by rw [← hl]
  cases c <;> cases hh
  case unknownCommand => cases he
  all_goals
    obtain ⟨hlong, hcode, hf⟩ := encodeCommand_carries he rfl (by decide)
    simp only [decodeCommand, if_neg hlong, hcode, hheader]
  case jobRun | jobDrain | jobHalt | jobClose | digestReset | passStart | passAbort | portReset | portService |
      faultClear => rw [byteAt_slotByte hf]
  case jobOpen =>
    obtain ⟨hjob, hring⟩ := carries_append.mp hf
    rw [byteAt_slotByte hjob, half_slotHalf (o := 8) hring]
  case setJob =>
    simp only [carries_append, List.length_append, slotHalf_length, slotByte_length, Nat.reduceAdd, and_assoc] at hf
    obtain ⟨hjob, hprefill, hlag, htarget, hbin, hprofile, htemplate⟩ := hf
    rw [byteAt_slotByte hjob, half_slotHalf hprefill, half_slotHalf hlag, half_slotHalf htarget, byteAt_slotByte hbin,
      byteAt_slotByte hprofile, byteAt_slotByte htemplate]
  case loadMap =>
    obtain ⟨-, hn⟩ := Bool.and_eq_true_iff.mp hw
    obtain ⟨hjob, hextents⟩ := carries_append.mp hf
    rw [byteAt_slotByte hjob, decodeList_encodeList (o := 8) Laws.CommandForm.encodeExtent_length
      decodeExtent_encodeExtent hn hextents]
  case loadProfile =>
    obtain ⟨hnumber, hentry⟩ := carries_append.mp hf
    rw [byteAt_slotByte hnumber, decodeProfile_encodeProfile (o := 8) hentry]
  case assignPort | hostMove =>
    obtain ⟨hfirst, hsecond⟩ := carries_append.mp hf
    rw [byteAt_slotByte hfirst, byteAt_slotByte (o := 8) hsecond]
  case loadTiming => rw [decodeTiming_encodeTiming hf]
  case setSerial =>
    simp only [carries_append, List.length_append, slotHalf_length, slotByte_length, wordBytes_length, Nat.reduceAdd,
      and_assoc] at hf
    obtain ⟨hjob, hbase, hstep, hwidth, hpad⟩ := hf
    rw [byteAt_slotByte hjob, word_wordBytes hbase, half_slotHalf hstep, byteAt_slotByte hwidth, byteAt_slotByte hpad]
  case loadTemplate =>
    obtain ⟨-, hn⟩ := Bool.and_eq_true_iff.mp hw
    simp only [carries_append, List.length_append, slotByte_length, wordBytes_length, Nat.reduceAdd, and_assoc] at hf
    obtain ⟨hnumber, hoffset, hchunk⟩ := hf
    have hbyte {o : Nat} {b : Byte} (hb : Carries p o [b]) : byteAt p o = b := (carries_cons.mp hb).1
    rw [byteAt_slotByte hnumber, word_wordBytes hoffset,
      decodeList_encodeList (enc := fun b => [b]) (fun _ => rfl) hbyte hn hchunk]
  case setTemplate =>
    obtain ⟨-, hn⟩ := Bool.and_eq_true_iff.mp hw
    simp only [carries_append, List.length_append, slotByte_length, slotHalf_length, Nat.reduceAdd, and_assoc] at hf
    obtain ⟨hnumber, hinner, houter, hfields⟩ := hf
    rw [byteAt_slotByte hnumber, half_slotHalf hinner, half_slotHalf houter,
      decodeList_encodeList Laws.CommandForm.encodeField_length decodeField_encodeField hn hfields]
  case loadGlyphs => rw [decodeGlyphs_encodeGlyphs hf]
  case ribbonLoad => rw [half_slotHalf hf]
  case ackNotice =>
    simp only [carries_append, List.length_append, slotByte_length, Nat.reduceAdd, and_assoc] at hf
    obtain ⟨hclass, hcause, hobject⟩ := hf
    rw [byteAt_slotByte hclass, byteAt_slotByte hcause, half_slotHalf hobject]
  case read =>
    simp only [carries_append, List.length_append, slotByte_length, slotHalf_length, wordBytes_length, Nat.reduceAdd,
      and_assoc] at hf
    obtain ⟨hkind, hnumber, hfirst, hcount, hclear⟩ := hf
    rw [byteAt_slotByte hkind, half_slotHalf hnumber, word_wordBytes hfirst, word_wordBytes hcount,
      byteAt_slotByte hclear]

end

/-! ## The row that a frame's arrival is (R181, R182, R185, R189) -/

section
variable {l : Link} {f : InFrame}

theorem good_iff : f.good = true ↔ f.broken = false ∧ f.length ≤ Config.maxPayload ∧
    f.payload.length = f.length ∧ crc f.covered = f.check := by
  simp only [InFrame.good, Bool.and_eq_true, Bool.not_eq_true', decide_eq_true_eq, and_assoc]

theorem arrivalRow_duringReset (hs : l.stage ≠ .none) : arrivalRow l f = .frameDuringReset := if_pos hs

theorem arrivalRow_bad (hs : l.stage = .none) (hb : f.good = false) : arrivalRow l f = .badFrame := by
  simp [arrivalRow, hs, hb]

theorem arrivalRow_hunt (hs : l.stage = .none) (hg : f.good = true) (hh : l.receiver = .hunt) :
    arrivalRow l f = .huntGoodFrame := by
  simp [arrivalRow, hs, hg, hh]

section
variable (hs : l.stage = .none) (hg : f.good = true) (hy : l.receiver = .synced)
include hs hg hy

theorem arrivalRow_image (hk : f.kind = 1) : arrivalRow l f = .imageFrame f.object f.payload := by
  simp [arrivalRow, hs, hg, hy, hk]

theorem arrivalRow_command (hk : f.kind = 2) : arrivalRow l f =
    if Config.answerRoom ≤ l.unsent then .commandDropped else decodeCommand f.tag f.payload := by
  simp [arrivalRow, hs, hg, hy, hk, Link.unsent] <;> rfl

theorem arrivalRow_otherKind (h1 : f.kind ≠ 1) (h2 : f.kind ≠ 2) : arrivalRow l f = .otherKindFrame f.kind := by
  have h1 : f.kind.toNat ≠ 1 := fun h => h1 (BitVec.eq_of_toNat_eq h)
  have h2 : f.kind.toNat ≠ 2 := fun h => h2 (BitVec.eq_of_toNat_eq h)
  rw [arrivalRow, if_neg (not_not.mpr hs), if_neg (by simp [hg]), if_neg (by simp [hy])]
  split
  · contradiction
  · contradiction
  · rfl

end

end

/-- Settles O6: the judgements of a frame in their order; a command's payload decodes as it was encoded. -/
theorem frameArrivesAsItsRow : Obligations.FrameArrivesAsItsRow := by
  unfold Obligations.FrameArrivesAsItsRow
  refine ⟨fun l f => ⟨arrivalRow_duringReset, fun hs hbad => arrivalRow_bad hs ?_,
    fun hs hb hn hp hc => ?_⟩, fun c s hc hr hs hy hfull => exec_noRoom hc hr hs hy hfull⟩
  · refine Bool.eq_false_iff.mpr fun hg => ?_
    obtain ⟨hbroken, hshort, hlength, hcheck⟩ := good_iff.mp hg
    rcases hbad with h | h | h | h
    · rw [hbroken] at h; cases h
    · exact absurd hshort h.not_ge
    · exact h hlength
    · exact h hcheck
  · have hg : f.good = true := good_iff.mpr ⟨hb, hn, hp, hc⟩
    refine ⟨arrivalRow_hunt hs hg, arrivalRow_image hs hg, arrivalRow_otherKind hs hg, fun hy hk hfull => ?_,
      fun c h hy hk hroom hw hh htag he hl => ?_⟩
    · exact (arrivalRow_command hs hg hy hk).trans (if_pos hfull)
    · refine (arrivalRow_command hs hg hy hk).trans ((if_neg hroom.not_ge).trans ?_)
      exact htag ▸ decodeCommand_encodeCommand hw hh he hl

end Sys2Proof.Machine
